-- ==== Sys2Proof/Word.lean ====
section
/-! DEFINITION. The word types of the two buses and the small fixed-size collections the part is made of
(two sides, six meters, eight hoses, eight grades, four positions): one field per member, so that every
collection is plain data that two states can be compared by. -/

namespace Sys2Proof

/-- A byte of a site or local frame (R198 to R202). -/
abbrev Byte := BitVec 8

/-- A CRC-16 check (R199). -/
abbrev Word16 := BitVec 16

/-- A side of the dispenser; reader A belongs to side A and reader B to side B (00 section 4.2). -/
inductive Side where
  | a | b
  deriving DecidableEq, Repr

/-- The meter channels M1 to M6. -/
inductive Meter where
  | m1 | m2 | m3 | m4 | m5 | m6
  deriving DecidableEq, Repr

/-- The hoses 1 to 8. -/
inductive Hose where
  | h1 | h2 | h3 | h4 | h5 | h6 | h7 | h8
  deriving DecidableEq, Repr

/-- The positions 1 to 4 of a side. -/
inductive Position where
  | p1 | p2 | p3 | p4
  deriving DecidableEq, Repr

/-- The grades 1 to 8. -/
inductive Grade where
  | g1 | g2 | g3 | g4 | g5 | g6 | g7 | g8
  deriving DecidableEq, Repr

/-- The price levels 1 and 2. -/
inductive Level where
  | l1 | l2
  deriving DecidableEq, Repr

def Side.other : Side → Side
  | .a => .b
  | .b => .a

def Meter.all : List Meter := [.m1, .m2, .m3, .m4, .m5, .m6]
def Hose.all : List Hose := [.h1, .h2, .h3, .h4, .h5, .h6, .h7, .h8]
def Position.all : List Position := [.p1, .p2, .p3, .p4]
def Grade.all : List Grade := [.g1, .g2, .g3, .g4, .g5, .g6, .g7, .g8]

/-- One value for each side. -/
structure PerSide (α : Type) where
  a : α
  b : α
  deriving DecidableEq, Repr

def PerSide.get {α : Type} (t : PerSide α) : Side → α
  | .a => t.a
  | .b => t.b

def PerSide.set {α : Type} (t : PerSide α) : Side → α → PerSide α
  | .a, v => { t with a := v }
  | .b, v => { t with b := v }

/-- One value for each level. -/
structure PerLevel (α : Type) where
  l1 : α
  l2 : α
  deriving DecidableEq, Repr

def PerLevel.get {α : Type} (t : PerLevel α) : Level → α
  | .l1 => t.l1
  | .l2 => t.l2

def PerLevel.set {α : Type} (t : PerLevel α) : Level → α → PerLevel α
  | .l1, v => { t with l1 := v }
  | .l2, v => { t with l2 := v }

/-- One value for each position of a side. -/
structure PerPosition (α : Type) where
  p1 : α
  p2 : α
  p3 : α
  p4 : α
  deriving DecidableEq, Repr

def PerPosition.get {α : Type} (t : PerPosition α) : Position → α
  | .p1 => t.p1
  | .p2 => t.p2
  | .p3 => t.p3
  | .p4 => t.p4

/-- One value for each meter channel. -/
structure PerMeter (α : Type) where
  m1 : α
  m2 : α
  m3 : α
  m4 : α
  m5 : α
  m6 : α
  deriving DecidableEq, Repr

def PerMeter.get {α : Type} (t : PerMeter α) : Meter → α
  | .m1 => t.m1
  | .m2 => t.m2
  | .m3 => t.m3
  | .m4 => t.m4
  | .m5 => t.m5
  | .m6 => t.m6

def PerMeter.set {α : Type} (t : PerMeter α) : Meter → α → PerMeter α
  | .m1, v => { t with m1 := v }
  | .m2, v => { t with m2 := v }
  | .m3, v => { t with m3 := v }
  | .m4, v => { t with m4 := v }
  | .m5, v => { t with m5 := v }
  | .m6, v => { t with m6 := v }

/-- The same function applied at every channel. -/
def PerMeter.mapAll {α β : Type} (f : Meter → α → β) (t : PerMeter α) : PerMeter β :=
  ⟨f .m1 t.m1, f .m2 t.m2, f .m3 t.m3, f .m4 t.m4, f .m5 t.m5, f .m6 t.m6⟩

/-- One value for each hose. -/
structure PerHose (α : Type) where
  h1 : α
  h2 : α
  h3 : α
  h4 : α
  h5 : α
  h6 : α
  h7 : α
  h8 : α
  deriving DecidableEq, Repr

def PerHose.get {α : Type} (t : PerHose α) : Hose → α
  | .h1 => t.h1
  | .h2 => t.h2
  | .h3 => t.h3
  | .h4 => t.h4
  | .h5 => t.h5
  | .h6 => t.h6
  | .h7 => t.h7
  | .h8 => t.h8

def PerHose.set {α : Type} (t : PerHose α) : Hose → α → PerHose α
  | .h1, v => { t with h1 := v }
  | .h2, v => { t with h2 := v }
  | .h3, v => { t with h3 := v }
  | .h4, v => { t with h4 := v }
  | .h5, v => { t with h5 := v }
  | .h6, v => { t with h6 := v }
  | .h7, v => { t with h7 := v }
  | .h8, v => { t with h8 := v }

/-- One value for each grade. -/
structure PerGrade (α : Type) where
  g1 : α
  g2 : α
  g3 : α
  g4 : α
  g5 : α
  g6 : α
  g7 : α
  g8 : α
  deriving DecidableEq, Repr

def PerGrade.get {α : Type} (t : PerGrade α) : Grade → α
  | .g1 => t.g1
  | .g2 => t.g2
  | .g3 => t.g3
  | .g4 => t.g4
  | .g5 => t.g5
  | .g6 => t.g6
  | .g7 => t.g7
  | .g8 => t.g8

def PerGrade.set {α : Type} (t : PerGrade α) : Grade → α → PerGrade α
  | .g1, v => { t with g1 := v }
  | .g2, v => { t with g2 := v }
  | .g3, v => { t with g3 := v }
  | .g4, v => { t with g4 := v }
  | .g5, v => { t with g5 := v }
  | .g6, v => { t with g6 := v }
  | .g7, v => { t with g7 := v }
  | .g8, v => { t with g8 := v }

end Sys2Proof
end

