-- ==== Sys2Proof/Config.lean ====
section
/-! DEFINITION. What one part fixes and the manual leaves open (opaque: no proof can see a value), and
the fixed times and capacities of the manual, in milliseconds where they are times. -/

namespace Sys2Proof.Config

/-- The unit number of this part, fixed at manufacture (R160; log 10). -/
opaque unitNumber : BitVec 32

/-- Free value (log 12): whether of two reports of one reverse pulse the HIGH_FLOW report is handed over
first; R8 and R10 do not order them. -/
opaque highFlowFirst : Nat → Bool

/-- Free value (log 13): whether side B's sale is completed before side A's at a power warning; R65 does
not order them. -/
opaque sideBFirst : Nat → Bool

def productCode : Nat := 0x0420
def designRevision : Nat := 1

/-- Highest displayed volume and amount (R21, R23, R25). -/
def displayMax : Nat := 999999
/-- Highest unit price (R67). -/
def priceMax : Nat := 99999
/-- Where H, N and the reverse total are held (R5, R7, R8). -/
def countMax : Nat := 67108863
/-- The rate window (R10). -/
def rateWindow : Nat := 100
/-- Reader probe time (R118). -/
def probeTime : Nat := 2000
/-- Shortest time between two FIGURES frames of a reader (R128). -/
def figuresTime : Nat := 500
/-- Answer window after the part's frame (R100). -/
def answerWindow : Nat := 5
/-- Longest display slot (R101). -/
def displaySlotLimit : Nat := 10
/-- Longest reader slot (R101). -/
def readerSlotLimit : Nat := 30
/-- One step of SUPPLIES (R192). -/
def supplyStep : Nat := 200
/-- All-segments part of DISPLAYS (R115). -/
def displayTest : Nat := 1000
/-- Blank part of DISPLAYS (R115). -/
def displayBlank : Nat := 500
/-- WAIT between an abort and the next sequence (R194). -/
def waitTime : Nat := 2000
/-- Longest wake delay in minutes (R184). -/
def wakeDelayMax : Nat := 1440
/-- Journal capacity (R89). -/
def journalMax : Nat := 16
/-- Stack capacity (R88). -/
def stackMax : Nat := 2
/-- Longest frame of a reader queue (R124, R131). -/
def readerFrameMax : Nat := 96

end Sys2Proof.Config
end

