-- ==== Sys2Proof/Syntax.lean ====
section
/-! DEFINITION. The commands of the part: one constructor of `Instr` for each row of the opcode table.
A request row carries its address mode and the fields of R200 as the numbers the frame holds; an event
row carries what happened at the pin, bus, timer or store it names. -/

namespace Sys2Proof

/-- The three address modes a request can be accepted in (R146). -/
inductive AddrMode where
  | unicast | group | broadcast
  deriving DecidableEq, Repr

/-- What arrives on the site line as one character (R143). -/
inductive SiteChar where
  | byte (b : Byte)
  | parityError
  | framingError
  deriving DecidableEq, Repr

/-- One observation of a pulser pair: the lines of channel A and channel B (R3). -/
structure LineState where
  a : Bool
  b : Bool
  deriving DecidableEq, Repr

/-- The four display modules (R106). -/
inductive DisplayModule where
  | sale (sd : Side)
  | panel (sd : Side)
  deriving DecidableEq, Repr

/-- The end of a module's answer on the local bus (R100): one whose characters held a parity or framing
error, or a frame as received, its length being that of its payload. -/
inductive LocalAnswer where
  | lineError
  | frame (address : Byte) (payload : List Byte) (check : Word16)
  deriving DecidableEq, Repr

/-- The sixteen field bytes of SET_WAKE (R200). -/
structure WakeFields where
  addrValue : Byte
  addrMask  : Byte
  port      : Nat
  codeValue : Byte
  codeMask  : Byte
  length    : Nat
  value0    : Byte
  mask0     : Byte
  value1    : Byte
  mask1     : Byte
  value2    : Byte
  mask2     : Byte
  value3    : Byte
  mask3     : Byte
  nozzleA   : Nat
  nozzleB   : Nat
  deriving DecidableEq, Repr

/-- The eight settings of SET_TIMERS in the order of R166. -/
structure TimerFields where
  auth    : Nat
  zero    : Nat
  noFlow  : Nat
  suspend : Nat
  settle  : Nat
  loss    : Nat
  hold    : Nat
  confirm : Nat
  deriving DecidableEq, Repr

/-- The commands. Requests first, by port, in the table's order; then the events. -/
inductive Instr where
  -- control requests, port 0
  | poll (m : AddrMode)
  | clearEvents (m : AddrMode) (mask : Nat)
  | authorize (m : AddrMode) (side saleId allowed level limitType limitValue : Nat)
  | suspend (m : AddrMode) (side : Nat)
  | resume (m : AddrMode) (side : Nat)
  | stop (m : AddrMode) (side : Nat)
  | clearSale (m : AddrMode) (side saleId : Nat)
  | readSale (m : AddrMode) (side kind value : Nat)
  | readLive (m : AddrMode) (side : Nat)
  | readPrices (m : AddrMode)
  | stagePrice (m : AddrMode) (grade level price : Nat)
  | commitPrices (m : AddrMode) (generation commitMode : Nat)
  | replacePrice (m : AddrMode) (grade level old new : Nat)
  | discardStaged (m : AddrMode)
  | enterNight (m : AddrMode) (delay : Nat)
  -- management requests, port 3
  | readIdent (m : AddrMode)
  | setAddress (m : AddrMode) (address group : Nat)
  | setLine (m : AddrMode) (speed : Nat)
  | setHose (m : AddrMode) (hose assigned side position grade primary secondary : Nat)
  | setMeter (m : AddrMode) (meter mode k : Nat) (trim : Int) (ra sa fmax : Nat)
  | setScale (m : AddrMode) (dv dp da rounding : Nat)
  | setTimers (m : AddrMode) (t : TimerFields)
  | setThresholds (m : AddrMode) (margin reader site feedA feedB : Nat)
  | setRoute (m : AddrMode) (row inUse source low high maxLen action : Nat)
  | clearRoute (m : AddrMode) (row : Nat)
  | readRoute (m : AddrMode) (row : Nat)
  | setWake (m : AddrMode) (w : WakeFields)
  | armWake (m : AddrMode)
  | openSide (m : AddrMode) (side : Nat)
  | closeSide (m : AddrMode) (side : Nat)
  | readerAttach (m : AddrMode) (reader : Nat)
  | readerIsolate (m : AddrMode) (reader : Nat)
  | readConfig (m : AddrMode) (sect meter : Nat)
  | readJournal (m : AddrMode) (index : Nat)
  | readTotals (m : AddrMode)
  | readCounters (m : AddrMode)
  | restart (m : AddrMode)
  -- tunnel requests, ports 1 and 2
  | tunnel (m : AddrMode) (reader : Side) (payload : List Byte)
  | fetch (m : AddrMode) (reader : Side)
  -- site line
  | siteCharacter (c : SiteChar)
  | lineQuiet
  | frameGap
  | siteFrame (address port : Byte) (payload : List Byte) (check : Word16)
  | replySend
  | replySent
  | totalsPart2
  -- local bus
  | localFrameSent
  | localAnswer (ans : LocalAnswer)
  | localNoAnswer
  | localCharacterGap
  | slotLimit
  | lossTimer (m : DisplayModule)
  -- readers
  | probeTimer (reader : Side)
  | holdTimer (reader : Side)
  | tamperActive (reader : Side)
  | tamperInactive (reader : Side)
  -- meters
  | forwardPulse (m : Meter)
  | reversePulse (m : Meter)
  | phaseError (m : Meter)
  -- sides
  | nozzleLift (h : Hose)
  | nozzleHang (h : Hose)
  | authTimer (sd : Side)
  | zeroTimer (sd : Side)
  | noFlow (sd : Side)
  | suspendTimeout (sd : Side)
  | settleTimer (sd : Side)
  -- drive rail, power and supply
  | driveRailDown
  | driveRailUp
  | powerWarning
  | powerWarningRelease
  | powerOn
  | supplyLost
  -- power sequence and retained store; an attempt or a write ends as its Bool says
  | readAttempt (crcMatches : Bool)
  | supplyStep
  | displayTestEnd
  | displaysEnd
  | waitTimer
  | writeComplete (readBackEqual : Bool)
  | nightNozzleWake
  | wakeTimer
  | confirmTimer
  | pulserObservation (m : Meter) (lines : LineState)
  deriving DecidableEq, Repr

end Sys2Proof
end

