-- ==== Sys2Proof/Machine/State.lean ====
section
/-! DEFINITION. The state of the part: everything the spec gives its twelve blocks, as plain data, with the
queue of waiting commands, the reasons a step can stop, and the state at reset. -/

namespace Sys2Proof.Machine

open Sys2Proof

/-! ## Why a step can stop -/

/-- No command stops this part: what the spec calls a fault (meter, display, store, line) is a next state
with its state, event or closed reason. So there is no fault. Safe. -/
inductive Fault where
  deriving DecidableEq, Repr

/-- Why a command has no outcome in the model. -/
inductive Refusal where
  /-- The row has no meaning yet: raised by `exec` alone, in the arm of that row. Safe. No arm raises it. -/
  | notModelled (mnemonic : String)
  deriving DecidableEq, Repr

/-! ## Configuration (content of the CONFIG block, R171) -/

inductive MeterMode where
  | quad | single
  deriving DecidableEq, Repr

/-- A channel's configuration record (Table 1.1, R1). -/
structure MeterConfig where
  mode : MeterMode
  k    : Nat
  trim : Int
  ra   : Nat
  sa   : Nat
  fmax : Nat
  deriving DecidableEq, Repr

inductive Rounding where
  | halfUp | down
  deriving DecidableEq, Repr

/-- The scale record (R19). -/
structure Scale where
  dv : Nat
  dp : Nat
  da : Nat
  rounding : Rounding
  deriving DecidableEq, Repr

inductive Speed where
  | s9600 | s19200 | s38400 | s57600
  deriving DecidableEq, Repr

/-- An assigned hose record (R163). -/
structure HoseRec where
  side      : Side
  position  : Position
  grade     : Grade
  primary   : Meter
  secondary : Option Meter
  deriving DecidableEq, Repr

/-- The eight timer settings (R166), each in the unit of R166: s, ms, s, s, ms, ms, s, s. -/
structure Timers where
  auth    : Nat
  zero    : Nat
  noFlow  : Nat
  suspend : Nat
  settle  : Nat
  loss    : Nat
  hold    : Nat
  confirm : Nat
  deriving DecidableEq, Repr

/-- The five threshold settings (R167). -/
structure Thresholds where
  margin : Nat
  reader : Nat
  site   : Nat
  feed   : PerSide Bool
  deriving DecidableEq, Repr

inductive RouteSource where
  | site (sd : Side)
  | reader (sd : Side)
  deriving DecidableEq, Repr

inductive RouteAction where
  | forward | supervisor | drop | violation
  deriving DecidableEq, Repr

/-- A row of the route table (R120). -/
structure RouteRow where
  inUse  : Bool
  source : RouteSource
  low    : Nat
  high   : Nat
  maxLen : Nat
  action : RouteAction
  deriving DecidableEq, Repr

/-- A value byte and the mask that says which of its bits must agree (R187). -/
structure Masked where
  value : Byte
  mask  : Byte
  deriving DecidableEq, Repr

/-- The wake filter with its armed flag and the nozzle-wake enables (R168); none is ANY. -/
structure Wake where
  address : Masked
  port    : Option Nat
  code    : Masked
  length  : Option Nat
  data    : PerPosition Masked
  armed   : Bool
  nozzle  : PerSide Bool
  deriving DecidableEq, Repr

/-- The content of the CONFIG block (R171), and the working configuration. -/
structure Cfg where
  address    : Nat
  group      : Nat
  speed      : Speed
  hoses      : PerHose (Option HoseRec)
  meters     : PerMeter MeterConfig
  scale      : Scale
  timers     : Timers
  thresholds : Thresholds
  routes     : List RouteRow
  wake       : Wake
  sideOpen   : PerSide Bool
  deriving DecidableEq, Repr

/-! ## Meter channels (chapter 01) -/

/-- What a channel holds apart from its configuration; `reference` is none until the first observation;
`strayTold` is the model's mark that the stray count has been reported since its last reset (R3, R12, R14;
log 38). -/
structure Channel where
  reference  : Option LineState
  cyclePos   : Int
  stray      : Nat
  strayTold  : Bool
  phaseTotal : Nat
  strayTotal : Nat
  deriving DecidableEq, Repr

/-- The per-sale counters of an engaged channel (R5). -/
structure Counters where
  net         : Int
  high        : Nat
  reverse     : Nat
  phase       : Nat
  rateCount   : Nat
  rateStart   : Nat
  saidReverse : Bool
  saidFault   : Bool
  saidHigh    : Bool
  deriving DecidableEq, Repr

/-! ## Sides: fueling point, sale figures, latch (chapters 02, 03, 04) -/

inductive ClosedReason where
  | management | meterFault | reverseFlow | strayFlow | displayFault | nvFault
  deriving DecidableEq, Repr

inductive StartBlocked where
  | none | priceInvalid | railDown
  deriving DecidableEq, Repr

/-- The thirteen end reasons (Table 3.2). -/
inductive EndReason where
  | limitReached | saturated | nozzleHung | siteStop | noFlow | suspendTimeout | meterFault
  | reverseFlow | highFlow | strayFlow | displayFault | powerFail | supplyFault
  deriving DecidableEq, Repr

/-- Limit type and value (R36): the value is absent for NONE. -/
inductive Limit where
  | none
  | amount (value : Nat)
  | volume (value : Nat)
  deriving DecidableEq, Repr

/-- Test results of the SCU (R27). -/
inductive TestResult where
  | clear | slow | limit | saturated
  deriving DecidableEq, Repr

/-- The sale figures of a side (R21). -/
structure Figures where
  v1        : Nat
  v2        : Nat
  v         : Nat
  volume    : Nat
  amount    : Nat
  saturated : Bool
  slowAt    : Option Nat
  stopAt    : Option Nat
  start     : Nat
  last      : TestResult
  scale     : Scale
  deriving DecidableEq, Repr

/-- The latch (R77) with the frozen panel group (R81): none is dashes. -/
structure Latch where
  grade      : Grade
  level      : Level
  price      : Nat
  generation : Nat
  frozen     : Option Nat
  deriving DecidableEq, Repr

/-- The authorization record with its timer (R36, R42) and the start-blocked reason (R45). -/
structure Auth where
  saleId  : Nat
  allowed : PerPosition Bool
  level   : Level
  limit   : Limit
  timer   : Option Nat
  blocked : StartBlocked
  deriving DecidableEq, Repr

/-- What a sale holds from its entry to STOPPED on (R36, R53, R58): end reason, fault meter, volume at valve
close, and the settle timer, which is none until it has started. -/
structure Ended where
  reason       : EndReason
  faultMeter   : Option Meter
  volumeClosed : Nat
  settle       : Option Nat
  deriving DecidableEq, Repr

/-- The five side states that hold a sale context (Table 3.1), each with the expiry of the timer that runs
in it: zero timer, no-flow timer, suspend timer. -/
inductive Phase where
  | starting (zeroTimer : Nat)
  | fuelling (noFlowTimer : Nat)
  | slowing (noFlowTimer : Nat)
  | suspended (suspendTimer : Nat)
  | stopped (ended : Ended)
  deriving DecidableEq, Repr

/-- The sale context (R36); `zeroTime` is the zero time its STARTING took (R46). -/
structure Sale where
  saleId       : Nat
  allowed      : PerPosition Bool
  level        : Level
  limit        : Limit
  hose         : Hose
  position     : Position
  latch        : Latch
  primary      : Meter
  primaryCt    : Counters
  secondary    : Option (Meter × Counters)
  figures      : Figures
  hangSeen     : Bool
  zeroVerified : Bool
  closureAfter : Option ClosedReason
  zeroTime     : Nat
  deriving DecidableEq, Repr

/-- The side states (Table 3.1) with what each holds: an authorization record exactly in AUTHORIZED, a sale
context exactly in the five sale states, a closed reason exactly in CLOSED. -/
inductive SideState where
  | closed (reason : ClosedReason)
  | idle
  | calling
  | authorized (auth : Auth)
  | sale (phase : Phase) (ctx : Sale)
  deriving DecidableEq, Repr

/-- How the last ended sale ended (R36); `none` with sale id 0. -/
inductive EndOutcome where
  | none | stacked | noDelivery
  deriving DecidableEq, Repr

/-- A side (R36). -/
structure SideRec where
  state       : SideState
  lifted      : List Hose
  lastSale    : Nat
  lastOutcome : EndOutcome
  deriving DecidableEq, Repr

/-! ## Prices (chapter 04) -/

/-- Sixteen entries, by grade and level; 0 is a withdrawn entry (R67). -/
abbrev PriceTable := PerGrade (PerLevel Nat)

/-- The content of the PRICES block (R171), and the PTU's working state (R67 to R69). -/
structure Prices where
  active     : PriceTable
  generation : Nat
  staged     : Option PriceTable
  pending    : Bool
  deriving DecidableEq, Repr

/-! ## Sale records (chapter 05) -/

/-- A sale record without its paid flag (R85, R86). -/
structure SaleRecord where
  seq        : Nat
  saleId     : Nat
  side       : Side
  hose       : Hose
  position   : Position
  grade      : Grade
  level      : Level
  price      : Nat
  generation : Nat
  limit      : Limit
  volume     : Nat
  amount     : Nat
  high       : Nat
  reverse    : Nat
  secondary  : Option (Nat × Nat)
  overrun    : Nat
  endReason  : EndReason
  faultMeter : Option Meter
  saturated  : Bool
  scale      : Scale
  duration   : Nat
  deriving DecidableEq, Repr

/-- A journal entry (R89). -/
structure JournalEntry where
  record : SaleRecord
  paid   : Bool
  deriving DecidableEq, Repr

/-- The totals of one hose (R91). -/
structure HoseTotals where
  volume : Nat
  amount : Nat
  count  : Nat
  deriving DecidableEq, Repr

/-- The content of a METROLOGY slot but for its stamp (R171), and the SRU's working state. The journal is
in the order its records were issued, oldest first (R87, R89). -/
structure Metrology where
  hoses   : PerHose HoseTotals
  pulses  : PerMeter Nat
  journal : List JournalEntry
  seq     : Nat
  deriving DecidableEq, Repr

/-! ## Local bus (chapter 06) -/

inductive SlotId where
  | display (m : DisplayModule)
  | reader (sd : Side)
  deriving DecidableEq, Repr

/-- The slot in progress: the frame the part sends in it, start byte to check (R100, R127, R199), with its
payload; the content check (R102), whether it carries the zero content of a sale (R110), whether the frame
has been sent, whether an answer is still to be taken, the end of the answer window and of the slot (R100,
R101). -/
structure Slot where
  slotId   : SlotId
  frame    : List Byte
  payload  : List Byte
  check    : Word16
  zero     : Bool
  sent     : Bool
  take     : Bool
  answerBy : Option Nat
  limit    : Nat
  deriving DecidableEq, Repr

/-- One value for each display module. -/
structure PerDisplay (α : Type) where
  sale  : PerSide α
  panel : PerSide α
  deriving DecidableEq, Repr

def PerDisplay.get {α : Type} (t : PerDisplay α) : DisplayModule → α
  | .sale sd => t.sale.get sd
  | .panel sd => t.panel.get sd

def PerDisplay.set {α : Type} (t : PerDisplay α) : DisplayModule → α → PerDisplay α
  | .sale sd, v => { t with sale := t.sale.set sd v }
  | .panel sd, v => { t with panel := t.panel.set sd v }

/-- A display module: PRESENT or LOST, and its loss timer (R104). -/
structure ModuleRec where
  present : Bool
  loss    : Option Nat
  deriving DecidableEq, Repr

/-- The four groups of a panel; none is dashes (R80). -/
abbrev PanelContent := PerPosition (Option Nat)

structure Lbc where
  modules : PerDisplay ModuleRec
  panels  : PerSide PanelContent
  slot    : Option Slot
  deriving DecidableEq, Repr

/-! ## Readers (chapter 07) -/

inductive OffReason where
  | power | isolated | absent
  deriving DecidableEq, Repr

inductive ReaderState where
  | off (reason : OffReason)
  | probing
  | attached
  | quarantined
  | tampered
  deriving DecidableEq, Repr

inductive HoldTimer where
  | stopped
  | running (deadline : Nat)
  | expired
  deriving DecidableEq, Repr

/-- A reader record (R118). -/
structure ReaderRec where
  state       : ReaderState
  err         : Nat
  up          : List (List Byte)
  down        : List (List Byte)
  probe       : Option Nat
  hold        : HoldTimer
  lastFigures : Option Nat
  violations  : Nat
  drops       : Nat
  flushed     : Nat
  deriving DecidableEq, Repr

/-! ## Site line (chapter 08) -/

/-- The settings the SLI uses (R142). -/
structure LineSettings where
  address : Nat
  group   : Nat
  speed   : Speed
  deriving DecidableEq, Repr

/-- The receiver (R143); a frame holds the bytes after its start byte, in order. -/
inductive Receiver where
  | waitQuiet
  | hunt
  | frame (got : List Byte)
  deriving DecidableEq, Repr

/-- The transmitter: no reply, a reply in waiting, one being sent, or part 2 of READ_TOTALS in waiting after
part 1 was sent (R149, R201). Frames are whole, start byte to check. -/
inductive Transmit where
  | idle
  | waiting (reply : List Byte) (second : Option (List Byte))
  | sending (reply : List Byte) (second : Option (List Byte))
  | gap (second : List Byte)
  deriving DecidableEq, Repr

/-- The SLI (R142 to R144, R149, R152, R155). `quietAfter` is set while the reply under way answers an accepted SET_LINE:
the receiver enters WAIT_QUIET when that reply is over (R162; the model's own mark, log 37). -/
structure Sli where
  line        : LineSettings
  rx          : Receiver
  tx          : Transmit
  quietAfter  : Bool
  errors      : Nat
  overflow    : Bool
  frameErrors : Nat
  modeRejects : Nat
  events      : BitVec 16
  deriving DecidableEq, Repr

/-! ## Retained store (chapter 10) -/

inductive Kind where
  | config | prices | metrology
  deriving DecidableEq, Repr

inductive SlotNo where
  | m0 | m1
  deriving DecidableEq, Repr

/-- The blocks in the order LOAD reads them (R179). -/
inductive Block where
  | config | prices | m0 | m1
  deriving DecidableEq, Repr

/-- A METROLOGY slot's content with its write stamp (R172). -/
structure Stamped where
  content : Metrology
  stamp   : Nat
  deriving DecidableEq, Repr

/-- What a write in progress carries: the content taken when it began (R174). -/
inductive WriteContent where
  | config (c : Cfg)
  | prices (p : Prices)
  | metrology (n : SlotNo) (c : Stamped)
  deriving DecidableEq, Repr

structure WriteJob where
  content  : WriteContent
  deadline : Nat
  deriving DecidableEq, Repr

/-- Cause of the NV_FAULT condition (R176). -/
inductive Condition where
  | clear | lost | write
  deriving DecidableEq, Repr

/-- The reading of LOAD (R179, R181): `fresh` after a cold power-on or RESTART, whose lifted lists are
built from the switches (R66). -/
inductive Loading where
  | none
  | waitWrite (fresh : Bool)
  | reading (fresh : Bool) (block : Block) (attempt : Nat) (good0 : Bool) (deadline : Nat)
  deriving DecidableEq, Repr

structure FailCounts where
  config    : Nat
  prices    : Nat
  metrology : Nat
  deriving DecidableEq, Repr

/-- The store; a block that is none is bad (R171 to R176). -/
structure Nvs where
  config    : Option Cfg
  prices    : Option Prices
  slot0     : Option Stamped
  slot1     : Option Stamped
  queue     : List Kind
  job       : Option WriteJob
  fail      : FailCounts
  current   : Option (SlotNo × Nat)
  condition : Condition
  load      : Loading
  deriving DecidableEq, Repr

/-! ## Power Sequencer (chapter 11) -/

inductive Stage where
  | load
  | apply
  | supplies (next : Side)
  | displays (test : Bool)
  | readers
  | wait
  deriving DecidableEq, Repr

inductive Mode where
  | poweringUp (stage : Stage)
  | run
  | night
  | failsafe
  deriving DecidableEq, Repr

inductive WakeCause where
  | powerOn | restart | filter | timer | nozzle | fallback
  deriving DecidableEq, Repr

/-- A night request (R182): a delay in minutes, or none for a return of R190 that keeps the wake timer;
`draining` once the store has been asked to drain. -/
structure NightRequest where
  delay    : Option Nat
  draining : Bool
  deriving DecidableEq, Repr

inductive RestartPhase where
  | none | replying | draining
  deriving DecidableEq, Repr

/-- Closures found at this power-up for one side (R66). -/
structure Found where
  config    : Bool
  metrology : Bool
  display   : Bool
  deriving DecidableEq, Repr

structure Psq where
  mode          : Mode
  cause         : WakeCause
  restarts      : Nat
  night         : Option NightRequest
  restart       : RestartPhase
  wakeTimer     : Option Nat
  confirmTimer  : Option Nat
  overflowMark  : Bool
  displayDemand : Bool
  stageTimer    : Option Nat
  found         : PerSide Found
  deriving DecidableEq, Repr

/-- The input lines (00 section 1.2), as debounced: a nozzle is true when lifted. -/
structure Lines where
  nozzle   : PerHose Bool
  tamper   : PerSide Bool
  railGood : Bool
  warning  : Bool
  deriving DecidableEq, Repr

end Sys2Proof.Machine

namespace Sys2Proof.Machine

open Sys2Proof

/-- The state of the part. `pending` is the queue of commands, `freeCount` the model's own counter for the
free values of Config, `now` the time base in ms. -/
structure State where
  pending   : List Instr
  freeCount : Nat
  now       : Nat
  powered   : Bool
  lines     : Lines
  cfg       : Cfg
  mci       : PerMeter Channel
  sides     : PerSide SideRec
  ptu       : Prices
  sru       : Metrology
  stack     : PerSide (List SaleRecord)
  lbc       : Lbc
  riu       : PerSide ReaderRec
  sli       : Sli
  nvs       : Nvs
  psq       : Psq
  deriving DecidableEq, Repr

/-! ## Reset -/

/-- Table 1.1's defaults. -/
def MeterConfig.default : MeterConfig := ⟨.quad, 100, 0, 20, 10, 2000⟩

/-- R19's defaults. -/
def Scale.default : Scale := ⟨2, 3, 2, .halfUp⟩

/-- R163's default map. -/
def defaultHoses : PerHose (Option HoseRec) where
  h1 := some ⟨.a, .p1, .g1, .m1, none⟩
  h2 := some ⟨.a, .p2, .g2, .m2, none⟩
  h3 := some ⟨.a, .p3, .g3, .m3, none⟩
  h4 := some ⟨.a, .p4, .g4, .m3, none⟩
  h5 := some ⟨.b, .p1, .g1, .m4, none⟩
  h6 := some ⟨.b, .p2, .g2, .m5, none⟩
  h7 := some ⟨.b, .p3, .g3, .m6, none⟩
  h8 := some ⟨.b, .p4, .g4, .m6, none⟩

/-- A supervision row for one reader: the STATUS code, two bytes (R120). -/
def supervisionRow (sd : Side) : RouteRow := ⟨true, .reader sd, 1, 1, 2, .supervisor⟩

/-- A clear row; the fields other than in-use are a DESIGN CHOICE (log 14). Unsafe. -/
def clearRow : RouteRow := ⟨false, .site .a, 0, 0, 1, .forward⟩

/-- R120's default table: two supervision rows and 22 clear rows. -/
def defaultRoutes : List RouteRow :=
  supervisionRow .a :: supervisionRow .b :: List.replicate 22 clearRow

/-- R168's defaults; the value bytes under zero masks are a DESIGN CHOICE (log 15). Unsafe. -/
def Wake.default : Wake where
  address := ⟨0, 0⟩
  port := none
  code := ⟨0, 0⟩
  length := none
  data := ⟨⟨0, 0⟩, ⟨0, 0⟩, ⟨0, 0⟩, ⟨0, 0⟩⟩
  armed := false
  nozzle := ⟨false, false⟩

/-- Every setting at the default its chapter gives: what the owners take when CONFIG is bad (R179). -/
def Cfg.default : Cfg where
  address := 0
  group := 0
  speed := .s19200
  hoses := defaultHoses
  meters := ⟨.default, .default, .default, .default, .default, .default⟩
  scale := .default
  timers := ⟨120, 1000, 60, 300, 500, 1000, 30, 60⟩
  thresholds := ⟨500, 16, 24, ⟨false, false⟩⟩
  routes := defaultRoutes
  wake := .default
  sideOpen := ⟨false, false⟩

/-- Sixteen entries of 0. -/
def PriceTable.zero : PriceTable :=
  ⟨⟨0, 0⟩, ⟨0, 0⟩, ⟨0, 0⟩, ⟨0, 0⟩, ⟨0, 0⟩, ⟨0, 0⟩, ⟨0, 0⟩, ⟨0, 0⟩⟩

/-- What the PTU takes when PRICES is bad (R83). -/
def Prices.lost : Prices := ⟨.zero, 0, none, false⟩

def HoseTotals.zero : HoseTotals := ⟨0, 0, 0⟩

/-- What the SRU takes when neither METROLOGY slot is good (R99). -/
def Metrology.lost : Metrology where
  hoses := ⟨.zero, .zero, .zero, .zero, .zero, .zero, .zero, .zero⟩
  pulses := ⟨0, 0, 0, 0, 0, 0⟩
  journal := []
  seq := 1

/-- A channel after a cold power-on (R18). -/
def Channel.cold : Channel := ⟨none, 0, 0, false, 0, 0⟩

/-- A side at the start of a power-up after a cold power-on (R66, R193). -/
def SideRec.cold : SideRec := ⟨.closed .management, [], 0, .none⟩

/-- A LOST module with its loss timer stopped (R114). -/
def ModuleRec.lost : ModuleRec := ⟨false, none⟩

def PanelContent.dashes : PanelContent := ⟨none, none, none, none⟩

def Lbc.cold : Lbc :=
  ⟨⟨⟨.lost, .lost⟩, ⟨.lost, .lost⟩⟩, ⟨.dashes, .dashes⟩, none⟩

/-- A reader after a cold power-on (R141). -/
def ReaderRec.cold : ReaderRec := ⟨.off .power, 0, [], [], none, .stopped, none, 0, 0, 0⟩

/-- The SLI after a cold power-on (R154, R158); its line settings until CONFIG is read are the defaults
(log 9). -/
def Sli.cold : Sli := ⟨⟨0, 0, .s19200⟩, .waitQuiet, .idle, false, 0, false, 0, 0, 0⟩

/-- The sequencer after a cold power-on (R182). -/
def Psq.cold : Psq where
  mode := .poweringUp .load
  cause := .powerOn
  restarts := 0
  night := none
  restart := .none
  wakeTimer := none
  confirmTimer := none
  overflowMark := false
  displayDemand := false
  stageTimer := none
  found := ⟨⟨false, false, false⟩, ⟨false, false, false⟩⟩

/-- The store of a new part at its first power-up, its first read attempt begun (R179, R181; 09
section 9.8): all four blocks bad (log 7). -/
def Nvs.blank : Nvs where
  config := none
  prices := none
  slot0 := none
  slot1 := none
  queue := []
  job := none
  fail := ⟨0, 0, 0⟩
  current := none
  condition := .clear
  load := .reading true .config 1 false 3

/-- The input lines at reset: a DESIGN CHOICE (log 8). Unsafe. -/
def Lines.reset : Lines where
  nozzle := ⟨false, false, false, false, false, false, false, false⟩
  tamper := ⟨false, false⟩
  railGood := true
  warning := false

/-- The part right after the first cold power-on of its life (log 7). -/
def State.reset : State where
  pending := []
  freeCount := 0
  now := 0
  powered := true
  lines := .reset
  cfg := .default
  mci := ⟨.cold, .cold, .cold, .cold, .cold, .cold⟩
  sides := ⟨.cold, .cold⟩
  ptu := .lost
  sru := .lost
  stack := ⟨[], []⟩
  lbc := .cold
  riu := ⟨.cold, .cold⟩
  sli := .cold
  nvs := .blank
  psq := .cold

end Sys2Proof.Machine
end

