-- ==== Sys2Proof/Machine/Arithmetic.lean ====
section
/-! DEFINITION. The sale arithmetic of the SCU (chapter 02): stages 1 to 5, thresholds, renewal, query. -/

namespace Sys2Proof.Machine

open Sys2Proof

/-- The amount exponent e = dv + dp - da (R19). -/
def Scale.exponent (sc : Scale) : Nat := sc.dv + sc.dp - sc.da

/-- Stage 1: a meter's millilitres from its high-water count (R22). -/
def meterVolume (c : MeterConfig) (high : Nat) : Nat :=
  high * 1000 * (10000 + c.trim).toNat / (c.k * 10000)

/-- Stage 3 before its hold: display units in a volume (R23). -/
def displayUnits (sc : Scale) (ml : Nat) : Nat := if sc.dv = 2 then ml / 10 else ml

/-- Stage 4 before its hold: the amount of a displayed volume at a price (R24). -/
def amountOf (sc : Scale) (volume price : Nat) : Nat :=
  let q := volume * price
  match sc.rounding with
  | .halfUp => if sc.exponent = 0 then q else (q + 10 ^ sc.exponent / 2) / 10 ^ sc.exponent
  | .down => q / 10 ^ sc.exponent

/-- The slow threshold (R26). -/
def slowThreshold (sc : Scale) (margin price : Nat) : Limit → Option Nat
  | .none => none
  | .volume l => some (l - displayUnits sc margin)
  | .amount l => some (l - displayUnits sc margin * price / 10 ^ sc.exponent)

/-- The stop threshold (R26). -/
def stopThreshold : Limit → Option Nat
  | .none => none
  | .volume l => some l
  | .amount l => some l

/-- The figure a limit is compared with (R26). -/
def comparedFigure (f : Figures) : Limit → Nat
  | .none => 0
  | .volume _ => f.volume
  | .amount _ => f.amount

/-- Whether a figure has reached a threshold; an absent threshold is never reached. -/
def reached (figure : Nat) : Option Nat → Bool
  | none => false
  | some t => t ≤ figure

/-- Stage 5: the classification of figures (R27). -/
def classifyFigures (limit : Limit) (f : Figures) : TestResult :=
  if f.saturated then .saturated
  else if reached (comparedFigure f limit) f.stopAt then .limit
  else if reached (comparedFigure f limit) f.slowAt then .slow
  else .clear

/-- The figures at the STARTING entry (R21, R26). -/
def startFigures (sc : Scale) (margin price now : Nat) (limit : Limit) : Figures where
  v1 := 0
  v2 := 0
  v := 0
  volume := 0
  amount := 0
  saturated := false
  slowAt := slowThreshold sc margin price limit
  stopAt := stopThreshold limit
  start := now
  last := .clear
  scale := sc

/-- Stages 2 to 4 over given meter volumes (R23 to R25). -/
def pricedFigures (f : Figures) (price v1 v2 : Nat) : Figures :=
  let units := displayUnits f.scale (v1 + v2)
  let volume := min units Config.displayMax
  let money := amountOf f.scale volume price
  { f with
    v1 := v1
    v2 := v2
    v := v1 + v2
    volume := volume
    amount := min money Config.displayMax
    saturated := f.saturated || decide (Config.displayMax < units) || decide (Config.displayMax < money) }

/-- The volume of the secondary meter: 0 for a single-meter hose (R23). -/
def secondaryVolume (cfg : Cfg) : Option (Meter × Counters) → Nat
  | none => 0
  | some (m, c) => meterVolume (cfg.meters.get m) c.high

/-- Stages 1 to 5 on the current counts of a sale (R29). -/
def renewedFigures (cfg : Cfg) (ctx : Sale) : Figures :=
  let f := pricedFigures ctx.figures ctx.latch.price
    (meterVolume (cfg.meters.get ctx.primary) ctx.primaryCt.high) (secondaryVolume cfg ctx.secondary)
  { f with last := classifyFigures ctx.limit f }

/-- The answer to a test query (R28): the classification of the figures as they stand. -/
def queryResult (ctx : Sale) : TestResult := classifyFigures ctx.limit ctx.figures

end Sys2Proof.Machine
end

