-- ==== Sys2Proof/Machine/Flags.lean ====
section
/-! DEFINITION. The event set (Table 8.2, R152): the sixteen flags, their numbers, raising and clearing. -/

namespace Sys2Proof.Machine

open Sys2Proof

/-- The events of Table 8.2. -/
inductive Event where
  | call (sd : Side)
  | done (sd : Side)
  | closed (sd : Side)
  | authExpired
  | strayFlow
  | priceApplied
  | readerOut (sd : Side)
  | powerUpDone
  | nvFault
  | powerFailEnd
  | wakeError
  | linkDegraded
  deriving DecidableEq, Repr

/-- The number of an event (Table 8.2). -/
def Event.number : Event → Nat
  | .call .a => 0
  | .call .b => 1
  | .done .a => 2
  | .done .b => 3
  | .closed .a => 4
  | .closed .b => 5
  | .authExpired => 6
  | .strayFlow => 7
  | .priceApplied => 8
  | .readerOut .a => 9
  | .readerOut .b => 10
  | .powerUpDone => 11
  | .nvFault => 12
  | .powerFailEnd => 13
  | .wakeError => 14
  | .linkDegraded => 15

/-- The set that holds one event. -/
def Event.bit (e : Event) : BitVec 16 := 1#16 <<< e.number

/-- Whether the event is raised. -/
def State.raised (s : State) (e : Event) : Bool := s.sli.events.getLsbD e.number

def State.withEvents (s : State) (ev : BitVec 16) : State :=
  { s with sli := { s.sli with events := ev } }

/-- Raise an event; one that is raised stays raised (R152). -/
def raise (e : Event) (s : State) : State := s.withEvents (s.sli.events ||| e.bit)

/-- The events whose cause persists (R152, R153): the NV_FAULT condition, the overflow flag, an active
tamper line. -/
def persisting (s : State) : BitVec 16 :=
  (if s.nvs.condition = .clear then 0#16 else Event.nvFault.bit) |||
  (if s.sli.overflow then Event.linkDegraded.bit else 0#16) |||
  (if s.lines.tamper.a then (Event.readerOut .a).bit else 0#16) |||
  (if s.lines.tamper.b then (Event.readerOut .b).bit else 0#16)

/-- Clear the events of a mask and raise again at once those of them whose cause persists (R153). A flag that the mask
names counts as cleared by it even where it was clear before, so one whose cause persists is raised then too, where
R153's "each flag that was cleared" can be read to leave it clear: a DESIGN CHOICE (log 43). Unsafe. -/
def clearEvents (mask : BitVec 16) (s : State) : State :=
  s.withEvents ((s.sli.events &&& ~~~mask) ||| (mask &&& persisting s))

end Sys2Proof.Machine
end

