-- ==== Sys2Proof/WellFormed.lean ====
section
/-! DEFINITION. Well-formed commands: every field of a request fits the bytes R200 gives it, a tunnel
frame has a payload that a site frame can carry, and a site frame's payload is no longer than R143
allows. A command that is not well formed is one that no sender could send; the meanings are total on
it all the same. -/

namespace Sys2Proof

/-- The field fits `n` bytes. -/
def fits (n v : Nat) : Bool := v < 256 ^ n

/-- Longest payload of a site frame (Table 12.1). -/
def maxSitePayload : Nat := 120

/-- The two bytes of a signed field. -/
def fitsSigned16 (v : Int) : Bool := -32768 ≤ v && v ≤ 32767

def WakeFields.wellFormed (w : WakeFields) : Bool :=
  fits 1 w.port && fits 1 w.length && fits 1 w.nozzleA && fits 1 w.nozzleB

def TimerFields.wellFormed (t : TimerFields) : Bool :=
  fits 2 t.auth && fits 2 t.zero && fits 2 t.noFlow && fits 2 t.suspend &&
  fits 2 t.settle && fits 2 t.loss && fits 2 t.hold && fits 2 t.confirm

/-- Every operand of the command can be spelled at the port it comes from. -/
def Instr.wellFormed : Instr → Bool
  | .poll _ => true
  | .clearEvents _ mask => fits 2 mask
  | .authorize _ side saleId allowed level limitType limitValue =>
      fits 1 side && fits 2 saleId && fits 1 allowed && fits 1 level && fits 1 limitType && fits 3 limitValue
  | .suspend _ side => fits 1 side
  | .resume _ side => fits 1 side
  | .stop _ side => fits 1 side
  | .clearSale _ side saleId => fits 1 side && fits 2 saleId
  | .readSale _ side kind value => fits 1 side && fits 1 kind && fits 2 value
  | .readLive _ side => fits 1 side
  | .readPrices _ => true
  | .stagePrice _ grade level price => fits 1 grade && fits 1 level && fits 3 price
  | .commitPrices _ generation commitMode => fits 2 generation && fits 1 commitMode
  | .replacePrice _ grade level old new => fits 1 grade && fits 1 level && fits 3 old && fits 3 new
  | .discardStaged _ => true
  | .enterNight _ delay => fits 2 delay
  | .readIdent _ => true
  | .setAddress _ address group => fits 1 address && fits 1 group
  | .setLine _ speed => fits 1 speed
  | .setHose _ hose assigned side position grade primary secondary =>
      fits 1 hose && fits 1 assigned && fits 1 side && fits 1 position && fits 1 grade &&
      fits 1 primary && fits 1 secondary
  | .setMeter _ meter mode k trim ra sa fmax =>
      fits 1 meter && fits 1 mode && fits 2 k && fitsSigned16 trim && fits 1 ra && fits 1 sa && fits 2 fmax
  | .setScale _ dv dp da rounding => fits 1 dv && fits 1 dp && fits 1 da && fits 1 rounding
  | .setTimers _ t => t.wellFormed
  | .setThresholds _ margin reader site feedA feedB =>
      fits 2 margin && fits 1 reader && fits 1 site && fits 1 feedA && fits 1 feedB
  | .setRoute _ row inUse source low high maxLen action =>
      fits 1 row && fits 1 inUse && fits 1 source && fits 1 low && fits 1 high && fits 1 maxLen && fits 1 action
  | .clearRoute _ row => fits 1 row
  | .readRoute _ row => fits 1 row
  | .setWake _ w => w.wellFormed
  | .armWake _ => true
  | .openSide _ side => fits 1 side
  | .closeSide _ side => fits 1 side
  | .readerAttach _ reader => fits 1 reader
  | .readerIsolate _ reader => fits 1 reader
  | .readConfig _ sect meter => fits 1 sect && fits 1 meter
  | .readJournal _ index => fits 1 index
  | .readTotals _ => true
  | .readCounters _ => true
  | .restart _ => true
  | .tunnel _ _ payload => !payload.isEmpty && payload.length ≤ maxSitePayload
  | .fetch _ _ => true
  | .siteCharacter _ => true
  | .lineQuiet => true
  | .frameGap => true
  | .siteFrame _ _ payload _ => payload.length ≤ maxSitePayload
  | .replySend => true
  | .replySent => true
  | .totalsPart2 => true
  | .localFrameSent => true
  | .localAnswer ans => match ans with
    | .lineError => true
    | .frame _ payload _ => payload.length < 256
  | .localNoAnswer => true
  | .localCharacterGap => true
  | .slotLimit => true
  | .lossTimer _ => true
  | .probeTimer _ => true
  | .holdTimer _ => true
  | .tamperActive _ => true
  | .tamperInactive _ => true
  | .forwardPulse _ => true
  | .reversePulse _ => true
  | .phaseError _ => true
  | .nozzleLift _ => true
  | .nozzleHang _ => true
  | .authTimer _ => true
  | .zeroTimer _ => true
  | .noFlow _ => true
  | .suspendTimeout _ => true
  | .settleTimer _ => true
  | .driveRailDown => true
  | .driveRailUp => true
  | .powerWarning => true
  | .powerWarningRelease => true
  | .powerOn => true
  | .supplyLost => true
  | .readAttempt _ => true
  | .supplyStep => true
  | .displayTestEnd => true
  | .displaysEnd => true
  | .waitTimer => true
  | .writeComplete _ => true
  | .nightNozzleWake => true
  | .wakeTimer => true
  | .confirmTimer => true
  | .pulserObservation _ _ => true

end Sys2Proof
end

