-- ==== Sys2Proof/Decode.lean ====
section
/-! DEFINITION. Reading a request from the payload of a site frame (R200), the writing of one, and the
host's `decodeTableWord`. The opcode table gives no row any bits, so no word spells a command there; what the
part itself decodes is the payload of a frame. -/

namespace Sys2Proof

/-! ## Multi-byte fields (chapter 12) -/

/-- A field of `n` bytes, most significant first. -/
def be : Nat → Nat → List Byte
  | 0, _ => []
  | n + 1, v => BitVec.ofNat 8 (v / 256 ^ n) :: be n v

/-- A one-byte field. -/
def byte1 (v : Nat) : List Byte := [BitVec.ofNat 8 v]

/-- The number a field's bytes hold, most significant first. -/
def natOf (l : List Byte) : Nat := l.foldl (fun acc b => acc * 256 + b.toNat) 0

/-- A two-byte two's complement field (R198). -/
def beSigned (v : Int) : List Byte := be 2 (BitVec.ofInt 16 v).toNat

/-! ## Kinds of request (R147, R200) -/

/-- The requests of the four ports; a tunnel frame and a fetch name the reader of their port. -/
inductive ReqKind where
  | poll | clearEvents | authorize | suspend | resume | stop | clearSale | readSale | readLive | readPrices
  | stagePrice | commitPrices | replacePrice | discardStaged | enterNight
  | readIdent | setAddress | setLine | setHose | setMeter | setScale | setTimers | setThresholds
  | setRoute | clearRoute | readRoute | setWake | armWake | openSide | closeSide | readerAttach | readerIsolate
  | readConfig | readJournal | readTotals | readCounters | restart
  | tunnel (reader : Side)
  | fetch (reader : Side)
  deriving DecidableEq, Repr

/-- The code of a request (R200). -/
def ReqKind.code : ReqKind → Nat
  | .poll => 0x01
  | .clearEvents => 0x02
  | .authorize => 0x03
  | .suspend => 0x04
  | .resume => 0x05
  | .stop => 0x06
  | .clearSale => 0x07
  | .readSale => 0x08
  | .readLive => 0x09
  | .readPrices => 0x0A
  | .stagePrice => 0x0B
  | .commitPrices => 0x0C
  | .replacePrice => 0x0D
  | .discardStaged => 0x0E
  | .enterNight => 0x0F
  | .readIdent => 0x20
  | .setAddress => 0x21
  | .setLine => 0x22
  | .setHose => 0x23
  | .setMeter => 0x24
  | .setScale => 0x25
  | .setTimers => 0x26
  | .setThresholds => 0x27
  | .setRoute => 0x28
  | .clearRoute => 0x29
  | .readRoute => 0x2A
  | .setWake => 0x2B
  | .armWake => 0x2C
  | .openSide => 0x2D
  | .closeSide => 0x2E
  | .readerAttach => 0x2F
  | .readerIsolate => 0x30
  | .readConfig => 0x31
  | .readTotals => 0x32
  | .readJournal => 0x33
  | .readCounters => 0x34
  | .restart => 0x35
  | .tunnel _ => 0x01
  | .fetch _ => 0x02

/-- The kind a code names on port 0 or port 3 (R148, R200): none where it is no request of that port. -/
def kindOf (port code : Nat) : Option ReqKind :=
  match port with
  | 0 =>
    match code with
    | 0x01 => some .poll
    | 0x02 => some .clearEvents
    | 0x03 => some .authorize
    | 0x04 => some .suspend
    | 0x05 => some .resume
    | 0x06 => some .stop
    | 0x07 => some .clearSale
    | 0x08 => some .readSale
    | 0x09 => some .readLive
    | 0x0A => some .readPrices
    | 0x0B => some .stagePrice
    | 0x0C => some .commitPrices
    | 0x0D => some .replacePrice
    | 0x0E => some .discardStaged
    | 0x0F => some .enterNight
    | _ => none
  | 3 =>
    match code with
    | 0x20 => some .readIdent
    | 0x21 => some .setAddress
    | 0x22 => some .setLine
    | 0x23 => some .setHose
    | 0x24 => some .setMeter
    | 0x25 => some .setScale
    | 0x26 => some .setTimers
    | 0x27 => some .setThresholds
    | 0x28 => some .setRoute
    | 0x29 => some .clearRoute
    | 0x2A => some .readRoute
    | 0x2B => some .setWake
    | 0x2C => some .armWake
    | 0x2D => some .openSide
    | 0x2E => some .closeSide
    | 0x2F => some .readerAttach
    | 0x30 => some .readerIsolate
    | 0x31 => some .readConfig
    | 0x32 => some .readTotals
    | 0x33 => some .readJournal
    | 0x34 => some .readCounters
    | 0x35 => some .restart
    | _ => none
  | _ => none

/-- The payload length of a request on port 0 or 3, code included (R200); none on ports 1 and 2. -/
def ReqKind.length : ReqKind → Option Nat
  | .poll => some 1
  | .clearEvents => some 3
  | .authorize => some 10
  | .suspend => some 2
  | .resume => some 2
  | .stop => some 2
  | .clearSale => some 4
  | .readSale => some 5
  | .readLive => some 2
  | .readPrices => some 1
  | .stagePrice => some 6
  | .commitPrices => some 4
  | .replacePrice => some 9
  | .discardStaged => some 1
  | .enterNight => some 3
  | .readIdent => some 1
  | .setAddress => some 3
  | .setLine => some 2
  | .setHose => some 8
  | .setMeter => some 11
  | .setScale => some 5
  | .setTimers => some 17
  | .setThresholds => some 7
  | .setRoute => some 8
  | .clearRoute => some 2
  | .readRoute => some 2
  | .setWake => some 17
  | .armWake => some 1
  | .openSide => some 2
  | .closeSide => some 2
  | .readerAttach => some 2
  | .readerIsolate => some 2
  | .readConfig => some 3
  | .readJournal => some 2
  | .readTotals => some 1
  | .readCounters => some 1
  | .restart => some 1
  | .tunnel _ => none
  | .fetch _ => none

/-- The site port of a request. -/
def ReqKind.port : ReqKind → Nat
  | .poll => 0
  | .clearEvents => 0
  | .authorize => 0
  | .suspend => 0
  | .resume => 0
  | .stop => 0
  | .clearSale => 0
  | .readSale => 0
  | .readLive => 0
  | .readPrices => 0
  | .stagePrice => 0
  | .commitPrices => 0
  | .replacePrice => 0
  | .discardStaged => 0
  | .enterNight => 0
  | .tunnel .a => 1
  | .tunnel .b => 2
  | .fetch .a => 1
  | .fetch .b => 2
  | _ => 3

/-! ## Address modes (R147) -/

/-- The kinds that a group frame may carry (Table 8.1). -/
def ReqKind.groupAllowed : ReqKind → Bool
  | .stop => true
  | .stagePrice => true
  | .commitPrices => true
  | .discardStaged => true
  | .enterNight => true
  | .replacePrice => true
  | _ => false

/-- The kinds that a broadcast frame may carry (Table 8.1). -/
def ReqKind.broadcastAllowed : ReqKind → Bool
  | .stop => true
  | .stagePrice => true
  | .commitPrices => true
  | .discardStaged => true
  | .enterNight => true
  | _ => false

/-- The address modes a kind allows (R147). -/
def ReqKind.allows (k : ReqKind) : AddrMode → Bool
  | .unicast => true
  | .group => k.groupAllowed
  | .broadcast => k.broadcastAllowed

/-! ## Fields of a payload -/

/-- The number in `n` bytes of a payload at an offset. -/
def field (payload : List Byte) (off n : Nat) : Nat := natOf ((payload.drop off).take n)

/-- The byte of a payload at an offset. -/
def byteAt (payload : List Byte) (off : Nat) : Byte := payload.getD off 0

/-- A two's complement field of two bytes (R198). -/
def signedField (payload : List Byte) (off : Nat) : Int := (BitVec.ofNat 16 (field payload off 2)).toInt

/-- The fields of SET_WAKE (R200). -/
def wakeFieldsOf (p : List Byte) : WakeFields where
  addrValue := byteAt p 1
  addrMask := byteAt p 2
  port := field p 3 1
  codeValue := byteAt p 4
  codeMask := byteAt p 5
  length := field p 6 1
  value0 := byteAt p 7
  mask0 := byteAt p 8
  value1 := byteAt p 9
  mask1 := byteAt p 10
  value2 := byteAt p 11
  mask2 := byteAt p 12
  value3 := byteAt p 13
  mask3 := byteAt p 14
  nozzleA := field p 15 1
  nozzleB := field p 16 1

/-- The fields of SET_TIMERS (R200). -/
def timerFieldsOf (p : List Byte) : TimerFields where
  auth := field p 1 2
  zero := field p 3 2
  noFlow := field p 5 2
  suspend := field p 7 2
  settle := field p 9 2
  loss := field p 11 2
  hold := field p 13 2
  confirm := field p 15 2

/-! ## A request of a known kind, from its payload (R200) -/

def requestOf (k : ReqKind) (m : AddrMode) (p : List Byte) : Instr :=
  match k with
  | .poll => .poll m
  | .clearEvents => .clearEvents m (field p 1 2)
  | .authorize =>
      .authorize m (field p 1 1) (field p 2 2) (field p 4 1) (field p 5 1) (field p 6 1) (field p 7 3)
  | .suspend => .suspend m (field p 1 1)
  | .resume => .resume m (field p 1 1)
  | .stop => .stop m (field p 1 1)
  | .clearSale => .clearSale m (field p 1 1) (field p 2 2)
  | .readSale => .readSale m (field p 1 1) (field p 2 1) (field p 3 2)
  | .readLive => .readLive m (field p 1 1)
  | .readPrices => .readPrices m
  | .stagePrice => .stagePrice m (field p 1 1) (field p 2 1) (field p 3 3)
  | .commitPrices => .commitPrices m (field p 1 2) (field p 3 1)
  | .replacePrice => .replacePrice m (field p 1 1) (field p 2 1) (field p 3 3) (field p 6 3)
  | .discardStaged => .discardStaged m
  | .enterNight => .enterNight m (field p 1 2)
  | .readIdent => .readIdent m
  | .setAddress => .setAddress m (field p 1 1) (field p 2 1)
  | .setLine => .setLine m (field p 1 1)
  | .setHose =>
      .setHose m (field p 1 1) (field p 2 1) (field p 3 1) (field p 4 1) (field p 5 1) (field p 6 1)
        (field p 7 1)
  | .setMeter =>
      .setMeter m (field p 1 1) (field p 2 1) (field p 3 2) (signedField p 5) (field p 7 1) (field p 8 1)
        (field p 9 2)
  | .setScale => .setScale m (field p 1 1) (field p 2 1) (field p 3 1) (field p 4 1)
  | .setTimers => .setTimers m (timerFieldsOf p)
  | .setThresholds => .setThresholds m (field p 1 2) (field p 3 1) (field p 4 1) (field p 5 1) (field p 6 1)
  | .setRoute =>
      .setRoute m (field p 1 1) (field p 2 1) (field p 3 1) (field p 4 1) (field p 5 1) (field p 6 1)
        (field p 7 1)
  | .clearRoute => .clearRoute m (field p 1 1)
  | .readRoute => .readRoute m (field p 1 1)
  | .setWake => .setWake m (wakeFieldsOf p)
  | .armWake => .armWake m
  | .openSide => .openSide m (field p 1 1)
  | .closeSide => .closeSide m (field p 1 1)
  | .readerAttach => .readerAttach m (field p 1 1)
  | .readerIsolate => .readerIsolate m (field p 1 1)
  | .readConfig => .readConfig m (field p 1 1) (field p 2 1)
  | .readJournal => .readJournal m (field p 1 1)
  | .readTotals => .readTotals m
  | .readCounters => .readCounters m
  | .restart => .restart m
  | .tunnel sd => .tunnel m sd p
  | .fetch sd => .fetch m sd

/-- What the port and payload of an accepted frame name (R148, R200). -/
inductive Reading where
  | empty
  | unknown (code : Nat)
  | kind (k : ReqKind)
  deriving DecidableEq, Repr

/-- The reader of a tunnel port (R124, R126). -/
def tunnelKind (sd : Side) (payload : List Byte) : ReqKind :=
  if payload.isEmpty then .fetch sd else .tunnel sd

/-- The kind of a frame's request, in the order of R148: on ports 1 and 2 the payload has no code. -/
def readKind (port : Nat) (payload : List Byte) : Reading :=
  match port with
  | 1 => .kind (tunnelKind .a payload)
  | 2 => .kind (tunnelKind .b payload)
  | _ =>
    match payload with
    | [] => .empty
    | code :: _ =>
      match kindOf port code.toNat with
      | some k => .kind k
      | none => .unknown code.toNat

/-- The payload has the length fixed for its kind (R148, R200). -/
def lengthRight (k : ReqKind) (payload : List Byte) : Bool :=
  match k.length with
  | some n => payload.length == n
  | none => true

/-- The request that a port and payload spell, where its code is known and its length right. -/
def decodeRequest (m : AddrMode) (port : Nat) (payload : List Byte) : Option Instr :=
  match readKind port payload with
  | .kind k => if lengthRight k payload then some (requestOf k m payload) else none
  | _ => none

/-! ## Writing a request (R200) -/

/-- The kind and address mode of a command that is a request. -/
def Instr.request? : Instr → Option (ReqKind × AddrMode)
  | .poll m => some (.poll, m)
  | .clearEvents m _ => some (.clearEvents, m)
  | .authorize m _ _ _ _ _ _ => some (.authorize, m)
  | .suspend m _ => some (.suspend, m)
  | .resume m _ => some (.resume, m)
  | .stop m _ => some (.stop, m)
  | .clearSale m _ _ => some (.clearSale, m)
  | .readSale m _ _ _ => some (.readSale, m)
  | .readLive m _ => some (.readLive, m)
  | .readPrices m => some (.readPrices, m)
  | .stagePrice m _ _ _ => some (.stagePrice, m)
  | .commitPrices m _ _ => some (.commitPrices, m)
  | .replacePrice m _ _ _ _ => some (.replacePrice, m)
  | .discardStaged m => some (.discardStaged, m)
  | .enterNight m _ => some (.enterNight, m)
  | .readIdent m => some (.readIdent, m)
  | .setAddress m _ _ => some (.setAddress, m)
  | .setLine m _ => some (.setLine, m)
  | .setHose m _ _ _ _ _ _ _ => some (.setHose, m)
  | .setMeter m _ _ _ _ _ _ _ => some (.setMeter, m)
  | .setScale m _ _ _ _ => some (.setScale, m)
  | .setTimers m _ => some (.setTimers, m)
  | .setThresholds m _ _ _ _ _ => some (.setThresholds, m)
  | .setRoute m _ _ _ _ _ _ _ => some (.setRoute, m)
  | .clearRoute m _ => some (.clearRoute, m)
  | .readRoute m _ => some (.readRoute, m)
  | .setWake m _ => some (.setWake, m)
  | .armWake m => some (.armWake, m)
  | .openSide m _ => some (.openSide, m)
  | .closeSide m _ => some (.closeSide, m)
  | .readerAttach m _ => some (.readerAttach, m)
  | .readerIsolate m _ => some (.readerIsolate, m)
  | .readConfig m _ _ => some (.readConfig, m)
  | .readJournal m _ => some (.readJournal, m)
  | .readTotals m => some (.readTotals, m)
  | .readCounters m => some (.readCounters, m)
  | .restart m => some (.restart, m)
  | .tunnel m sd _ => some (.tunnel sd, m)
  | .fetch m sd => some (.fetch sd, m)
  | _ => none

/-- The fields of SET_TIMERS as sent. -/
def timerPayload (t : TimerFields) : List Byte :=
  be 2 t.auth ++ be 2 t.zero ++ be 2 t.noFlow ++ be 2 t.suspend ++ be 2 t.settle ++ be 2 t.loss ++
  be 2 t.hold ++ be 2 t.confirm

/-- The fields of SET_WAKE as sent. -/
def wakePayload (w : WakeFields) : List Byte :=
  [w.addrValue, w.addrMask] ++ byte1 w.port ++ [w.codeValue, w.codeMask] ++ byte1 w.length ++
  [w.value0, w.mask0, w.value1, w.mask1, w.value2, w.mask2, w.value3, w.mask3] ++
  byte1 w.nozzleA ++ byte1 w.nozzleB

/-- The fields of a request as sent, after its code; the whole payload of a tunnel frame. -/
def Instr.fieldBytes : Instr → List Byte
  | .clearEvents _ mask => be 2 mask
  | .authorize _ side saleId allowed level limitType limitValue =>
      byte1 side ++ be 2 saleId ++ byte1 allowed ++ byte1 level ++ byte1 limitType ++ be 3 limitValue
  | .suspend _ side => byte1 side
  | .resume _ side => byte1 side
  | .stop _ side => byte1 side
  | .clearSale _ side saleId => byte1 side ++ be 2 saleId
  | .readSale _ side kind value => byte1 side ++ byte1 kind ++ be 2 value
  | .readLive _ side => byte1 side
  | .stagePrice _ grade level price => byte1 grade ++ byte1 level ++ be 3 price
  | .commitPrices _ generation commitMode => be 2 generation ++ byte1 commitMode
  | .replacePrice _ grade level old new => byte1 grade ++ byte1 level ++ be 3 old ++ be 3 new
  | .enterNight _ delay => be 2 delay
  | .setAddress _ address group => byte1 address ++ byte1 group
  | .setLine _ speed => byte1 speed
  | .setHose _ hose assigned side position grade primary secondary =>
      byte1 hose ++ byte1 assigned ++ byte1 side ++ byte1 position ++ byte1 grade ++ byte1 primary ++
      byte1 secondary
  | .setMeter _ meter mode k trim ra sa fmax =>
      byte1 meter ++ byte1 mode ++ be 2 k ++ beSigned trim ++ byte1 ra ++ byte1 sa ++ be 2 fmax
  | .setScale _ dv dp da rounding => byte1 dv ++ byte1 dp ++ byte1 da ++ byte1 rounding
  | .setTimers _ t => timerPayload t
  | .setThresholds _ margin reader site feedA feedB =>
      be 2 margin ++ byte1 reader ++ byte1 site ++ byte1 feedA ++ byte1 feedB
  | .setRoute _ row inUse source low high maxLen action =>
      byte1 row ++ byte1 inUse ++ byte1 source ++ byte1 low ++ byte1 high ++ byte1 maxLen ++ byte1 action
  | .clearRoute _ row => byte1 row
  | .readRoute _ row => byte1 row
  | .setWake _ w => wakePayload w
  | .openSide _ side => byte1 side
  | .closeSide _ side => byte1 side
  | .readerAttach _ reader => byte1 reader
  | .readerIsolate _ reader => byte1 reader
  | .readConfig _ sect meter => byte1 sect ++ byte1 meter
  | .readJournal _ index => byte1 index
  | .tunnel _ _ payload => payload
  | _ => []

/-- The payload of a request of a kind: its code and fields; on ports 1 and 2 there is no code. -/
def requestPayload (k : ReqKind) (i : Instr) : List Byte :=
  match k.length with
  | some _ => byte1 k.code ++ i.fieldBytes
  | none => i.fieldBytes

/-! ## The host's question -/

/-- The table gives no row any bits, so no word spells a command (log 34). -/
def decodeTableWord (_nbits _w : Nat) : Option Instr := none

end Sys2Proof
end

