-- ==== Sys2Proof/Machine/Operands.lean ====
section
/-! DEFINITION. Operand forms: the numbers of named values (R198, Table 12.2) read and written, multi-byte
fields, the CRC-16 of both buses (R199), the frames (Table 12.1), and the character fields of the display
modules (R107, R202). -/

/-! ## Numbers of the part's members (Table 12.2) -/

namespace Sys2Proof

def Side.num : Side → Nat
  | .a => 1
  | .b => 2

def Meter.num : Meter → Nat
  | .m1 => 1
  | .m2 => 2
  | .m3 => 3
  | .m4 => 4
  | .m5 => 5
  | .m6 => 6

def Hose.num : Hose → Nat
  | .h1 => 1
  | .h2 => 2
  | .h3 => 3
  | .h4 => 4
  | .h5 => 5
  | .h6 => 6
  | .h7 => 7
  | .h8 => 8

def Position.num : Position → Nat
  | .p1 => 1
  | .p2 => 2
  | .p3 => 3
  | .p4 => 4

def Grade.num : Grade → Nat
  | .g1 => 1
  | .g2 => 2
  | .g3 => 3
  | .g4 => 4
  | .g5 => 5
  | .g6 => 6
  | .g7 => 7
  | .g8 => 8

def Level.num : Level → Nat
  | .l1 => 1
  | .l2 => 2

end Sys2Proof

namespace Sys2Proof.Machine

open Sys2Proof

/-! ## Numbers of named values (Table 12.2) -/

def sideOf : Nat → Option Side
  | 1 => some .a
  | 2 => some .b
  | _ => none

def meterOf : Nat → Option Meter
  | 1 => some .m1
  | 2 => some .m2
  | 3 => some .m3
  | 4 => some .m4
  | 5 => some .m5
  | 6 => some .m6
  | _ => none

def hoseOf : Nat → Option Hose
  | 1 => some .h1
  | 2 => some .h2
  | 3 => some .h3
  | 4 => some .h4
  | 5 => some .h5
  | 6 => some .h6
  | 7 => some .h7
  | 8 => some .h8
  | _ => none

def positionOf : Nat → Option Position
  | 1 => some .p1
  | 2 => some .p2
  | 3 => some .p3
  | 4 => some .p4
  | _ => none

def gradeOf : Nat → Option Grade
  | 1 => some .g1
  | 2 => some .g2
  | 3 => some .g3
  | 4 => some .g4
  | 5 => some .g5
  | 6 => some .g6
  | 7 => some .g7
  | 8 => some .g8
  | _ => none

def levelOf : Nat → Option Level
  | 1 => some .l1
  | 2 => some .l2
  | _ => none

/-- A flag field holds 0 or 1 (Table 12.2). -/
def flagOf : Nat → Option Bool
  | 0 => some false
  | 1 => some true
  | _ => none

def flagNum : Bool → Nat
  | false => 0
  | true => 1

/-- The allowed set of AUTHORIZE: bit k-1 is position k (R200); none where it is empty or names a position
outside 1..4 (R40). -/
def allowedOf (v : Nat) : Option (PerPosition Bool) :=
  if 1 ≤ v ∧ v ≤ 15 then some ⟨v.testBit 0, v.testBit 1, v.testBit 2, v.testBit 3⟩ else none

/-- Limit type and value (R40): for NONE the value is not examined. -/
def limitOf (kind value : Nat) : Option Limit :=
  match kind with
  | 0 => some .none
  | 1 => if 1 ≤ value ∧ value ≤ Config.displayMax then some (.amount value) else none
  | 2 => if 1 ≤ value ∧ value ≤ Config.displayMax then some (.volume value) else none
  | _ => none

def Limit.typeNum : Limit → Nat
  | .none => 0
  | .amount _ => 1
  | .volume _ => 2

/-- The limit value as sent: zeros where it is absent (R86). -/
def Limit.value : Limit → Nat
  | .none => 0
  | .amount v => v
  | .volume v => v

def speedOf : Nat → Option Speed
  | 0 => some .s9600
  | 1 => some .s19200
  | 2 => some .s38400
  | 3 => some .s57600
  | _ => none

def Speed.num : Speed → Nat
  | .s9600 => 0
  | .s19200 => 1
  | .s38400 => 2
  | .s57600 => 3

def meterModeOf : Nat → Option MeterMode
  | 0 => some .quad
  | 1 => some .single
  | _ => none

def MeterMode.num : MeterMode → Nat
  | .quad => 0
  | .single => 1

def roundingOf : Nat → Option Rounding
  | 0 => some .halfUp
  | 1 => some .down
  | _ => none

def Rounding.num : Rounding → Nat
  | .halfUp => 0
  | .down => 1

def sourceOf : Nat → Option RouteSource
  | 1 => some (.site .a)
  | 2 => some (.site .b)
  | 3 => some (.reader .a)
  | 4 => some (.reader .b)
  | _ => none

def RouteSource.num : RouteSource → Nat
  | .site .a => 1
  | .site .b => 2
  | .reader .a => 3
  | .reader .b => 4

/-- The reader of a row (R120). -/
def RouteSource.side : RouteSource → Side
  | .site sd => sd
  | .reader sd => sd

def RouteSource.isSite : RouteSource → Bool
  | .site _ => true
  | .reader _ => false

def actionOf : Nat → Option RouteAction
  | 1 => some .forward
  | 2 => some .supervisor
  | 3 => some .drop
  | 4 => some .violation
  | _ => none

def RouteAction.num : RouteAction → Nat
  | .forward => 1
  | .supervisor => 2
  | .drop => 3
  | .violation => 4

/-- The mode as STATUS and READ_IDENT report it. -/
def Mode.num : Mode → Nat
  | .poweringUp _ => 1
  | .run => 2
  | .night => 3
  | .failsafe => 4

def WakeCause.num : WakeCause → Nat
  | .powerOn => 1
  | .restart => 2
  | .filter => 3
  | .timer => 4
  | .nozzle => 5
  | .fallback => 6

def SideState.num : SideState → Nat
  | .closed _ => 0
  | .idle => 1
  | .calling => 2
  | .authorized _ => 3
  | .sale (.starting _) _ => 4
  | .sale (.fuelling _) _ => 5
  | .sale (.slowing _) _ => 6
  | .sale (.suspended _) _ => 7
  | .sale (.stopped _) _ => 8

def ClosedReason.num : ClosedReason → Nat
  | .management => 1
  | .meterFault => 2
  | .reverseFlow => 3
  | .strayFlow => 4
  | .displayFault => 5
  | .nvFault => 6

def StartBlocked.num : StartBlocked → Nat
  | .none => 0
  | .priceInvalid => 1
  | .railDown => 2

def EndReason.num : EndReason → Nat
  | .limitReached => 1
  | .saturated => 2
  | .nozzleHung => 3
  | .siteStop => 4
  | .noFlow => 5
  | .suspendTimeout => 6
  | .meterFault => 7
  | .reverseFlow => 8
  | .highFlow => 9
  | .strayFlow => 10
  | .displayFault => 11
  | .powerFail => 12
  | .supplyFault => 13

def EndOutcome.num : EndOutcome → Nat
  | .none => 0
  | .stacked => 1
  | .noDelivery => 2

def ReaderState.num : ReaderState → Nat
  | .off _ => 0
  | .probing => 1
  | .attached => 2
  | .quarantined => 3
  | .tampered => 4

/-- The off reason as a fetch reply carries it: none outside OFF (R126). -/
def ReaderState.offNum : ReaderState → Nat
  | .off .power => 1
  | .off .isolated => 2
  | .off .absent => 3
  | _ => 0

/-! ## Bytes, checks and frames -/

/-- One of the eight steps of the check register (R199). -/
def crcStep (r : Word16) : Word16 := if r.msb then (r <<< 1) ^^^ 0x1021#16 else r <<< 1

/-- One byte into the check register (R199). -/
def crcByte (r : Word16) (b : Byte) : Word16 :=
  let x := r ^^^ (b.setWidth 16 <<< 8)
  crcStep (crcStep (crcStep (crcStep (crcStep (crcStep (crcStep (crcStep x)))))))

/-- The CRC-16 of both buses and of a display content (R199). -/
def crc16 (l : List Byte) : Word16 := l.foldl crcByte 0xFFFF#16

def crcBytes (c : Word16) : List Byte := be 2 c.toNat

def siteStart : Byte := 0xD5#8

/-- The bytes of a site frame from its address byte to its last payload byte: what its check covers. -/
def siteBody (address port : Byte) (payload : List Byte) : List Byte :=
  address :: port :: BitVec.ofNat 8 payload.length :: payload

/-- A whole site frame with the check it should carry (Table 12.1). -/
def siteFrame (address port : Byte) (payload : List Byte) : List Byte :=
  siteStart :: siteBody address port payload ++ crcBytes (crc16 (siteBody address port payload))

/-- The bytes a local frame's check covers (R100). -/
def localBody (address : Byte) (payload : List Byte) : List Byte :=
  address :: BitVec.ofNat 8 payload.length :: payload

def localStart : Byte := 0xE7#8

/-- A whole local frame of the part: start byte, address with its direction bit clear, length, payload and the
check computed anew over address to payload, high byte first (R100, R127, R199, Table 12.1). -/
def localFrame (address : Byte) (payload : List Byte) : List Byte :=
  localStart :: localBody address payload ++ crcBytes (crc16 (localBody address payload))

/-- Local addresses (00 Table 1). -/
def SlotId.address : SlotId → Byte
  | .display (.sale .a) => 0x11#8
  | .display (.sale .b) => 0x12#8
  | .display (.panel .a) => 0x13#8
  | .display (.panel .b) => 0x14#8
  | .reader .a => 0x21#8
  | .reader .b => 0x22#8

/-! ## Display fields (R107, R202) -/

def glyphBlank : Byte := 0x0A#8
def glyphDash : Byte := 0x0B#8
/-- Every segment with its point (R202: always sent with the point set). -/
def glyphFull : Byte := 0x8C#8

/-- The character `i` places from the right of a figure with `d` decimals: the units digit and every digit
right of it are shown, zeros left of the first non-zero digit are blank, the point stands at the units
digit when there are decimals (R107). -/
def figureCell (d v i : Nat) : Byte :=
  if i ≤ d ∨ 10 ^ i ≤ v then
    BitVec.ofNat 8 (v / 10 ^ i % 10 + if i = d ∧ 0 < d then 0x80 else 0)
  else glyphBlank

/-- A figure in a field of `w` positions with `d` decimals, left to right (R107). -/
def figureField (w d v : Nat) : List Byte := (List.range w).reverse.map (figureCell d v)

def blankField (w : Nat) : List Byte := List.replicate w glyphBlank
def dashField (w : Nat) : List Byte := List.replicate w glyphDash
def fullField (w : Nat) : List Byte := List.replicate w glyphFull

/-- Whole seconds in a span of ms. -/
def seconds (ms : Nat) : Nat := ms / 1000

end Sys2Proof.Machine
end

