-- ==== Sys2Proof/Machine/Ops.lean ====
section
/-! DEFINITION. Named operations over the state that the families share: access to sides, channels and
readers, the time base, the write queue of the retained store, the hose map, panel content, the outputs. -/

namespace Sys2Proof.Machine

open Sys2Proof

/-! ## Access -/

def State.side (s : State) (sd : Side) : SideRec := s.sides.get sd

def State.withSide (s : State) (sd : Side) (r : SideRec) : State := { s with sides := s.sides.set sd r }

def State.sideState (s : State) (sd : Side) : SideState := (s.side sd).state

def State.withSideState (s : State) (sd : Side) (st : SideState) : State :=
  s.withSide sd { s.side sd with state := st }

def State.lifted (s : State) (sd : Side) : List Hose := (s.side sd).lifted

def State.withLifted (s : State) (sd : Side) (l : List Hose) : State :=
  s.withSide sd { s.side sd with lifted := l }

def State.channel (s : State) (m : Meter) : Channel := s.mci.get m

def State.withChannel (s : State) (m : Meter) (c : Channel) : State := { s with mci := s.mci.set m c }

def State.reader (s : State) (sd : Side) : ReaderRec := s.riu.get sd

def State.withReader (s : State) (sd : Side) (r : ReaderRec) : State := { s with riu := s.riu.set sd r }

def State.withCfg (s : State) (c : Cfg) : State := { s with cfg := c }

def State.withLbc (s : State) (l : Lbc) : State := { s with lbc := l }

def State.withSli (s : State) (l : Sli) : State := { s with sli := l }

def State.withNvs (s : State) (n : Nvs) : State := { s with nvs := n }

def State.withPsq (s : State) (p : Psq) : State := { s with psq := p }

def State.withMode (s : State) (m : Mode) : State := s.withPsq { s.psq with mode := m }

def State.withLines (s : State) (l : Lines) : State := { s with lines := l }

/-- One step of the counter that the free values are applied to. -/
def State.drawn (s : State) : State := { s with freeCount := s.freeCount + 1 }

/-- The time base moves to a timer's expiry, if that lies ahead (log 2). -/
def State.expireAt (s : State) (deadline : Nat) : State := { s with now := max s.now deadline }

/-- One more, modulo 2^32 (R14, R118, R155). -/
def wrap32 (n : Nat) : Nat := n % 4294967296

/-- The next of a counter in 1..4294967295 that goes back to 1 (R87, R172). -/
def nextSeq (n : Nat) : Nat := if 4294967295 ≤ n then 1 else n + 1

def State.inRun (s : State) : Bool := s.psq.mode == .run

def Mode.isPoweringUp : Mode → Bool
  | .poweringUp _ => true
  | _ => false

def State.poweringUp (s : State) : Bool := s.psq.mode.isPoweringUp

/-- The restart drain of R170. -/
def State.restartDraining (s : State) : Bool := s.psq.restart == .draining

/-- A drain has been asked of the store (R178). -/
def State.nightDraining (s : State) : Bool :=
  match s.psq.night with
  | some r => r.draining
  | none => false

/-! ## Write queue of the retained store (R173, R174, R177) -/

/-- A write request taken into the queue (R173); a METROLOGY request joins the head while the power
warning is asserted (R177). -/
def enqueueKind (warning : Bool) (k : Kind) (q : List Kind) : List Kind :=
  if k ∈ q then q
  else if k = .metrology ∧ warning = true then k :: q
  else q ++ [k]

def requestWrite (k : Kind) (s : State) : State :=
  s.withNvs { s.nvs with queue := enqueueKind s.lines.warning k s.nvs.queue }

/-- METROLOGY to the head, the others in their order (R177). -/
def urgentQueue (q : List Kind) : List Kind :=
  if Kind.metrology ∈ q then .metrology :: q.filter (· ≠ .metrology) else q

def SlotNo.other : SlotNo → SlotNo
  | .m0 => .m1
  | .m1 => .m0

/-- Slot and stamp of the next METROLOGY write (R172). -/
def writeTarget : Option (SlotNo × Nat) → SlotNo × Nat
  | none => (.m0, 1)
  | some (n, stamp) => (n.other, nextSeq stamp)

/-- The content a write of the kind takes from its owners (R174). -/
def takeContent (s : State) : Kind → WriteContent
  | .config => .config s.cfg
  | .prices => .prices s.ptu
  | .metrology => .metrology (writeTarget s.nvs.current).1 ⟨s.sru, (writeTarget s.nvs.current).2⟩

/-- Write times in ms (R171). -/
def writeTime : Kind → Nat
  | .config => 15
  | .prices => 5
  | .metrology => 20

/-- A write begins when none is in progress, the queue is not empty and LOAD is not reading (R174). -/
def beginWrite (s : State) : State :=
  match s.nvs.job, s.nvs.load, s.nvs.queue with
  | none, .none, k :: rest =>
      s.withNvs { s.nvs with queue := rest, job := some ⟨takeContent s k, s.now + writeTime k⟩ }
  | _, _, _ => s

/-! ## Hose map (R2, R163) -/

/-- Whether a hose record names the meter. -/
def HoseRec.names (r : HoseRec) (m : Meter) : Bool := r.primary == m || r.secondary == some m

/-- The record a map gives a position of a side. -/
def hoseAt (map : PerHose (Option HoseRec)) (sd : Side) (p : Position) : Option HoseRec :=
  Hose.all.findSome? fun h =>
    match map.get h with
    | some r => if r.side = sd ∧ r.position = p then some r else none
    | none => none

/-- The owning side of a meter: that of the hoses that name it (R2). -/
def owningSide (map : PerHose (Option HoseRec)) (m : Meter) : Option Side :=
  Hose.all.findSome? fun h =>
    match map.get h with
    | some r => if r.names m then some r.side else none
    | none => none

/-- The side the map assigns a hose to. -/
def hoseSide (map : PerHose (Option HoseRec)) (h : Hose) : Option Side :=
  (map.get h).map HoseRec.side

/-- A reset of the stray count: 0, and not reported since (R12). -/
def Channel.strayReset (c : Channel) : Channel := { c with stray := 0, strayTold := false }

/-- The stray counts of the meters a side owns are set to 0 (R12). -/
def resetStrays (sd : Side) (s : State) : State :=
  { s with mci := s.mci.mapAll fun m c =>
      if owningSide s.cfg.hoses m = some sd then c.strayReset else c }

/-! ## Prices and panels (R67, R80, R82) -/

def PriceTable.entry (t : PriceTable) (g : Grade) (l : Level) : Nat := (t.get g).get l

def PriceTable.withEntry (t : PriceTable) (g : Grade) (l : Level) (v : Nat) : PriceTable :=
  t.set g ((t.get g).set l v)

/-- A panel group that follows the active table (R80, cases 3 to 5). -/
def openGroup (s : State) (sd : Side) (p : Position) : Option Nat :=
  match hoseAt s.cfg.hoses sd p with
  | none => none
  | some r =>
    let v := s.ptu.active.entry r.grade .l1
    if v = 0 then none else some v

/-- A group of a side's panel (R80, R81). -/
def panelGroup (s : State) (sd : Side) (p : Position) : Option Nat :=
  match s.sideState sd with
  | .closed _ => none
  | .sale _ ctx => if ctx.position = p then ctx.latch.frozen else openGroup s sd p
  | _ => openGroup s sd p

def formPanel (s : State) (sd : Side) : PanelContent :=
  ⟨panelGroup s sd .p1, panelGroup s sd .p2, panelGroup s sd .p3, panelGroup s sd .p4⟩

/-- The PTU forms a side's panel content and hands it to the LBC (R82). -/
def handPanel (sd : Side) (s : State) : State :=
  s.withLbc { s.lbc with panels := s.lbc.panels.set sd (formPanel s sd) }

def handPanels (s : State) : State := handPanel .b (handPanel .a s)

/-! ## Sales -/

/-- The sale context of a side state. -/
def SideState.sale? : SideState → Option Sale
  | .sale _ ctx => some ctx
  | _ => none

/-- The meter is one of the sale's (R5). -/
def Sale.engages (ctx : Sale) (m : Meter) : Bool :=
  ctx.primary == m ||
  match ctx.secondary with
  | some (n, _) => n == m
  | none => false

/-- A side whose sale has the meter engaged. -/
def State.engagedAt (s : State) (m : Meter) (sd : Side) : Bool :=
  match (s.sideState sd).sale? with
  | some ctx => ctx.engages m
  | none => false

/-- The side a meter is engaged to, or none when the channel is free (R5). -/
def State.engagedSide (s : State) (m : Meter) : Option Side :=
  if s.engagedAt m .a then some .a else if s.engagedAt m .b then some .b else none

/-! ## Outputs of the Drive Output Driver (R63, R170, R182) -/

/-- Motor and valve outputs may be on: rail good, no warning, in RUN and not in a restart drain. -/
def driveEnabled (s : State) : Bool :=
  s.powered && s.lines.railGood && !s.lines.warning && s.inRun && !s.restartDraining

/-- The motor demand of a side state (R63). -/
def SideState.motorDemand : SideState → Bool
  | .sale (.starting _) _ => true
  | .sale (.fuelling _) _ => true
  | .sale (.slowing _) _ => true
  | .sale (.suspended _) _ => true
  | _ => false

/-- The fast valve demand of a side state for a hose (R63). -/
def SideState.fastDemand (h : Hose) : SideState → Bool
  | .sale (.fuelling _) ctx => ctx.hose == h
  | _ => false

/-- The slow valve demand of a side state for a hose (R63). -/
def SideState.slowDemand (h : Hose) : SideState → Bool
  | .sale (.fuelling _) ctx => ctx.hose == h
  | .sale (.slowing _) ctx => ctx.hose == h
  | _ => false

def motorOut (s : State) (sd : Side) : Bool := driveEnabled s && (s.sideState sd).motorDemand

def fastValveOut (s : State) (h : Hose) : Bool :=
  driveEnabled s && ((s.sideState .a).fastDemand h || (s.sideState .b).fastDemand h)

def slowValveOut (s : State) (h : Hose) : Bool :=
  driveEnabled s && ((s.sideState .a).slowDemand h || (s.sideState .b).slowDemand h)

/-- The switched supplies follow their demands in POWERING_UP and RUN only, and not in a restart drain. -/
def supplyEnabled (s : State) : Bool :=
  s.powered && (s.poweringUp || s.inRun) && !s.restartDraining

def displaySupplyOut (s : State) : Bool := supplyEnabled s && s.psq.displayDemand

/-- The reader's supply demand (R118). -/
def ReaderState.supplyDemand : ReaderState → Bool
  | .probing => true
  | .attached => true
  | _ => false

def readerSupplyOut (s : State) (sd : Side) : Bool :=
  supplyEnabled s && (s.reader sd).state.supplyDemand

end Sys2Proof.Machine
end

