-- ==== Sys2Proof/Machine/Records.lean ====
section
/-! DEFINITION. The Sale Record Unit's operations (chapter 05): building a record, stack, journal and totals
together, clearing, rebuilding the stacks. -/

namespace Sys2Proof.Machine

open Sys2Proof

/-- Whole seconds since the STARTING entry, held at 65535 (R32, R85). -/
def elapsedSeconds (now start : Nat) : Nat := min (seconds (now - start)) 65535

/-- The record of a sale at its completion (R85, R86). -/
def buildRecord (s : State) (sd : Side) (e : Ended) (ctx : Sale) : SaleRecord where
  seq := s.sru.seq
  saleId := ctx.saleId
  side := sd
  hose := ctx.hose
  position := ctx.position
  grade := ctx.latch.grade
  level := ctx.latch.level
  price := ctx.latch.price
  generation := ctx.latch.generation
  limit := ctx.limit
  volume := ctx.figures.volume
  amount := ctx.figures.amount
  high := ctx.primaryCt.high
  reverse := ctx.primaryCt.reverse
  secondary := ctx.secondary.map fun p => (p.2.high, p.2.reverse)
  overrun := ctx.figures.volume - e.volumeClosed
  endReason := e.reason
  faultMeter := e.faultMeter
  saturated := ctx.figures.saturated
  scale := ctx.figures.scale
  duration := elapsedSeconds s.now ctx.figures.start

/-- The oldest paid record leaves (R89). -/
def removeOldestPaid : List JournalEntry → List JournalEntry
  | [] => []
  | e :: rest => if e.paid then rest else e :: removeOldestPaid rest

/-- A new record joins the journal unpaid; a full journal loses its oldest paid record (R89). -/
def appendJournal (j : List JournalEntry) (r : SaleRecord) : List JournalEntry :=
  (if j.length < Config.journalMax then j else removeOldestPaid j) ++ [⟨r, false⟩]

/-- A displayed volume in mL (R91). -/
def volumeMl (sc : Scale) (v : Nat) : Nat := if sc.dv = 2 then v * 10 else v

/-- A hose's totals with one record added (R91). -/
def addHose (t : HoseTotals) (r : SaleRecord) : HoseTotals where
  volume := (t.volume + volumeMl r.scale r.volume) % 1000000000000
  amount := (t.amount + r.amount) % 100000000000
  count := wrap32 (t.count + 1)

/-- A meter's pulse total with a settled H added (R91). -/
def addPulses (p : PerMeter Nat) (m : Meter) (high : Nat) : PerMeter Nat :=
  p.set m ((p.get m + high) % 1000000000000)

/-- The pulse totals with the meters of a sale added, each by its own H (R91). -/
def addSalePulses (p : PerMeter Nat) (ctx : Sale) : PerMeter Nat :=
  let p1 := addPulses p ctx.primary ctx.primaryCt.high
  match ctx.secondary with
  | none => p1
  | some (m, c) => addPulses p1 m c.high

/-- Record, stack, journal, totals and counter together, and the METROLOGY write (R93). -/
def stackRecord (sd : Side) (ctx : Sale) (r : SaleRecord) (s : State) : State :=
  requestWrite .metrology
    { s with
      sru :=
        { hoses := s.sru.hoses.set r.hose (addHose (s.sru.hoses.get r.hose) r)
          pulses := addSalePulses s.sru.pulses ctx
          journal := appendJournal s.sru.journal r
          seq := nextSeq s.sru.seq }
      stack := s.stack.set sd (s.stack.get sd ++ [r]) }

/-- The unpaid journal records of a side, oldest first (R98). -/
def rebuiltStack (j : List JournalEntry) (sd : Side) : List SaleRecord :=
  j.filterMap fun e => if e.record.side = sd ∧ e.paid = false then some e.record else none

/-- The newest journal record of a side (R90). -/
def newestRecord (j : List JournalEntry) (sd : Side) : Option SaleRecord :=
  (j.reverse.find? fun e => e.record.side = sd).map JournalEntry.record

/-- Remove the first record with the sale id from a stack (R88, R94). -/
def removeSale (id : Nat) : List SaleRecord → List SaleRecord
  | [] => []
  | r :: rest => if r.saleId = id then rest else r :: removeSale id rest

/-- Mark the journal copy of a record paid (R94). -/
def markPaid (seq : Nat) (j : List JournalEntry) : List JournalEntry :=
  j.map fun e => if e.record.seq = seq then { e with paid := true } else e

end Sys2Proof.Machine
end

