-- ==== Sys2Proof/Machine/Readers.lean ====
section
/-! DEFINITION. The shared operations of the Reader Isolation Unit (chapter 07): leaving service, the error
counter, the route table, supervision, the probe, and what a reader's slot sends. -/

namespace Sys2Proof.Machine

open Sys2Proof

/-! ## Codes of the part's own reader messages (R202) -/

def codeNothing : Byte := 0#8
def codeStatus : Byte := 1#8
def codePoll : Byte := 2#8
def codeFigures : Byte := 3#8

/-- Bit 0 alive, bit 1 tamper-ok of a valid STATUS (R132, R202). -/
structure StatusFlags where
  alive    : Bool
  tamperOk : Bool
  deriving DecidableEq, Repr

/-- A valid STATUS is its code and one flags byte (R132). -/
def statusOf : List Byte → Option StatusFlags
  | [code, flags] => if code = codeStatus then some ⟨flags.getLsbD 0, flags.getLsbD 1⟩ else none
  | _ => none

/-! ## Leaving service (R119) -/

/-- A reader slot in progress is abandoned: its answer is not taken (R119; log 21). -/
def abandonReaderSlot (sd : Side) (s : State) : State :=
  match s.lbc.slot with
  | some sl =>
    if sl.slotId = .reader sd then s.withLbc { s.lbc with slot := some { sl with take := false } } else s
  | none => s

/-- Entry to OFF, QUARANTINED or TAMPERED (R119). -/
def cutReader (sd : Side) (st : ReaderState) (hold : HoldTimer) (report : Bool) (s : State) : State :=
  let r := s.reader sd
  let s1 := abandonReaderSlot sd
    (s.withReader sd
      { r with
        state := st
        probe := none
        hold := hold
        up := []
        down := []
        flushed := wrap32 (r.flushed + (r.up.length + r.down.length)) })
  if report then raise (.readerOut sd) s1 else s1

/-- Entry to OFF: only ABSENT raises the event (R119). -/
def enterOff (sd : Side) (reason : OffReason) (s : State) : State :=
  cutReader sd (.off reason) .stopped (reason == .absent) s

/-- Entry to QUARANTINED starts the hold timer (R119, R134). -/
def enterQuarantined (sd : Side) (s : State) : State :=
  cutReader sd .quarantined (.running (s.now + 1000 * s.cfg.timers.hold)) true s

/-- A tamper report; a reader already TAMPERED is not changed (R135). -/
def enterTampered (sd : Side) (s : State) : State :=
  if (s.reader sd).state = .tampered then s else cutReader sd .tampered .stopped true s

/-- OFF with POWER, but for a TAMPERED reader (R140). -/
def powerOff (sd : Side) (s : State) : State :=
  if (s.reader sd).state = .tampered then s else enterOff sd .power s

def powerOffReaders (s : State) : State := powerOff .b (powerOff .a s)

/-! ## Error counter (R133) -/

/-- An error of an ATTACHED reader: the counter held at the threshold, quarantine when it is reached. -/
def countReaderError (sd : Side) (s : State) : State :=
  let r := s.reader sd
  let e := min (r.err + 1) s.cfg.thresholds.reader
  let s1 := s.withReader sd { r with err := e }
  if e = s.cfg.thresholds.reader then enterQuarantined sd s1 else s1

/-- A good frame routed FORWARD or SUPERVISOR. -/
def countReaderGood (sd : Side) (s : State) : State :=
  s.withReader sd { s.reader sd with err := (s.reader sd).err - 1 }

def countDrop (sd : Side) (s : State) : State :=
  s.withReader sd { s.reader sd with drops := wrap32 ((s.reader sd).drops + 1) }

def countViolation (sd : Side) (s : State) : State :=
  s.withReader sd { s.reader sd with violations := wrap32 ((s.reader sd).violations + 1) }

/-! ## Route table (R120, R121) -/

/-- What the table makes of a frame. -/
inductive RouteClass where
  | noRow
  | tooLong
  | act (a : RouteAction)
  deriving DecidableEq, Repr

/-- The row is in use, of the source, and its code range holds the code. -/
def RouteRow.matchesCode (r : RouteRow) (src : RouteSource) (code : Nat) : Bool :=
  r.inUse && r.source == src && decide (r.low ≤ code) && decide (code ≤ r.high)

/-- Classification by the first matching row (R121). -/
def classifyFrame (rows : List RouteRow) (src : RouteSource) (payload : List Byte) : RouteClass :=
  match rows.find? fun r => r.matchesCode src (payload.headD 0#8).toNat with
  | none => .noRow
  | some r => if r.maxLen < payload.length then .tooLong else .act r.action

/-! ## Answers of a reader (R130, R132, R138) -/

/-- A reader or display answer as taken (R100). -/
inductive Answer where
  | none
  | bad
  | good (payload : List Byte)
  deriving DecidableEq, Repr

/-- Supervision of an ATTACHED reader (R132). -/
def supervise (sd : Side) (payload : List Byte) (s : State) : State :=
  match statusOf payload with
  | none => countDrop sd s
  | some f =>
    if f.tamperOk = false then enterTampered sd s
    else if f.alive = false then enterOff sd .absent s
    else s

/-- A good frame of an ATTACHED reader delivered by the route table (R122, R130, R133). -/
def deliverReaderFrame (sd : Side) (payload : List Byte) (s : State) : State :=
  match classifyFrame s.cfg.routes (.reader sd) payload with
  | .tooLong => countReaderError sd s
  | .noRow => countReaderError sd (countViolation sd s)
  | .act .violation => countReaderError sd (countViolation sd s)
  | .act .drop => countDrop sd s
  | .act .supervisor => supervise sd payload (countReaderGood sd s)
  | .act .forward =>
      let s1 := countReaderGood sd s
      s1.withReader sd { s1.reader sd with up := (s1.reader sd).up ++ [payload] }

/-- A neutral answer: an empty payload or NOTHING alone (R130). -/
def neutralAnswer (payload : List Byte) : Bool := payload.isEmpty || payload == [codeNothing]

def takeAttachedAnswer (sd : Side) (ans : Answer) (s : State) : State :=
  match ans with
  | .none => countReaderError sd s
  | .bad => countReaderError sd s
  | .good payload => if neutralAnswer payload then s else deliverReaderFrame sd payload s

/-- Entry to ATTACHED (R138). -/
def attachReader (sd : Side) (s : State) : State :=
  s.withReader sd { s.reader sd with state := .attached, probe := none, err := 0, lastFigures := none }

/-- The answer of a probing reader (R138). -/
def takeProbeAnswer (sd : Side) (ans : Answer) (s : State) : State :=
  match ans with
  | .good payload =>
    match statusOf payload with
    | none => s
    | some f =>
      if f.tamperOk = false then enterTampered sd s
      else if f.alive then attachReader sd s
      else s
  | _ => s

def takeReaderAnswer (sd : Side) (ans : Answer) (s : State) : State :=
  match (s.reader sd).state with
  | .attached => takeAttachedAnswer sd ans s
  | .probing => takeProbeAnswer sd ans s
  | _ => s

/-! ## Live mirror and the reader's slot (R32, R128, R129) -/

/-- The live mirror of a side (R32). -/
structure Mirror where
  state     : Nat
  hose      : Nat
  volume    : Nat
  amount    : Nat
  price     : Nat
  elapsed   : Nat
  saturated : Bool
  deriving DecidableEq, Repr

def liveMirror (s : State) (sd : Side) : Mirror :=
  match (s.sideState sd).sale? with
  | some ctx =>
    ⟨(s.sideState sd).num, ctx.hose.num, ctx.figures.volume, ctx.figures.amount, ctx.latch.price,
      elapsedSeconds s.now ctx.figures.start, ctx.figures.saturated⟩
  | none => ⟨(s.sideState sd).num, 0, 0, 0, 0, 0, false⟩

/-- The payload of a FIGURES frame (R129, R202). -/
def figuresPayload (s : State) (sd : Side) : List Byte :=
  let m := liveMirror s sd
  codeFigures :: (byte1 m.state ++ byte1 m.hose ++ be 3 m.volume ++ be 3 m.amount ++ be 3 m.price)

/-- What the RIU does with a reader's slot (R128). -/
inductive SlotChoice where
  | skip
  | down (payload : List Byte) (rest : List (List Byte))
  | figures
  | poll
  deriving DecidableEq, Repr

/-- A FIGURES frame is due (R128 case 5). -/
def figuresDue (s : State) (sd : Side) : Bool :=
  s.cfg.thresholds.feed.get sd && (s.sideState sd).sale?.isSome &&
  match (s.reader sd).lastFigures with
  | none => true
  | some t => decide (t + Config.figuresTime ≤ s.now)

/-- The choice of R128. -/
def slotChoice (s : State) (sd : Side) : SlotChoice :=
  let r := s.reader sd
  match r.state with
  | .off _ => .skip
  | .quarantined => .skip
  | .tampered => .skip
  | .probing => if r.probe = none ∨ 4 ≤ r.up.length then .skip else .poll
  | .attached =>
    if 4 ≤ r.up.length then .skip
    else match r.down with
      | payload :: rest => .down payload rest
      | [] => if figuresDue s sd then .figures else .poll

end Sys2Proof.Machine
end

