-- ==== Sys2Proof/Machine/Sides.lean ====
section
/-! DEFINITION. The shared operations of the two Fueling Point Controllers (chapter 03): calling and closing,
the start condition and the STARTING entry, the entry to STOPPED, completion, and the reports a side takes. -/

namespace Sys2Proof.Machine

open Sys2Proof

/-! ## Idle, calling, closed -/

/-- Entry to CALLING raises the side's call event (R39). -/
def enterCalling (sd : Side) (s : State) : State :=
  raise (.call sd) (s.withSideState sd .calling)

/-- CALLING when the lifted list is not empty, else IDLE (R42, R43, R59). -/
def enterOpen (sd : Side) (s : State) : State :=
  if s.lifted sd = [] then s.withSideState sd .idle else enterCalling sd s

/-- IDLE and CALLING follow the lifted list (R39). -/
def followLifted (sd : Side) (s : State) : State :=
  match s.sideState sd with
  | .idle => if s.lifted sd = [] then s else enterCalling sd s
  | .calling => if s.lifted sd = [] then s.withSideState sd .idle else s
  | _ => s

/-- Clear a side-open flag that is set, and queue CONFIG (R60, R61). -/
def clearSideOpen (sd : Side) (s : State) : State :=
  if s.cfg.sideOpen.get sd then
    requestWrite .config (s.withCfg { s.cfg with sideOpen := s.cfg.sideOpen.set sd false })
  else s

/-- Entry to CLOSED by any cause (R60). -/
def enterClosed (sd : Side) (reason : ClosedReason) (s : State) : State :=
  let s1 := clearSideOpen sd (s.withSideState sd (.closed reason))
  handPanel sd (if s1.inRun = true ∧ reason ≠ .management then raise (.closed sd) s1 else s1)

/-! ## Start condition and STARTING entry -/

/-- The hose is on the side, at an allowed position (R44). -/
def allowedHose (map : PerHose (Option HoseRec)) (sd : Side) (allowed : PerPosition Bool) (h : Hose) : Bool :=
  match map.get h with
  | some r => r.side == sd && allowed.get r.position
  | none => false

/-- The oldest lifted hose whose position is allowed (R44). -/
def candidate (s : State) (sd : Side) (a : Auth) : Option Hose :=
  (s.lifted sd).find? (allowedHose s.cfg.hoses sd a.allowed)

/-- Outcome of a test of the start condition (R44, R45). -/
inductive StartTest where
  | wait (blocked : StartBlocked)
  | start (h : Hose) (r : HoseRec) (price : Nat)
  deriving DecidableEq, Repr

/-- A valid price (R67). -/
def validPrice (p : Nat) : Bool := 1 ≤ p && p ≤ Config.priceMax

/-- The start condition (R44) and, where it does not hold, the start-blocked reason (R45). -/
def startTest (s : State) (sd : Side) (a : Auth) : StartTest :=
  match candidate s sd a with
  | none => .wait .none
  | some h =>
    match s.cfg.hoses.get h with
    | none => .wait .none
    | some r =>
      let price := s.ptu.active.entry r.grade a.level
      if validPrice price = false then .wait .priceInvalid
      else if s.lines.railGood = false ∨ s.lines.warning = true then .wait .railDown
      else if s.inRun then .start h r price
      else .wait .none

/-- Per-sale counters at engagement (R5). -/
def Counters.start (now : Nat) : Counters := ⟨0, 0, 0, 0, 0, now, false, false, false⟩

/-- The sale context of a STARTING entry (R46, R77, R81). -/
def startContext (s : State) (sd : Side) (a : Auth) (h : Hose) (r : HoseRec) (price : Nat) : Sale where
  saleId := a.saleId
  allowed := a.allowed
  level := a.level
  limit := a.limit
  hose := h
  position := r.position
  latch := ⟨r.grade, a.level, price, s.ptu.generation, openGroup s sd r.position⟩
  primary := r.primary
  primaryCt := .start s.now
  secondary := r.secondary.map fun m => (m, .start s.now)
  figures := startFigures s.cfg.scale s.cfg.thresholds.margin price s.now a.limit
  hangSeen := false
  zeroVerified := false
  closureAfter := none
  zeroTime := s.cfg.timers.zero

/-- The STARTING entry (R46); the reader's last FIGURES time becomes none (R129). -/
def enterStarting (sd : Side) (a : Auth) (h : Hose) (r : HoseRec) (price : Nat) (s : State) : State :=
  let s1 := s.withSideState sd (.sale (.starting (s.now + s.cfg.timers.zero)) (startContext s sd a h r price))
  handPanel sd (s1.withReader sd { s1.reader sd with lastFigures := none })

/-- Test the start condition of a side in AUTHORIZED: start, or renew the start-blocked reason (R44, R45). -/
def testStart (sd : Side) (s : State) : State :=
  match s.sideState sd with
  | .authorized a =>
    match startTest s sd a with
    | .start h r price => enterStarting sd a h r price s
    | .wait b => s.withSideState sd (.authorized { a with blocked := b })
  | _ => s

/-- The start-blocked reason of a side in AUTHORIZED is renewed without a start (R45, R64, R65). -/
def renewBlocked (sd : Side) (s : State) : State :=
  match s.sideState sd with
  | .authorized a =>
    match startTest s sd a with
    | .start _ _ _ => s.withSideState sd (.authorized { a with blocked := .none })
    | .wait b => s.withSideState sd (.authorized { a with blocked := b })
  | _ => s

/-! ## Stopping -/

/-- The settle timer runs from the entry to STOPPED when the hang was seen (R58). -/
def settleAtEntry (s : State) (ctx : Sale) : Option Nat :=
  if ctx.hangSeen then some (s.now + s.cfg.timers.settle) else none

/-- The entry to STOPPED (R48, R53); a side already in STOPPED keeps what it holds. -/
def stopSale (sd : Side) (reason : EndReason) (fault : Option Meter) (s : State) : State :=
  match s.sideState sd with
  | .sale (.stopped _) _ => s
  | .sale _ ctx =>
      s.withSideState sd (.sale (.stopped ⟨reason, fault, ctx.figures.volume, settleAtEntry s ctx⟩) ctx)
  | _ => s

/-- The closed reason of a latched fault (R53). -/
def EndReason.latched : EndReason → Option ClosedReason
  | .meterFault => some .meterFault
  | .reverseFlow => some .reverseFlow
  | .strayFlow => some .strayFlow
  | .displayFault => some .displayFault
  | _ => none

/-- The closure after completion, set when none is set (R57, R61). -/
def Sale.closing (ctx : Sale) (reason : ClosedReason) : Sale :=
  match ctx.closureAfter with
  | none => { ctx with closureAfter := some reason }
  | some _ => ctx

/-- A fault that reaches a side in STOPPED sets its closure after completion, unless the end reason is a
latched fault or a closure is set (R54, R56). -/
def faultInStopped (e : Ended) (ctx : Sale) (reason : ClosedReason) : Sale :=
  match e.reason.latched with
  | none => ctx.closing reason
  | some _ => ctx

/-! ## Completion -/

/-- The next state of a completed sale (R59 step 5). -/
def afterCompletion (sd : Side) (e : Ended) (ctx : Sale) (s : State) : State :=
  match e.reason.latched with
  | some r => enterClosed sd r s
  | none =>
    match ctx.closureAfter with
    | some r => enterClosed sd r s
    | none => handPanel sd (enterOpen sd s)

/-- V and A are both 0 (R31). -/
def Figures.zeroDelivery (f : Figures) : Bool := f.volume == 0 && f.amount == 0

/-- The record, or the zero delivery, and the last ended sale (R59 step 2). -/
def recordSale (sd : Side) (e : Ended) (ctx : Sale) (s : State) : State :=
  if ctx.figures.zeroDelivery then
    s.withSide sd { s.side sd with lastSale := ctx.saleId, lastOutcome := .noDelivery }
  else
    let s1 := stackRecord sd ctx (buildRecord s sd e ctx) s
    s1.withSide sd { s1.side sd with lastSale := ctx.saleId, lastOutcome := .stacked }

/-- Completion of a sale in STOPPED (R59). -/
def completeSale (sd : Side) (s : State) : State :=
  match s.sideState sd with
  | .sale (.stopped e) ctx =>
      afterCompletion sd e ctx (raise (.done sd) (resetStrays sd (recordSale sd e ctx s)))
  | _ => s

/-! ## What a side does with a test result, a report, a loss -/

/-- A test result delivered by a renewal (R47 to R51). -/
def actOnResult (sd : Side) (result : TestResult) (s : State) : State :=
  match result with
  | .clear => s
  | .slow =>
    match s.sideState sd with
    | .sale (.fuelling t) ctx => s.withSideState sd (.sale (.slowing t) ctx)
    | _ => s
  | .limit => stopSale sd .limitReached none s
  | .saturated => stopSale sd .saturated none s

/-- Fault reports of an engaged meter (Table 1.2). -/
inductive MeterReport where
  | reverseFlow | meterFault | highFlow
  deriving DecidableEq, Repr

def MeterReport.endReason : MeterReport → EndReason
  | .reverseFlow => .reverseFlow
  | .meterFault => .meterFault
  | .highFlow => .highFlow

/-- A report of an engaged meter reaches its side (R54). -/
def takeReport (sd : Side) (kind : MeterReport) (m : Meter) (s : State) : State :=
  match s.sideState sd with
  | .sale (.stopped e) ctx =>
    match kind.endReason.latched with
    | some r => s.withSideState sd (.sale (.stopped e) (faultInStopped e ctx r))
    | none => s
  | _ => stopSale sd kind.endReason (some m) s

/-- A STRAY_FLOW report reaches the owning side (R13, R54). -/
def takeStray (sd : Side) (m : Meter) (s : State) : State :=
  match s.sideState sd with
  | .closed _ => s
  | .idle => enterClosed sd .strayFlow s
  | .calling => enterClosed sd .strayFlow s
  | .authorized _ => enterClosed sd .strayFlow s
  | .sale (.stopped e) ctx => s.withSideState sd (.sale (.stopped e) (faultInStopped e ctx .strayFlow))
  | .sale _ _ => stopSale sd .strayFlow (some m) s

/-- A module of the side is LOST (R56). -/
def takeLoss (sd : Side) (s : State) : State :=
  match s.sideState sd with
  | .closed _ => s
  | .idle => enterClosed sd .displayFault s
  | .calling => enterClosed sd .displayFault s
  | .authorized _ => enterClosed sd .displayFault s
  | .sale (.stopped e) ctx => s.withSideState sd (.sale (.stopped e) (faultInStopped e ctx .displayFault))
  | .sale _ _ => stopSale sd .displayFault none s

/-- The third consecutive METROLOGY failure reaches a side (R57). -/
def takeStoreFailure (sd : Side) (s : State) : State :=
  match s.sideState sd with
  | .closed _ => s
  | .idle => enterClosed sd .nvFault s
  | .calling => enterClosed sd .nvFault s
  | .authorized _ => enterClosed sd .nvFault s
  | .sale p ctx => s.withSideState sd (.sale p (ctx.closing .nvFault))

/-- STOP for one side (R43). -/
def stopSide (sd : Side) (s : State) : State :=
  match s.sideState sd with
  | .authorized _ => enterOpen sd s
  | .sale _ _ => stopSale sd .siteStop none s
  | _ => s

/-- CLOSE_SIDE for one side (R61). -/
def closeSide (sd : Side) (s : State) : State :=
  match s.sideState sd with
  | .closed _ => clearSideOpen sd s
  | .idle => enterClosed sd .management s
  | .calling => enterClosed sd .management s
  | .authorized _ => enterClosed sd .management s
  | .sale p ctx =>
      clearSideOpen sd (stopSale sd .siteStop none (s.withSideState sd (.sale p (ctx.closing .management))))

/-- A sale is completed at once on a power warning (R65). -/
def powerFailSide (sd : Side) (s : State) : State :=
  completeSale sd (stopSale sd .powerFail none s)

end Sys2Proof.Machine
end

