-- ==== Sys2Proof/Machine/Bus.lean ====
section
/-! DEFINITION. The local bus (chapter 06): the content of each display module, the slots of the round, the
answer taken in a slot, module states. -/

namespace Sys2Proof

/-- The side whose module it is (R106). -/
def DisplayModule.side : DisplayModule → Side
  | .sale sd => sd
  | .panel sd => sd

end Sys2Proof

namespace Sys2Proof.Machine

open Sys2Proof

/-! ## Content of a sale display (R108 to R112, R115) -/

/-- The indicator byte (R202). -/
def indicators (level2 previous test closed : Bool) : Byte :=
  BitVec.ofNat 8 (flagNum level2 + 2 * flagNum previous + 4 * flagNum test + 8 * flagNum closed)

/-- The 18 content bytes of a sale display (R202). -/
def saleContent (amount volume price : List Byte) (ind : Byte) : List Byte :=
  amount ++ volume ++ price ++ [ind]

def saleTest : List Byte := saleContent (fullField 6) (fullField 6) (fullField 5) (indicators true true true true)

def saleBlank : List Byte :=
  saleContent (blankField 6) (blankField 6) (blankField 5) (indicators false false false false)

/-- Figures with their price in a scale (R107, R109). -/
def saleFigures (sc : Scale) (amount volume price : Nat) (level : Level) (previous : Bool) : List Byte :=
  saleContent (figureField 6 sc.da amount) (figureField 6 sc.dv volume) (figureField 5 sc.dp price)
    (indicators (level == .l2) previous false false)

/-- The closed content (R112). -/
def saleClosed (r : ClosedReason) : List Byte :=
  saleContent (dashField 6) (figureField 6 0 r.num) (blankField 5) (indicators false false false true)

/-- The zero content of an idle display (R111): price blank, no indicator. -/
def saleZeroIdle (sc : Scale) : List Byte :=
  saleContent (figureField 6 sc.da 0) (figureField 6 sc.dv 0) (blankField 5) (indicators false false false false)

/-- The previous sale of a side (R111). -/
def salePrevious (s : State) (sd : Side) : List Byte :=
  match newestRecord s.sru.journal sd with
  | some r =>
    if r.scale = s.cfg.scale then saleFigures r.scale r.amount r.volume r.price r.level true
    else saleZeroIdle s.cfg.scale
  | none => saleZeroIdle s.cfg.scale

/-- The first half of the zero time (R109, R110). -/
def firstHalf (s : State) (ctx : Sale) : Bool := decide (2 * (s.now - ctx.figures.start) < ctx.zeroTime)

/-- The content of a sale display in RUN (R109). -/
def saleRunContent (s : State) (sd : Side) : List Byte :=
  match s.sideState sd with
  | .closed r => saleClosed r
  | .idle => salePrevious s sd
  | .calling => salePrevious s sd
  | .authorized _ => salePrevious s sd
  | .sale (.starting _) ctx =>
      if firstHalf s ctx then saleTest
      else saleFigures ctx.figures.scale 0 0 ctx.latch.price ctx.latch.level false
  | .sale _ ctx =>
      saleFigures ctx.figures.scale ctx.figures.amount ctx.figures.volume ctx.latch.price ctx.latch.level false

/-- The slot's frame carries the zero content of a sale (R110). -/
def zeroContentDue (s : State) (sd : Side) : Bool :=
  match s.psq.mode, s.sideState sd with
  | .run, .sale (.starting _) ctx => !firstHalf s ctx
  | _, _ => false

/-! ## Content of a price panel (R113, R115) -/

def panelGroupField (sc : Scale) : Option Nat → List Byte
  | none => dashField 5
  | some v => figureField 5 sc.dp v

def panelBytes (sc : Scale) (c : PanelContent) : List Byte :=
  panelGroupField sc c.p1 ++ panelGroupField sc c.p2 ++ panelGroupField sc c.p3 ++ panelGroupField sc c.p4

/-- The content of a display module at the start of its slot (R102, R109, R113, R115). -/
def displayContent (s : State) (m : DisplayModule) : List Byte :=
  match s.psq.mode, m with
  | .poweringUp (.displays true), .sale _ => saleTest
  | .poweringUp (.displays true), .panel _ => fullField 20
  | .poweringUp _, .sale _ => saleBlank
  | .poweringUp _, .panel _ => blankField 20
  | _, .sale sd => saleRunContent s sd
  | _, .panel sd => panelBytes s.cfg.scale (s.lbc.panels.get sd)

/-! ## Slots of the round (R101, R102, R128) -/

def commandContent : Byte := 0x10#8
def echoCode : Byte := 0x90#8

/-- The zero content of a sale goes to its sale display only. -/
def zeroSlot (s : State) : DisplayModule → Bool
  | .sale sd => zeroContentDue s sd
  | .panel _ => false

/-- A display module's slot begins (R102). -/
def beginDisplaySlot (m : DisplayModule) (s : State) : State :=
  let content := displayContent s m
  s.withLbc { s.lbc with
    slot := some
      { slotId := .display m
        frame := localFrame (SlotId.display m).address (commandContent :: content)
        payload := commandContent :: content
        check := crc16 content
        zero := zeroSlot s m
        sent := false
        take := true
        answerBy := none
        limit := s.now + Config.displaySlotLimit } }

/-- The slot of a reader that is sent a frame, built around the payload (R127). -/
def readerSlot (sd : Side) (payload : List Byte) (s : State) : State :=
  s.withLbc { s.lbc with
    slot := some
      { slotId := .reader sd
        frame := localFrame (SlotId.reader sd).address payload
        payload := payload
        check := 0
        zero := false
        sent := false
        take := true
        answerBy := none
        limit := s.now + Config.readerSlotLimit } }

/-- A reader's slot begins: the state with its frame, or none when it is skipped (R127 to R129). -/
def beginReaderSlot? (sd : Side) (s : State) : Option State :=
  match slotChoice s sd with
  | .skip => none
  | .down payload rest => some (readerSlot sd payload (s.withReader sd { s.reader sd with down := rest }))
  | .figures =>
      some (readerSlot sd (figuresPayload s sd) (s.withReader sd { s.reader sd with lastFigures := some s.now }))
  | .poll => some (readerSlot sd [codePoll] s)

/-- Reader B's slot, and the next round where it is skipped (R101). -/
def beginSlotB (s : State) : State := (beginReaderSlot? .b s).getD (beginDisplaySlot (.sale .a) s)

/-- A slot begins; a skipped reader slot ends as soon as it begins (R101). -/
def beginSlot (i : SlotId) (s : State) : State :=
  match i with
  | .display m => beginDisplaySlot m s
  | .reader .a => (beginReaderSlot? .a s).getD (beginSlotB s)
  | .reader .b => beginSlotB s

/-- The fixed order of a round (R101). -/
def SlotId.next : SlotId → SlotId
  | .display (.sale .a) => .display (.sale .b)
  | .display (.sale .b) => .display (.panel .a)
  | .display (.panel .a) => .display (.panel .b)
  | .display (.panel .b) => .reader .a
  | .reader .a => .reader .b
  | .reader .b => .display (.sale .a)

/-- The slot ends and the next one begins (R101). -/
def endSlot (s : State) : State :=
  match s.lbc.slot with
  | some sl => beginSlot sl.slotId.next s
  | none => s

/-- The rounds begin (R115). -/
def startRounds (s : State) : State := beginSlot (.display (.sale .a)) s

def ModuleRec.stopped (m : ModuleRec) : ModuleRec := { m with loss := none }

def PerDisplay.mapAll {α : Type} (f : α → α) (t : PerDisplay α) : PerDisplay α :=
  ⟨⟨f t.sale.a, f t.sale.b⟩, ⟨f t.panel.a, f t.panel.b⟩⟩

/-- The display supply demand goes off: the rounds and the loss timers stop, the modules keep their states
(R101, R104, R116). -/
def stopDisplays (s : State) : State :=
  (s.withLbc { s.lbc with modules := s.lbc.modules.mapAll ModuleRec.stopped, slot := none }).withPsq
    { s.psq with displayDemand := false }

/-! ## Answers (R100, R103, R104, R130) -/

/-- A well-formed answer of the addressed module, as taken (R100). -/
def judgeAnswer (i : SlotId) : LocalAnswer → Answer
  | .lineError => .bad
  | .frame address payload check =>
    if payload.length ≤ 100 ∧ check = crc16 (localBody address payload) ∧ address = (i.address ||| 0x80#8)
    then .good payload else .bad

def State.displayModule (s : State) (m : DisplayModule) : ModuleRec := s.lbc.modules.get m

def State.withDisplayModule (s : State) (m : DisplayModule) (r : ModuleRec) : State :=
  s.withLbc { s.lbc with modules := s.lbc.modules.set m r }

/-- A sale in STARTING takes the report of its zero content (R46, R110). Where the sale whose content the
frame carried has completed within the slot and the side's next sale stands in STARTING, R46 and R110 do not
say which sale the echo proves; the mark goes to the sale that is in STARTING when the echo is judged: a
DESIGN CHOICE (log 40). Unsafe. -/
def markZeroVerified (sd : Side) (s : State) : State :=
  match s.sideState sd with
  | .sale (.starting t) ctx => s.withSideState sd (.sale (.starting t) { ctx with zeroVerified := true })
  | _ => s

/-- The echo proves the content just sent (R103). -/
def goodEcho (sl : Slot) (ans : Answer) : Bool := ans == .good (echoCode :: crcBytes sl.check)

/-- A display module's answer (R103, R104, R110). -/
def takeEcho (m : DisplayModule) (sl : Slot) (ans : Answer) (s : State) : State :=
  if goodEcho sl ans then
    let s1 := s.withDisplayModule m ⟨true, some (s.now + s.cfg.timers.loss)⟩
    if sl.zero then markZeroVerified m.side s1 else s1
  else s

/-- The answer of the slot in progress is taken by the slot's owner (R100). -/
def takeAnswer (sl : Slot) (ans : Answer) (s : State) : State :=
  match sl.slotId with
  | .display m => takeEcho m sl ans s
  | .reader sd => takeReaderAnswer sd ans s

/-- No further answer is taken in the slot in progress. -/
def answerTaken (s : State) : State :=
  match s.lbc.slot with
  | some sl => s.withLbc { s.lbc with slot := some { sl with take := false } }
  | none => s

end Sys2Proof.Machine
end

