-- ==== Sys2Proof/Machine/Prices.lean ====
section
/-! DEFINITION. The shared operations of the Price Table Unit (chapter 04): the generation step, a change of
the active table with its reach (R68, R79, R82), and the removal of the staged table. -/

namespace Sys2Proof.Machine

open Sys2Proof

/-- The generation advances by one step; it does not come back to 0 (R68). -/
def generationStep (n : Nat) : Nat := if 65535 ≤ n then 1 else n + 1

def State.withPtu (s : State) (p : Prices) : State := { s with ptu := p }

/-- What a change of the active table reaches: the start condition of each side in AUTHORIZED, and the panel
content of both sides (R44, R79, R82). -/
def reachSides (s : State) : State := handPanels (testStart .b (testStart .a s))

/-- The sixteen entries become the active ones. Where none takes a different value nothing changes;
otherwise the generation advances, PRICE_APPLIED is raised, a PRICES write is queued, and the change reaches
the sides (R68, R79). -/
def setActive (t : PriceTable) (s : State) : State :=
  if t = s.ptu.active then s
  else
    reachSides (requestWrite .prices (raise .priceApplied
      (s.withPtu { s.ptu with active := t, generation := generationStep s.ptu.generation })))

/-- The staged table is removed and the pending flag cleared, with a PRICES write (R69, R72, R84). -/
def removeStaged (s : State) : State :=
  requestWrite .prices (s.withPtu { s.ptu with staged := none, pending := false })

/-- The staged table becomes active, as a commit with NOW makes it (R72). -/
def commitStaged (t : PriceTable) (s : State) : State := setActive t (removeStaged s)

/-- The APPLY stage (R84). -/
def applyScheduled (s : State) : State :=
  match s.ptu.staged with
  | some t => if s.ptu.pending then commitStaged t s else s
  | none => s

end Sys2Proof.Machine
end

