-- ==== Sys2Proof/Machine/Power.lean ====
section
/-! DEFINITION. The Power Sequencer with the retained store (chapters 10 and 11): the start of a sequence, the
reads of LOAD, the stages up to READY, aborts, the power warning, drains, night entry, and the end of a
write. Every command ends with `finish`: a write begins when it may, and a drain that has ended is acted on. -/

namespace Sys2Proof.Machine

open Sys2Proof

/-! ## Reading at power-up: where it begins (R179, R181) -/

/-- Time of one read attempt in ms (R179). -/
def readTime : Block → Nat
  | .config => 3
  | .prices => 1
  | .m0 => 4
  | .m1 => 4

/-- The first read of LOAD begins: the queue is emptied, the failure counts are 0 (R181). -/
def beginReading (fresh : Bool) (s : State) : State :=
  s.withNvs { s.nvs with
    queue := []
    fail := ⟨0, 0, 0⟩
    load := .reading fresh .config 1 false (s.now + readTime .config) }

/-- LOAD begins; a write in progress runs to its end first (R181; log 23). -/
def beginLoad (fresh : Bool) (s : State) : State :=
  match s.nvs.job with
  | none => beginReading fresh s
  | some _ => s.withNvs { s.nvs with load := .waitWrite fresh }

/-! ## The start of a sequence (R191) -/

/-- No reply is left in waiting (R158), and no part 2 of READ_TOTALS to come (R201). A reply that is being
sent goes on to its end, which puts the receiver in HUNT; the spec gives no order between that end and a
sequence or a NIGHT that begins in the middle of the reply: a DESIGN CHOICE (log 19). Unsafe. -/
def Transmit.dropped : Transmit → Transmit
  | .idle => .idle
  | .waiting _ _ => .idle
  | .sending r _ => .sending r none
  | .gap _ => .idle

/-- The receiver is off while a reply is being sent (R143). -/
def Transmit.isSending : Transmit → Bool
  | .sending _ _ => true
  | _ => false

/-- The SLI at the start of a sequence (R144, R155, R158). -/
def Sli.atStart (fresh : Bool) (l : Sli) : Sli :=
  { l with
    rx := .waitQuiet
    tx := l.tx.dropped
    quietAfter := l.quietAfter && l.tx.isSending
    errors := 0
    overflow := false
    frameErrors := if fresh then 0 else l.frameErrors
    modeRejects := if fresh then 0 else l.modeRejects }

/-- A reader at the start of a sequence (R140, R141). -/
def ReaderRec.atStart (fresh : Bool) (r : ReaderRec) : ReaderRec :=
  { r with
    err := 0
    lastFigures := none
    violations := if fresh then 0 else r.violations
    drops := if fresh then 0 else r.drops
    flushed := if fresh then 0 else r.flushed }

/-- A channel at the start of a sequence (R14, R18, R170): as after a cold power-on where the sequence is a cold
power-on's or RESTART's, else as it stands; LOAD sets the rest (`Channel.loaded`). -/
def Channel.atStart (fresh : Bool) (c : Channel) : Channel := if fresh then .cold else c

/-- A side at the start of a sequence: CLOSED, no closure recorded, its side-open flag untouched (R66,
R193). Its lifted list, where it is to be built from the switches under the loaded hose map, is empty until
CONFIG has been read: R66 and R170 do not say what it holds until then, a DESIGN CHOICE (log 24). Unsafe. -/
def SideRec.atStart (fresh : Bool) (r : SideRec) : SideRec :=
  { r with
    state := .closed .management
    lifted := if fresh then [] else r.lifted
    lastSale := if fresh then 0 else r.lastSale
    lastOutcome := if fresh then .none else r.lastOutcome }

/-- The sequencer at the start of a sequence (R189, R191, R197). -/
def Psq.atStart (cause : WakeCause) (fresh : Bool) (p : Psq) : Psq where
  mode := .poweringUp .load
  cause := cause
  restarts := if fresh then 0 else p.restarts
  night := none
  restart := .none
  wakeTimer := if fresh then none else p.wakeTimer
  confirmTimer := none
  overflowMark := false
  displayDemand := false
  stageTimer := none
  found := ⟨⟨false, false, false⟩, ⟨false, false, false⟩⟩

/-- A power-up sequence begins (R191). `fresh` holds for one begun by the restart drain: it clears what a
cold power-on clears and does not reload (R170). -/
def beginSequence (cause : WakeCause) (fresh : Bool) (s : State) : State :=
  beginLoad fresh (handPanels
    { s with
      mci := s.mci.mapAll fun _ => Channel.atStart fresh
      sides := ⟨s.sides.a.atStart fresh, s.sides.b.atStart fresh⟩
      lbc := { s.lbc with modules := ⟨⟨.lost, .lost⟩, ⟨.lost, .lost⟩⟩, slot := none }
      riu := ⟨s.riu.a.atStart fresh, s.riu.b.atStart fresh⟩
      sli := s.sli.atStart fresh
      psq := s.psq.atStart cause fresh })

/-- A wake from NIGHT (R188). -/
def wake (cause : WakeCause) (s : State) : State := beginSequence cause false s

/-- A cold power-on: RAM is lost, the lines and the blocks of the store stay (R182, R191; log 6). -/
def coldStart (s : State) : State :=
  { State.reset with
    pending := s.pending
    freeCount := s.freeCount
    now := s.now
    lines := s.lines
    nvs := { Nvs.blank with
      config := s.nvs.config
      prices := s.nvs.prices
      slot0 := s.nvs.slot0
      slot1 := s.nvs.slot1
      load := .reading true .config 1 false (s.now + readTime .config) } }

/-- A write cut short by the supply leaves its block bad (R177; a METROLOGY slot R172, R179; log 11). -/
def cutBlock (c : WriteContent) (n : Nvs) : Nvs :=
  match c with
  | .config _ => { n with config := none }
  | .prices _ => { n with prices := none }
  | .metrology .m0 _ => { n with slot0 := none }
  | .metrology .m1 _ => { n with slot1 := none }

/-- A write whose read-back differs: a METROLOGY slot is left bad (R172, R179); a CONFIG or PRICES block still
holds what was last verified, for such a failure has no further effect (R84, R175, R195; log 11). -/
def failBlock (c : WriteContent) (n : Nvs) : Nvs :=
  match c with
  | .config _ => n
  | .prices _ => n
  | .metrology .m0 _ => { n with slot0 := none }
  | .metrology .m1 _ => { n with slot1 := none }

/-- What the loss of the supply leaves in the store (R174, R177). -/
def Nvs.cut (n : Nvs) : Nvs :=
  match n.job with
  | none => n
  | some j => { cutBlock j.content n with job := none }

/-- The supply is lost (R174, R177). -/
def loseSupply (s : State) : State := { s with powered := false, nvs := s.nvs.cut }

/-! ## Stages after LOAD (R84, R192, R193) -/

/-- The first closure recorded, in the order CONFIG, METROLOGY, display probe (R66). -/
def Found.reason (f : Found) : Option ClosedReason :=
  if f.config ∨ f.metrology then some .nvFault
  else if f.display then some .displayFault
  else none

/-- The closed reason shown until READY (R193). -/
def showFound (sd : Side) (s : State) : State :=
  s.withSideState sd (.closed (((s.psq.found.get sd).reason).getD .management))

def showFoundBoth (s : State) : State := showFound .b (showFound .a s)

def withStage (st : Stage) (timer : Option Nat) (s : State) : State :=
  s.withPsq { s.psq with mode := .poweringUp st, stageTimer := timer }

/-- SUPPLIES begins (R192). -/
def enterSupplies (s : State) : State :=
  let s1 := withStage (.supplies .a) (some (s.now + Config.supplyStep)) s
  s1.withPsq { s1.psq with displayDemand := true }

/-- APPLY, and SUPPLIES when the warning line is released; otherwise the sequence waits in APPLY (R192). -/
def enterApply (s : State) : State :=
  let s1 := applyScheduled s
  if s1.lines.warning then withStage .apply none s1 else enterSupplies s1

/-- The step of a reader in SUPPLIES (R140). -/
def supplyReader (sd : Side) (s : State) : State :=
  if s.lines.tamper.get sd then enterTampered sd s
  else s.withReader sd { s.reader sd with state := .probing, probe := none }

/-- A step of SUPPLIES; the second one begins DISPLAYS with its rounds (R115, R192). -/
def supplyStep (s : State) : State :=
  match s.psq.mode, s.psq.stageTimer with
  | .poweringUp (.supplies .a), some d =>
      let s1 := supplyReader .a (s.expireAt d)
      withStage (.supplies .b) (some (s1.now + Config.supplyStep)) s1
  | .poweringUp (.supplies .b), some d =>
      let s1 := supplyReader .b (s.expireAt d)
      startRounds (withStage (.displays true) (some (s1.now + Config.displayTest)) s1)
  | _, _ => s

/-- The test content gives way to the blank content (R115). -/
def displayTestEnd (s : State) : State :=
  match s.psq.mode, s.psq.stageTimer with
  | .poweringUp (.displays true), some d =>
      let s1 := s.expireAt d
      withStage (.displays false) (some (s1.now + Config.displayBlank)) s1
  | _, _ => s

/-- A module of the side is LOST. -/
def State.sideLost (s : State) (sd : Side) : Bool :=
  !(s.lbc.modules.sale.get sd).present || !(s.lbc.modules.panel.get sd).present

/-- The result of the display probe is recorded for a side (R115, R192). -/
def recordDisplays (sd : Side) (s : State) : State :=
  s.withPsq { s.psq with
    found := s.psq.found.set sd { s.psq.found.get sd with display := s.sideLost sd } }

/-- The probe timer of a reader in PROBING starts (R140). -/
def startProbe (sd : Side) (s : State) : State :=
  if (s.reader sd).state = .probing then
    s.withReader sd { s.reader sd with probe := some (s.now + Config.probeTime) }
  else s

/-- A side at READY: open when its flag is set and no closure was found; a closure found by the display
probe clears the flag (R66; log 31). -/
def sideAtReady (sd : Side) (s : State) : State :=
  match (s.psq.found.get sd).reason with
  | some _ => clearSideOpen sd s
  | none => if s.cfg.sideOpen.get sd then handPanel sd (enterOpen sd s) else s

/-- A module that is LOST at READY is reported to its side (R115). -/
def reportLost (m : DisplayModule) (s : State) : State :=
  if (s.displayModule m).present then s else takeLoss m.side s

def reportLostAll (s : State) : State :=
  reportLost (.panel .b) (reportLost (.sale .b) (reportLost (.panel .a) (reportLost (.sale .a) s)))

/-- The event set at READY (R154, R193 step 2). -/
def eventsAtReady (s : State) : State :=
  match s.psq.cause with
  | .powerOn => raise .powerUpDone (s.withEvents (persisting s))
  | .restart => raise .powerUpDone (s.withEvents (persisting s))
  | .fallback => raise .wakeError (raise .powerUpDone s)
  | .filter => raise .powerUpDone s
  | .timer => raise .powerUpDone s
  | .nozzle => raise .powerUpDone s

/-- The timers at READY (R193 step 4). -/
def timersAtReady (s : State) : State :=
  match s.psq.cause with
  | .filter => s.withPsq { s.psq with confirmTimer := some (s.now + 1000 * s.cfg.timers.confirm) }
  | .fallback => s.withPsq { s.psq with confirmTimer := some (s.now + 1000 * s.cfg.timers.confirm) }
  | .nozzle => s.withPsq { s.psq with wakeTimer := none }
  | .powerOn => s
  | .restart => s
  | .timer => s

/-- READY (R193). -/
def ready (s : State) : State :=
  let s1 := eventsAtReady (s.withPsq { s.psq with restarts := 0 })
  let s2 := s1.withPsq { s1.psq with mode := .run, stageTimer := none }
  timersAtReady (reportLostAll (sideAtReady .b (sideAtReady .a s2)))

/-- READERS ends, with READY, in the event in which no reader is in PROBING (R193). -/
def readyCheck (s : State) : State :=
  if s.psq.mode = .poweringUp .readers ∧ (s.reader .a).state ≠ .probing ∧ (s.reader .b).state ≠ .probing
  then ready s else s

/-- The end of DISPLAYS (R115, R192, R193). -/
def displaysEnd (s : State) : State :=
  match s.psq.mode, s.psq.stageTimer with
  | .poweringUp (.displays false), some d =>
      let s1 := showFoundBoth (recordDisplays .b (recordDisplays .a (s.expireAt d)))
      readyCheck (startProbe .b (startProbe .a (withStage .readers none s1)))
  | _, _ => s

/-! ## LOAD (R179, R180) -/

/-- The hoses a side finds lifted, in hose-number order (R66). -/
def liftedFromSwitches (s : State) (sd : Side) : List Hose :=
  Hose.all.filter fun h => s.lines.nozzle.get h && hoseSide s.cfg.hoses h == some sd

/-- After a cold power-on or RESTART the lifted lists are built from the switches (R66; log 24). -/
def buildLifted (s : State) : State :=
  (s.withLifted .a (liftedFromSwitches s .a)).withLifted .b (liftedFromSwitches s .b)

/-- The error counters lie in 0..threshold under the thresholds that are loaded (R118, R144; log 33). -/
def boundCounters (s : State) : State :=
  let th := s.cfg.thresholds
  { s with
    sli := { s.sli with errors := min s.sli.errors th.site }
    riu := ⟨{ s.riu.a with err := min s.riu.a.err th.reader }, { s.riu.b with err := min s.riu.b.err th.reader }⟩ }

/-- The SLI's line settings follow the configuration; a change of speed sends the receiver to WAIT_QUIET
(R142, R143, R161, R162). A reply that is being sent ends at the old settings, and they change at its end; which
other moments bring the settings is a DESIGN CHOICE (log 37). Unsafe. -/
def syncLine (s : State) : State :=
  if s.sli.tx.isSending then s
  else s.withSli { s.sli with
    line := ⟨s.cfg.address, s.cfg.group, s.cfg.speed⟩
    rx := if s.cfg.speed = s.sli.line.speed then s.sli.rx else .waitQuiet }

/-- The reply to an accepted SET_LINE is over, sent, abandoned or dropped: the receiver enters WAIT_QUIET, also where the
speed is the one in use (R162). -/
def quietAfterReply (s : State) : State :=
  if s.sli.quietAfter && !s.sli.tx.isSending then s.withSli { s.sli with quietAfter := false, rx := .waitQuiet } else s

/-- The configuration goes to its owners (R179); the line settings as `syncLine` says (log 37). -/
def takeConfig (fresh : Bool) (c : Cfg) (s : State) : State :=
  let s1 := boundCounters (syncLine (s.withCfg c))
  if fresh then buildLifted s1 else s1

/-- CONFIG has been found good or bad (R179, R180). -/
def loadConfig (fresh : Bool) (found : Option Cfg) (s : State) : State :=
  match found with
  | some c => takeConfig fresh c s
  | none =>
    let s1 := requestWrite .config (raise .nvFault (takeConfig fresh .default s))
    showFoundBoth (s1.withPsq { s1.psq with
      found := ⟨{ s1.psq.found.a with config := true }, { s1.psq.found.b with config := true }⟩ })

/-- PRICES has been found good or bad (R83, R179, R180). -/
def loadPrices (found : Option Prices) (s : State) : State :=
  match found with
  | some p => handPanels (s.withPtu p)
  | none => handPanels (requestWrite .prices (raise .nvFault (s.withPtu .lost)))

/-- The newer of two slots (R172): none where neither is good. -/
def newerSlot : Option Stamped → Option Stamped → Option (SlotNo × Stamped)
  | none, none => none
  | some a, none => some (.m0, a)
  | none, some b => some (.m1, b)
  | some a, some b =>
    if a.stamp = b.stamp then some (.m0, a)
    else if a.stamp = nextSeq b.stamp then some (.m0, a)
    else if b.stamp = nextSeq a.stamp then some (.m1, b)
    else if b.stamp < a.stamp then some (.m0, a)
    else some (.m1, b)

/-- The SRU takes its state and rebuilds the stacks (R98). -/
def takeMetrology (m : Metrology) (s : State) : State :=
  { s with sru := m, stack := ⟨rebuiltStack m.journal .a, rebuiltStack m.journal .b⟩ }

/-- The METROLOGY slots have been read (R99, R172, R176, R179). -/
def loadMetrology (chosen : Option (SlotNo × Stamped)) (s : State) : State :=
  match chosen with
  | some (n, st) =>
    let s1 := takeMetrology st.content s
    s1.withNvs { s1.nvs with current := some (n, st.stamp), condition := .clear }
  | none =>
    let s1 := takeMetrology .lost s
    let s2 := s1.withNvs { s1.nvs with current := none, condition := .lost }
    let s3 := s2.withPsq { s2.psq with
      found := ⟨{ s2.psq.found.a with metrology := true }, { s2.psq.found.b with metrology := true }⟩ }
    showFoundBoth (clearSideOpen .b (clearSideOpen .a s3))

/-- The meter channels in LOAD: stray count 0, no decoder reference, cycle position 0 (R12, R18, R191). The spec
gives the stage, not the moment within it; the model does it when the last read is taken, so what is observed
and counted during the reads goes no further: a DESIGN CHOICE (log 39). Unsafe. -/
def Channel.loaded (c : Channel) : Channel := { c.strayReset with reference := none, cyclePos := 0 }

/-- The last read has been taken: the channels are set (log 39), LOAD ends and APPLY follows (R191). -/
def endLoad (s : State) : State :=
  enterApply { s with
    mci := s.mci.mapAll fun _ => Channel.loaded
    nvs := { s.nvs with load := .none } }

/-- A good slot's content, where it was found good. -/
def slotFound (found : Bool) (content : Option Stamped) : Option Stamped := if found then content else none

/-- A bad slot raises NV_FAULT (R179). -/
def raiseIf (bad : Bool) (e : Event) (s : State) : State := if bad then raise e s else s

/-- The block holds content whose check can match. -/
def blockHolds (n : Nvs) : Block → Bool
  | .config => n.config.isSome
  | .prices => n.prices.isSome
  | .m0 => n.slot0.isSome
  | .m1 => n.slot1.isSome

def readNext (fresh : Bool) (b : Block) (attempt : Nat) (good0 : Bool) (s : State) : State :=
  s.withNvs { s.nvs with load := .reading fresh b attempt good0 (s.now + readTime b) }

/-- A block has been found good or bad: its owners take it, and the next block is read (R179). -/
def blockRead (fresh good : Bool) (b : Block) (good0 : Bool) (s : State) : State :=
  match b with
  | .config => readNext fresh .prices 1 good0 (loadConfig fresh (if good then s.nvs.config else none) s)
  | .prices => readNext fresh .m0 1 good0 (loadPrices (if good then s.nvs.prices else none) s)
  | .m0 => readNext fresh .m1 1 good (raiseIf (!good) .nvFault s)
  | .m1 =>
      endLoad (loadMetrology (newerSlot (slotFound good0 s.nvs.slot0) (slotFound good s.nvs.slot1))
        (raiseIf (!good) .nvFault s))

/-- A read attempt ends (R179): good, one more attempt, or bad at the fourth. -/
def readAttempt (crcMatches : Bool) (s : State) : State :=
  match s.nvs.load with
  | .reading fresh b attempt good0 d =>
    let s1 := s.expireAt d
    if crcMatches && blockHolds s1.nvs b then blockRead fresh true b good0 s1
    else if attempt < 4 then readNext fresh b (attempt + 1) good0 s1
    else blockRead fresh false b good0 s1
  | _ => s

/-! ## Aborts and the power warning (R65, R177, R194, R196) -/

/-- An abort keeps no result of the display probe (R115). -/
def dropProbe (f : Found) : Found := { f with display := false }

/-- A warning in SUPPLIES, DISPLAYS or READERS (R194). -/
def abortSequence (s : State) : State :=
  let s1 := powerOffReaders (stopDisplays s)
  let s2 := showFoundBoth (s1.withPsq { s1.psq with
    restarts := s1.psq.restarts + 1
    found := ⟨dropProbe s1.psq.found.a, dropProbe s1.psq.found.b⟩ })
  if s2.psq.restarts < 3 then withStage .wait (some (s2.now + Config.waitTime)) s2
  else s2.withPsq { s2.psq with mode := .failsafe, stageTimer := none }

/-- The end of WAIT (R194). -/
def waitTimer (s : State) : State :=
  match s.psq.mode, s.psq.stageTimer with
  | .poweringUp .wait, some d => let s1 := s.expireAt d; beginSequence s1.psq.cause false s1
  | _, _ => s

/-- The sales of both sides are completed at once, in an order R65 does not fix (log 13). -/
def completeBoth (s : State) : State :=
  if Config.sideBFirst s.freeCount then powerFailSide .a (powerFailSide .b s.drawn)
  else powerFailSide .b (powerFailSide .a s.drawn)

/-- The sides take the power warning in RUN (R65). -/
def warnSides (s : State) : State :=
  let a := (s.sideState .a).sale?.isSome
  let b := (s.sideState .b).sale?.isSome
  let s1 := if a && b then completeBoth s else powerFailSide .b (powerFailSide .a s)
  renewBlocked .b (renewBlocked .a (raiseIf (a || b) .powerFailEnd s1))

/-- The power-warning line is asserted (R65, R177, R194, R195, R196). -/
def powerWarning (s : State) : State :=
  let s1 := s.withLines { s.lines with warning := true }
  let s2 := s1.withNvs { s1.nvs with queue := urgentQueue s1.nvs.queue }
  match s2.psq.mode with
  | .run => warnSides s2
  | .poweringUp (.supplies _) => abortSequence s2
  | .poweringUp (.displays _) => abortSequence s2
  | .poweringUp .readers => abortSequence s2
  | .poweringUp .load => s2
  | .poweringUp .apply => s2
  | .poweringUp .wait => s2
  | .night => s2
  | .failsafe => s2

/-- The power-warning line is released (R44, R65, R192). -/
def warningReleased (s : State) : State :=
  let s1 := s.withLines { s.lines with warning := false }
  match s1.psq.mode with
  | .run => testStart .b (testStart .a s1)
  | .poweringUp .apply => enterSupplies s1
  | _ => s1

/-! ## Night entry, restart drain, drains (R170, R178, R185) -/

/-- The wake timer at night entry (R185 step 5, R190). -/
def wakeTimerAtEntry (now : Nat) (kept : Option Nat) : Option Nat → Option Nat
  | none => kept
  | some d => if d = 0 then none else some (now + 60000 * d)

/-- Night entry is completed (R185). -/
def enterNight (r : NightRequest) (s : State) : State :=
  let s1 := stopDisplays (powerOffReaders s)
  let s2 := quietAfterReply
    (syncLine (s1.withSli { s1.sli with tx := s1.sli.tx.dropped, errors := 0, overflow := false }))
  s2.withPsq { s2.psq with
    mode := .night
    night := none
    confirmTimer := none
    overflowMark := false
    wakeTimer := wakeTimerAtEntry s2.now s2.psq.wakeTimer r.delay }

/-- A drain has ended, with every block written or with blocks unwritten (R170, R178, R185, R195). -/
def endDrain (s : State) : State :=
  if s.restartDraining then beginSequence .restart true s
  else match s.psq.night with
    | some r => if r.draining then enterNight r s else s
    | none => s

/-- No write is in progress and the queue is empty. -/
def storeIdle (s : State) : Bool := s.nvs.job.isNone && s.nvs.queue.isEmpty

/-- The end of every event: a write begins when it may, and a drain that has ended is acted on (R174,
R178). -/
def finish (s : State) : State :=
  let s1 := beginWrite s
  if storeIdle s1 then endDrain s1 else s1

/-- The restart drain begins (R170). -/
def beginRestartDrain (s : State) : State :=
  let s1 := stopDisplays (powerOffReaders s)
  s1.withPsq { s1.psq with restart := .draining }

/-- What waits for the end of a reply: line settings, the drain of an accepted ENTER_NIGHT, the drain of an
accepted RESTART (R142, R162, R170, R185). -/
def replyEnded (s : State) : State :=
  let s1 := quietAfterReply (syncLine s)
  let s2 := match s1.psq.night with
    | some r => s1.withPsq { s1.psq with night := some { r with draining := true } }
    | none => s1
  match s2.psq.restart with
  | .replying => beginRestartDrain s2
  | .none => s2
  | .draining => s2

/-- A character or request arrives before a reply in waiting has begun: the reply is abandoned (R149). -/
def abandonReply (s : State) : State :=
  match s.sli.tx with
  | .idle => s
  | .sending _ _ => s
  | .waiting _ _ => replyEnded (s.withSli { s.sli with tx := .idle })
  | .gap _ => replyEnded (s.withSli { s.sli with tx := .idle })

/-- The confirm timer expires (R190). -/
def confirmExpired (s : State) : State :=
  match s.psq.confirmTimer with
  | none => s
  | some d =>
    let s1 := raise .wakeError (s.expireAt d)
    s1.withPsq { s1.psq with confirmTimer := none, night := some ⟨none, true⟩ }

/-- The wake timer expires (R188, R189). -/
def wakeExpired (s : State) : State :=
  match s.psq.wakeTimer with
  | none => s
  | some d =>
    let s1 := s.expireAt d
    let s2 := s1.withPsq { s1.psq with wakeTimer := none }
    if s2.psq.mode = .night then wake .timer s2 else s2

/-- A side with nozzle wake on has a lifted hose (R188). -/
def nozzleWakeDue (s : State) (sd : Side) : Bool :=
  s.cfg.wake.nozzle.get sd && !(s.lifted sd).isEmpty

/-- The event that follows a night entry with a nozzle already out (R188). -/
def nightNozzleWake (s : State) : State :=
  if s.psq.mode = .night ∧ (nozzleWakeDue s .a || nozzleWakeDue s .b) = true then wake .nozzle s else s

/-! ## The end of a write (R174, R175, R176, R178) -/

def WriteContent.kind : WriteContent → Kind
  | .config _ => .config
  | .prices _ => .prices
  | .metrology _ _ => .metrology

def FailCounts.get (f : FailCounts) : Kind → Nat
  | .config => f.config
  | .prices => f.prices
  | .metrology => f.metrology

def FailCounts.set (f : FailCounts) (v : Nat) : Kind → FailCounts
  | .config => { f with config := v }
  | .prices => { f with prices := v }
  | .metrology => { f with metrology := v }

/-- A verified write (R174). -/
def writeVerified (c : WriteContent) (s : State) : State :=
  let fail := s.nvs.fail.set 0 c.kind
  match c with
  | .config v => s.withNvs { s.nvs with config := some v, fail := fail }
  | .prices v => s.withNvs { s.nvs with prices := some v, fail := fail }
  | .metrology .m0 v =>
      s.withNvs { s.nvs with slot0 := some v, fail := fail, current := some (.m0, v.stamp), condition := .clear }
  | .metrology .m1 v =>
      s.withNvs { s.nvs with slot1 := some v, fail := fail, current := some (.m1, v.stamp), condition := .clear }

/-- The third consecutive METROLOGY failure (R57, R175, R176): the condition stands with cause WRITE. Where it
stood with cause LOST already, R176 does not say whether that cause goes on; WRITE replaces it, and a later
CLEAR_EVENTS then requests no METROLOGY write, for one stands in the queue: a DESIGN CHOICE (log 42).
Unsafe. -/
def thirdFailure (s : State) : State :=
  let s1 := takeStoreFailure .b (takeStoreFailure .a s)
  s1.withNvs { s1.nvs with condition := .write }

/-- A failed write (R175); a drain ends at a count of 3 (R178). At the third METROLOGY failure the kind goes back to the
queue before the closures of R57 queue CONFIG; R57, R60 and R175 give these no order within the event: a DESIGN CHOICE
(log 44). Unsafe. Where the same failure ends a drain, the sides close before the entry to NIGHT or the sequence, so still
in RUN and with their closure events; R57, R60, R175, R178 and R185 give these no order either: a DESIGN CHOICE (log 45).
Unsafe. -/
def writeFailed (c : WriteContent) (s : State) : State :=
  let s1 := requestWrite c.kind (raise .nvFault (s.withNvs (failBlock c s.nvs)))
  let before := s1.nvs.fail.get c.kind
  let after := min (before + 1) 3
  let s2 := s1.withNvs { s1.nvs with fail := s1.nvs.fail.set after c.kind }
  let s3 := if c.kind = .metrology ∧ before = 2 then thirdFailure s2 else s2
  if after = 3 then endDrain s3 else s3

/-- LOAD, which waited for the write, begins its reads (R181). -/
def resumeLoad (s : State) : State :=
  match s.nvs.load with
  | .waitWrite fresh => beginReading fresh s
  | _ => s

/-- A write's time ends (R174, R175). -/
def writeComplete (readBackEqual : Bool) (s : State) : State :=
  match s.nvs.job with
  | none => s
  | some j =>
    let s1 := s.expireAt j.deadline
    let s2 := s1.withNvs { s1.nvs with job := none }
    resumeLoad (if readBackEqual then writeVerified j.content s2 else writeFailed j.content s2)

end Sys2Proof.Machine
end

