-- ==== Sys2Proof/Machine/Requests.lean ====
section
/-! DEFINITION. How a request is taken (chapters 08, 09, 11, 12): the results and replies, the mode
check, the wake confirm, and the admission of the Power Sequencer. -/

namespace Sys2Proof.Machine

open Sys2Proof

/-! ## Results (R200) -/

inductive Result where
  | ok | busy | state | badField | badLength | unknown | stale | stackFull | notFound | duplicateId
  | nothingStaged | readerActive | hold | tamperActive | noRoute | refused | readerUnavailable | accepted
  deriving DecidableEq, Repr

def Result.num : Result → Nat
  | .ok => 0x00
  | .busy => 0x01
  | .state => 0x02
  | .badField => 0x03
  | .badLength => 0x04
  | .unknown => 0x05
  | .stale => 0x06
  | .stackFull => 0x07
  | .notFound => 0x08
  | .duplicateId => 0x09
  | .nothingStaged => 0x0A
  | .readerActive => 0x0B
  | .hold => 0x0C
  | .tamperActive => 0x0D
  | .noRoute => 0x0E
  | .refused => 0x0F
  | .readerUnavailable => 0x10
  | .accepted => 0x11

/-- What an owner answers: the state it leaves, the result, the data of the reply, and the data of a second
frame (READ_TOTALS alone, R201). -/
structure Answered where
  st     : State
  result : Result
  data   : List Byte
  more   : Option (List Byte)
  deriving DecidableEq, Repr

/-- A refusal changes no state and carries no data (R159, R200). -/
def refuse (r : Result) (s : State) : Answered := ⟨s, r, [], none⟩

/-- Accepted with no data. -/
def okay (s : State) : Answered := ⟨s, .ok, [], none⟩

/-- Accepted with data, nothing changed. -/
def okData (s : State) (d : List Byte) : Answered := ⟨s, .ok, d, none⟩

/-- Refuse or go on, by a check. -/
def orRefuse {α : Type} (r : Result) (s : State) (v : Option α) (f : α → Answered) : Answered :=
  match v with
  | none => refuse r s
  | some x => f x

/-! ## Replies (R149, R200) -/

/-- A reply frame: unicast mode with the dispenser's address, direction 1 with the port. -/
def replyFrame (address port code : Nat) (r : Result) (data : List Byte) : List Byte :=
  siteFrame (BitVec.ofNat 8 address) (BitVec.ofNat 8 (0x80 + port))
    (BitVec.ofNat 8 (0x80 + code % 128) :: BitVec.ofNat 8 r.num :: data)

/-- A reply is put in waiting: for a unicast request, and not in NIGHT (R149, R157). -/
def sendReply (m : AddrMode) (frame : List Byte) (second : Option (List Byte)) (s : State) : State :=
  match m with
  | .unicast =>
    if s.psq.mode = .night then s else s.withSli { s.sli with tx := .waiting frame second }
  | .group => s
  | .broadcast => s

/-- The reply of an owner's answer; `address` is the address when the request was taken. -/
def replyTo (m : AddrMode) (k : ReqKind) (address : Nat) (a : Answered) : State :=
  sendReply m (replyFrame address k.port k.code a.result a.data)
    (a.more.map (replyFrame address k.port k.code a.result)) a.st

/-! ## Admission (R183) -/

inductive Admission where
  | serve
  | answer (r : Result)
  | silent
  deriving DecidableEq, Repr

/-- The POWERING_UP column of R183, which a restart drain follows as well. -/
def admitPoweringUp : ReqKind → Admission
  | .poll => .serve
  | .readIdent => .serve
  | .readCounters => .serve
  | _ => .answer .busy

/-- The FAILSAFE column of R183. -/
def admitFailsafe : ReqKind → Admission
  | .poll => .serve
  | .readIdent => .serve
  | .readCounters => .serve
  | .readConfig => .serve
  | .readRoute => .serve
  | .readTotals => .serve
  | .readJournal => .serve
  | .readLive => .serve
  | .readSale => .serve
  | .readPrices => .serve
  | .stop => .answer .ok
  | .restart => .serve
  | _ => .answer .state

/-- What the Power Sequencer does with a request (R183). -/
def admission (k : ReqKind) (s : State) : Admission :=
  if s.restartDraining then admitPoweringUp k
  else match s.psq.mode with
    | .run => .serve
    | .poweringUp _ => admitPoweringUp k
    | .night => .silent
    | .failsafe => admitFailsafe k

/-! ## Taking a request -/

/-- A request in a mode its kind does not allow, or a frame in the unused mode (R146, R147, R155). -/
def countModeReject (s : State) : State :=
  s.withSli { s.sli with modeRejects := wrap32 (s.sli.modeRejects + 1) }

/-- A valid unicast request in RUN confirms a wake whose confirm timer runs (R190). -/
def confirmWake (m : AddrMode) (s : State) : State :=
  if m = .unicast ∧ s.psq.mode = .run ∧ s.psq.confirmTimer ≠ none then
    s.withPsq { s.psq with confirmTimer := none, wakeTimer := none }
  else s

/-- A request that its owner serves. -/
def serveRequest (m : AddrMode) (k : ReqKind) (owner : State → Answered) (s : State) : State :=
  replyTo m k s.sli.line.address (owner s)

/-- A request whose mode is allowed and whose length is right (R183, R190). -/
def admitRequest (m : AddrMode) (k : ReqKind) (owner : State → Answered) (s : State) : State :=
  let s1 := confirmWake m s
  match admission k s1 with
  | .serve => serveRequest m k owner s1
  | .answer r => serveRequest m k (refuse r) s1
  | .silent => s1

/-- A request as the SLI hands it over: the mode check (R147) and what follows it. -/
def takeRequest (m : AddrMode) (k : ReqKind) (owner : State → Answered) (s : State) : State :=
  if k.allows m then admitRequest m k owner s else countModeReject s

/-! ## Commands and events -/

/-- A command that is an event of the part: nothing happens while the part has no supply (log 6). -/
def event (f : State → State) (s : State) : Host.Outcome State Fault Refusal :=
  .next (if s.powered then finish (f s) else s)

/-- A change of an input line: the line is followed in any case (log 6). -/
def lineEvent (lines : Lines → Lines) (f : State → State) (s : State) : Host.Outcome State Fault Refusal :=
  .next (if s.powered then finish (f s) else s.withLines (lines s.lines))

/-- A request arrives while no reply is being sent: a reply in waiting is abandoned first (R149; log 3). -/
def arriveRequest (m : AddrMode) (k : ReqKind) (owner : State → Answered) (s : State) : State :=
  match s.sli.tx with
  | .sending _ _ => s
  | .idle => takeRequest m k owner s
  | .waiting _ _ => takeRequest m k owner (finish (abandonReply s))
  | .gap _ => takeRequest m k owner (finish (abandonReply s))

/-- The command that is a request. -/
def request (m : AddrMode) (k : ReqKind) (owner : State → Answered) (s : State) :
    Host.Outcome State Fault Refusal :=
  event (arriveRequest m k owner) s

end Sys2Proof.Machine
end

