-- ==== Sys2Proof/Machine/Control.lean ====
section
/-! DEFINITION. The part-wide control requests POLL, CLEAR_EVENTS and ENTER_NIGHT (chapters 08, 10, 11). -/

namespace Sys2Proof.Machine

open Sys2Proof

/-! ## POLL and STATUS (R150, R201) -/

/-- The oldest lifted hose, or 0. -/
def oldestLifted : List Hose → Nat
  | [] => 0
  | h :: _ => h.num

/-- The current sale id of a side state, or 0 (R36). -/
def SideState.saleId : SideState → Nat
  | .authorized a => a.saleId
  | .sale _ ctx => ctx.saleId
  | _ => 0

/-- The start-blocked reason of a side state: NONE outside AUTHORIZED (R45). -/
def SideState.blocked : SideState → StartBlocked
  | .authorized a => a.blocked
  | _ => .none

/-- The closed reason as STATUS carries it: 0 outside CLOSED. -/
def SideState.closedNum : SideState → Nat
  | .closed r => r.num
  | _ => 0

/-- A side's fields in STATUS. -/
def statusSide (s : State) (sd : Side) : List Byte :=
  let r := s.side sd
  byte1 r.state.num ++ byte1 (oldestLifted r.lifted) ++ be 2 r.state.saleId ++
  byte1 (s.stack.get sd).length ++ byte1 r.state.blocked.num ++ byte1 r.state.closedNum ++
  be 2 r.lastSale ++ byte1 r.lastOutcome.num

/-- A reader's fields in STATUS. -/
def statusReader (s : State) (sd : Side) : List Byte :=
  byte1 (s.reader sd).state.num ++ byte1 (s.reader sd).up.length

/-- STATUS (R150, R201). -/
def statusBytes (s : State) : List Byte :=
  byte1 s.psq.mode.num ++ byte1 s.psq.cause.num ++ byte1 s.psq.restarts ++ be 2 s.sli.events.toNat ++
  statusSide s .a ++ statusSide s .b ++ statusReader s .a ++ statusReader s .b

def ownPoll (s : State) : Answered := okData s (statusBytes s)

/-- POLL (R150, R151). -/
def execPoll (m : AddrMode) (s : State) : Host.Outcome State Fault Refusal := request m .poll ownPoll s

/-! ## CLEAR_EVENTS (R153, R176) -/

/-- A mask that names NV_FAULT, while the condition stands with cause LOST, requests the METROLOGY write
(R176). -/
def acknowledge (mask : BitVec 16) (s : State) : State :=
  if mask.getLsbD Event.nvFault.number = true ∧ s.nvs.condition = .lost then requestWrite .metrology s else s

def ownClearEvents (mask : Nat) (s : State) : Answered :=
  let s1 := acknowledge (BitVec.ofNat 16 mask) (clearEvents (BitVec.ofNat 16 mask) s)
  okData s1 (be 2 s1.sli.events.toNat)

/-- CLEAR_EVENTS (R153, R176). -/
def execClearEvents (m : AddrMode) (mask : Nat) (s : State) : Host.Outcome State Fault Refusal :=
  request m .clearEvents (ownClearEvents mask) s

/-! ## ENTER_NIGHT (R184) -/

/-- IDLE or CLOSED. -/
def SideState.restful : SideState → Bool
  | .closed _ => true
  | .idle => true
  | _ => false

/-- An accepted ENTER_NIGHT: the delay, held at 1440, is the night request's; the confirm timer stops; the
drain is asked at once unless a reply is sent first (R184, R185). -/
def takeNight (m : AddrMode) (delay : Nat) (s : State) : State :=
  let draining := match s.psq.night with
    | some r => r.draining
    | none => false
  s.withPsq { s.psq with
    night := some ⟨some (min delay Config.wakeDelayMax), draining || decide (m ≠ .unicast)⟩
    confirmTimer := none }

def ownEnterNight (m : AddrMode) (delay : Nat) (s : State) : Answered :=
  if s.psq.night.isSome || ((s.sideState .a).restful && (s.sideState .b).restful)
  then okay (takeNight m delay s) else refuse .state s

/-- ENTER_NIGHT (R184, R185). -/
def execEnterNight (m : AddrMode) (delay : Nat) (s : State) : Host.Outcome State Fault Refusal :=
  request m .enterNight (ownEnterNight m delay) s

end Sys2Proof.Machine
end

