-- ==== Sys2Proof/Machine/LocalEvents.lean ====
section
/-! DEFINITION. The events of the local bus and of the readers (chapters 06 and 07): the part's frame sent,
answers, the slot limit, loss timers, probe and hold timers, tamper lines. -/

namespace Sys2Proof.Machine

open Sys2Proof

/-! ## Slots (R100, R101) -/

/-- The part's frame has been sent and the answer window begins (R100). -/
def frameSent (s : State) : State :=
  match s.lbc.slot with
  | some sl =>
    if sl.sent then s
    else s.withLbc { s.lbc with
      slot := some { sl with sent := true, answerBy := some (s.now + Config.answerWindow) } }
  | none => s

/-- LOCAL_FRAME_SENT (R100). -/
def execLocalFrameSent (s : State) : Host.Outcome State Fault Refusal := event frameSent s

/-- The answer of the slot is taken, if one is still to be taken; it may end READERS (R138, R193). -/
def judge (sl : Slot) (ans : Answer) (s : State) : State :=
  if sl.take then readyCheck (takeAnswer sl ans (answerTaken s)) else s

/-- A module's answer has ended: it is taken, and the slot ends (R100, R101). -/
def answerEnds (ans : LocalAnswer) (s : State) : State :=
  match s.lbc.slot with
  | some sl => if sl.sent then endSlot (judge sl (judgeAnswer sl.slotId ans) s) else s
  | none => s

/-- LOCAL_ANSWER (R100, R103, R130, R138). -/
def execLocalAnswer (ans : LocalAnswer) (s : State) : Host.Outcome State Fault Refusal :=
  event (answerEnds ans) s

/-- The answer window has passed with no start byte: no answer, and the slot ends (R100, R101). -/
def noAnswer (s : State) : State :=
  match s.lbc.slot with
  | some sl =>
    match sl.answerBy with
    | some d => endSlot (judge sl .none (s.expireAt d))
    | none => s
  | none => s

/-- LOCAL_NO_ANSWER (R100). -/
def execLocalNoAnswer (s : State) : Host.Outcome State Fault Refusal := event noAnswer s

/-- A pause inside an answer makes it a bad answer; the slot goes on to its end (R100; log 20). -/
def characterGap (s : State) : State :=
  match s.lbc.slot with
  | some sl => if sl.sent then judge sl .bad s else s
  | none => s

/-- LOCAL_CHARACTER_GAP (R100). -/
def execLocalCharacterGap (s : State) : Host.Outcome State Fault Refusal := event characterGap s

/-- The slot reaches its longest time: the answer is bad, and the slot ends (R101). -/
def slotExpires (s : State) : State :=
  match s.lbc.slot with
  | some sl => endSlot (judge sl .bad (s.expireAt sl.limit))
  | none => s

/-- SLOT_LIMIT (R101). -/
def execSlotLimit (s : State) : Host.Outcome State Fault Refusal := event slotExpires s

/-! ## Loss timers (R56, R104, R106) -/

/-- A loss is reported to the side in RUN and POWERING_UP (R106). -/
def reportLoss (sd : Side) (s : State) : State := if s.inRun || s.poweringUp then takeLoss sd s else s

/-- A loss timer expires (R104). -/
def lossExpires (m : DisplayModule) (s : State) : State :=
  match (s.displayModule m).present, (s.displayModule m).loss with
  | true, some d => reportLoss m.side ((s.expireAt d).withDisplayModule m .lost)
  | _, _ => s

/-- LOSS_TIMER (R104). -/
def execLossTimer (m : DisplayModule) (s : State) : Host.Outcome State Fault Refusal := event (lossExpires m) s

/-! ## Reader timers (R134, R138) -/

/-- The probe timer expires: ABSENT, which may end READERS (R138, R193). -/
def probeExpires (sd : Side) (s : State) : State :=
  match (s.reader sd).state, (s.reader sd).probe with
  | .probing, some d => readyCheck (enterOff sd .absent (s.expireAt d))
  | _, _ => s

/-- PROBE_TIMER (R138). -/
def execProbeTimer (sd : Side) (s : State) : Host.Outcome State Fault Refusal := event (probeExpires sd) s

/-- The hold timer expires: the reader stays QUARANTINED (R134). -/
def holdExpires (sd : Side) (s : State) : State :=
  match (s.reader sd).hold with
  | .running d =>
    let s1 := s.expireAt d
    s1.withReader sd { s1.reader sd with hold := .expired }
  | _ => s

/-- HOLD_TIMER (R134). -/
def execHoldTimer (sd : Side) (s : State) : Host.Outcome State Fault Refusal := event (holdExpires sd) s

/-! ## Tamper lines (R135) -/

def setTamper (sd : Side) (v : Bool) (l : Lines) : Lines := { l with tamper := l.tamper.set sd v }

/-- The line is taken as active; one that is active already does not change (log 5). -/
def tamperActive (sd : Side) (s : State) : State :=
  if s.lines.tamper.get sd then s
  else readyCheck (enterTampered sd (s.withLines (setTamper sd true s.lines)))

/-- TAMPER_ACTIVE (R135). -/
def execTamperActive (sd : Side) (s : State) : Host.Outcome State Fault Refusal :=
  lineEvent (setTamper sd true) (tamperActive sd) s

/-- The line is taken as inactive: the reader's state does not change (R135). -/
def tamperInactive (sd : Side) (s : State) : State := s.withLines (setTamper sd false s.lines)

/-- TAMPER_INACTIVE (R135). -/
def execTamperInactive (sd : Side) (s : State) : Host.Outcome State Fault Refusal :=
  lineEvent (setTamper sd false) (tamperInactive sd) s

end Sys2Proof.Machine
end

