-- ==== Sys2Proof/Machine/SaleRequests.lean ====
section
/-! DEFINITION. The sale requests of port 0 (chapters 02, 03, 05): AUTHORIZE, SUSPEND, RESUME, STOP,
CLEAR_SALE, READ_SALE, READ_LIVE. -/

namespace Sys2Proof.Machine

open Sys2Proof

/-! ## AUTHORIZE (R40, R41) -/

/-- Every allowed position is mapped to a hose of the side. -/
def allMapped (map : PerHose (Option HoseRec)) (sd : Side) (allowed : PerPosition Bool) : Bool :=
  Position.all.all fun p => !allowed.get p || (hoseAt map sd p).isSome

/-- The authorization record the fields describe, where check 5 of R40 passes. -/
def authOf (s : State) (sd : Side) (saleId allowed level limitType limitValue : Nat) : Option Auth :=
  match allowedOf allowed, levelOf level, limitOf limitType limitValue with
  | some set, some lv, some lim =>
    if 1 ≤ saleId ∧ saleId ≤ 65535 ∧ allMapped s.cfg.hoses sd set = true then
      some
        { saleId := saleId
          allowed := set
          level := lv
          limit := lim
          timer := if s.cfg.timers.auth = 0 then none else some (s.now + 1000 * s.cfg.timers.auth)
          blocked := .none }
    else none
  | _, _, _ => none

/-- Checks 4 to 7 of R40 and the acceptance (R41). -/
def authorizeOpen (sd : Side) (saleId : Nat) (auth : Option Auth) (s : State) : Answered :=
  if s.psq.night.isSome then refuse .state s
  else orRefuse .badField s auth fun a =>
    if 2 ≤ (s.stack.get sd).length then refuse .stackFull s
    else if (s.stack.get sd).any fun r => r.saleId == saleId then refuse .duplicateId s
    else okay (testStart sd (s.withSideState sd (.authorized a)))

def ownAuthorize (side saleId allowed level limitType limitValue : Nat) (s : State) : Answered :=
  orRefuse .badField s (sideOf side) fun sd =>
    match s.sideState sd with
    | .authorized a => if a.saleId = saleId then okay s else refuse .state s
    | .idle => authorizeOpen sd saleId (authOf s sd saleId allowed level limitType limitValue) s
    | .calling => authorizeOpen sd saleId (authOf s sd saleId allowed level limitType limitValue) s
    | .closed _ => refuse .state s
    | .sale _ _ => refuse .state s

/-- AUTHORIZE (R40, R41). -/
def execAuthorize (m : AddrMode) (side saleId allowed level limitType limitValue : Nat) (s : State) :
    Host.Outcome State Fault Refusal :=
  request m .authorize (ownAuthorize side saleId allowed level limitType limitValue) s

/-! ## SUSPEND and RESUME (R51, R52) -/

def ownSuspend (side : Nat) (s : State) : Answered :=
  orRefuse .badField s (sideOf side) fun sd =>
    match s.sideState sd with
    | .sale (.fuelling _) ctx =>
        okay (s.withSideState sd (.sale (.suspended (s.now + 1000 * s.cfg.timers.suspend)) ctx))
    | .sale (.slowing _) ctx =>
        okay (s.withSideState sd (.sale (.suspended (s.now + 1000 * s.cfg.timers.suspend)) ctx))
    | _ => refuse .state s

/-- SUSPEND (R51). -/
def execSuspend (m : AddrMode) (side : Nat) (s : State) : Host.Outcome State Fault Refusal :=
  request m .suspend (ownSuspend side) s

/-- The state a query's answer sends a sale to: FUELLING or SLOWING with the no-flow timer started, or
STOPPED (R47, R52). -/
def actOnQuery (sd : Side) (ctx : Sale) (s : State) : State :=
  match queryResult ctx with
  | .clear => s.withSideState sd (.sale (.fuelling (s.now + 1000 * s.cfg.timers.noFlow)) ctx)
  | .slow => s.withSideState sd (.sale (.slowing (s.now + 1000 * s.cfg.timers.noFlow)) ctx)
  | .limit => stopSale sd .limitReached none s
  | .saturated => stopSale sd .saturated none s

def ownResume (side : Nat) (s : State) : Answered :=
  orRefuse .badField s (sideOf side) fun sd =>
    match s.sideState sd with
    | .sale (.suspended _) ctx => okay (actOnQuery sd ctx s)
    | _ => refuse .state s

/-- RESUME (R52). -/
def execResume (m : AddrMode) (side : Nat) (s : State) : Host.Outcome State Fault Refusal :=
  request m .resume (ownResume side) s

/-! ## STOP (R43) -/

def ownStop (side : Nat) (s : State) : Answered :=
  match side with
  | 1 => okay (stopSide .a s)
  | 2 => okay (stopSide .b s)
  | 3 => okay (stopSide .b (stopSide .a s))
  | _ => refuse .badField s

/-- STOP (R43). -/
def execStop (m : AddrMode) (side : Nat) (s : State) : Host.Outcome State Fault Refusal :=
  request m .stop (ownStop side) s

/-! ## CLEAR_SALE (R94) -/

/-- The record of a stack with a sale id. -/
def findSale (id : Nat) (l : List SaleRecord) : Option SaleRecord := l.find? fun r => r.saleId == id

/-- The record leaves the stack, its journal copy is paid, METROLOGY is queued (R94). -/
def clearRecord (sd : Side) (r : SaleRecord) (s : State) : State :=
  requestWrite .metrology
    { s with
      sru := { s.sru with journal := markPaid r.seq s.sru.journal }
      stack := s.stack.set sd (removeSale r.saleId (s.stack.get sd)) }

def ownClearSale (side saleId : Nat) (s : State) : Answered :=
  orRefuse .badField s (sideOf side) fun sd =>
    if saleId = 0 then refuse .badField s
    else orRefuse .notFound s (findSale saleId (s.stack.get sd)) fun r => okay (clearRecord sd r s)

/-- CLEAR_SALE (R94). -/
def execClearSale (m : AddrMode) (side saleId : Nat) (s : State) : Host.Outcome State Fault Refusal :=
  request m .clearSale (ownClearSale side saleId) s

/-! ## READ_SALE (R86, R95, R201) -/

/-- The scale code of a record (R201). -/
def scaleCode (sc : Scale) : Nat :=
  (if sc.dv = 3 then 1 else 0) + 2 * (sc.dp % 4) + 8 * (sc.da % 4) + 32 * sc.rounding.num

/-- Whether a limit has a value. -/
def Limit.hasValue : Limit → Bool
  | .none => false
  | .amount _ => true
  | .volume _ => true

def meterNum : Option Meter → Nat
  | none => 0
  | some m => m.num

/-- The flags byte of a record (R201). -/
def recordFlags (r : SaleRecord) (paid : Bool) : Nat :=
  flagNum r.limit.hasValue + 2 * flagNum r.secondary.isSome + 4 * flagNum r.faultMeter.isSome +
  8 * flagNum r.saturated + 16 * flagNum paid

/-- A sale record as sent: 51 bytes, an absent part as zeros (R86, R201). -/
def recordBytes (r : SaleRecord) (paid : Bool) : List Byte :=
  be 4 r.seq ++ be 2 r.saleId ++ byte1 r.side.num ++ byte1 r.hose.num ++ byte1 r.position.num ++
  byte1 r.grade.num ++ byte1 r.level.num ++ be 3 r.price ++ be 2 r.generation ++ byte1 r.limit.typeNum ++
  be 3 r.limit.value ++ be 3 r.volume ++ be 3 r.amount ++ be 4 r.high ++ be 4 r.reverse ++
  be 4 (r.secondary.getD (0, 0)).1 ++ be 4 (r.secondary.getD (0, 0)).2 ++ be 3 r.overrun ++
  byte1 r.endReason.num ++ byte1 (meterNum r.faultMeter) ++ byte1 (recordFlags r paid) ++
  byte1 (scaleCode r.scale) ++ be 2 r.duration

/-- The selector of READ_SALE: BAD_FIELD is none, a record that is not there is `some none` (R95). -/
def selectSale (kind value : Nat) (l : List SaleRecord) : Option (Option SaleRecord) :=
  match kind with
  | 1 => if value = 1 ∨ value = 2 then some l[value - 1]? else none
  | 2 => if value = 0 then none else some (findSale value l)
  | _ => none

def ownReadSale (side kind value : Nat) (s : State) : Answered :=
  orRefuse .badField s (sideOf side) fun sd =>
    orRefuse .badField s (selectSale kind value (s.stack.get sd)) fun found =>
      orRefuse .notFound s found fun r => okData s (recordBytes r false)

/-- READ_SALE (R95). -/
def execReadSale (m : AddrMode) (side kind value : Nat) (s : State) : Host.Outcome State Fault Refusal :=
  request m .readSale (ownReadSale side kind value) s

/-! ## READ_LIVE (R32, R201) -/

def mirrorBytes (sd : Side) (l : Mirror) : List Byte :=
  byte1 sd.num ++ byte1 l.state ++ byte1 l.hose ++ be 3 l.volume ++ be 3 l.amount ++ be 3 l.price ++
  be 2 l.elapsed ++ byte1 (flagNum l.saturated)

def ownReadLive (side : Nat) (s : State) : Answered :=
  orRefuse .badField s (sideOf side) fun sd => okData s (mirrorBytes sd (liveMirror s sd))

/-- READ_LIVE (R32, R33). -/
def execReadLive (m : AddrMode) (side : Nat) (s : State) : Host.Outcome State Fault Refusal :=
  request m .readLive (ownReadLive side) s

end Sys2Proof.Machine
end

