-- ==== Sys2Proof/Machine/Management.lean ====
section
/-! DEFINITION. The management requests of port 3 (chapter 09), each with the effect its owner's chapter
gives it. An accepted SET_ request queues a CONFIG write (R159). -/

namespace Sys2Proof.Machine

open Sys2Proof

/-- A value in a closed range. -/
def within (lo hi v : Nat) : Bool := decide (lo ≤ v) && decide (v ≤ hi)

/-- An accepted setting: the new configuration, and a CONFIG write (R159). -/
def setCfg (c : Cfg) (s : State) : State := requestWrite .config (s.withCfg c)

/-! ## READ_IDENT (R160) -/

def identBytes (s : State) : List Byte :=
  be 2 Config.productCode ++ byte1 Config.designRevision ++ be 4 Config.unitNumber.toNat ++
  byte1 s.sli.line.address ++ byte1 s.sli.line.group ++ byte1 s.psq.mode.num

def ownReadIdent (s : State) : Answered := okData s (identBytes s)

/-- READ_IDENT (R160). -/
def execReadIdent (m : AddrMode) (s : State) : Host.Outcome State Fault Refusal :=
  request m .readIdent ownReadIdent s

/-! ## SET_ADDRESS and SET_LINE (R161, R162) -/

def ownSetAddress (address group : Nat) (s : State) : Answered :=
  if within 1 62 address && within 0 63 group then
    okay (setCfg { s.cfg with address := address, group := group } s)
  else refuse .badField s

/-- SET_ADDRESS (R161). -/
def execSetAddress (m : AddrMode) (address group : Nat) (s : State) : Host.Outcome State Fault Refusal :=
  request m .setAddress (ownSetAddress address group) s

/-- An accepted SET_LINE: the speed, and the receiver's wait when its reply is over (R162). -/
def setLine (v : Speed) (s : State) : State :=
  let s1 := setCfg { s.cfg with speed := v } s
  s1.withSli { s1.sli with quietAfter := true }

def ownSetLine (speed : Nat) (s : State) : Answered :=
  orRefuse .badField s (speedOf speed) fun v => okay (setLine v s)

/-- SET_LINE (R162). -/
def execSetLine (m : AddrMode) (speed : Nat) (s : State) : Host.Outcome State Fault Refusal :=
  request m .setLine (ownSetLine speed) s

/-! ## SET_HOSE (R38, R163, R164) -/

/-- The secondary meter field: 0 for absent (R200). -/
def secondaryOf (v : Nat) : Option (Option Meter) :=
  if v = 0 then some none else (meterOf v).map some

/-- The hose record of the fields: none where check 1 or 2 of R164 refuses; an unassigned record's other
fields are not examined. -/
def hoseRecOf (assigned side position grade primary secondary : Nat) : Option (Option HoseRec) :=
  match flagOf assigned with
  | none => none
  | some false => some none
  | some true =>
    match sideOf side, positionOf position, gradeOf grade, meterOf primary, secondaryOf secondary with
    | some sd, some p, some g, some pm, some sm =>
        if sm = some pm then none else some (some ⟨sd, p, g, pm, sm⟩)
    | _, _, _, _, _ => none

/-- Check 3: another assigned hose holds the side and position. -/
def placeTaken (map : PerHose (Option HoseRec)) (h : Hose) (r : HoseRec) : Bool :=
  Hose.all.any fun o =>
    match map.get o with
    | some q => o != h && q.side == r.side && q.position == r.position
    | none => false

/-- The map names the meter on the side. -/
def namedOn (map : PerHose (Option HoseRec)) (m : Meter) (sd : Side) : Bool :=
  Hose.all.any fun h =>
    match map.get h with
    | some r => r.side == sd && r.names m
    | none => false

/-- Check 4: some meter is named by hoses of both sides. -/
def meterShared (map : PerHose (Option HoseRec)) : Bool :=
  Meter.all.any fun m => namedOn map m .a && namedOn map m .b

/-- The side is CLOSED. -/
def State.closedSide (s : State) (sd : Side) : Bool :=
  match s.sideState sd with
  | .closed _ => true
  | _ => false

/-- Check 5 for one record: its side, if it is assigned, is CLOSED. -/
def concernedClosed (s : State) : Option HoseRec → Bool
  | none => true
  | some r => s.closedSide r.side

/-- Checks 3 to 5 of R164. -/
def hoseRefusal (s : State) (h : Hose) (r : Option HoseRec) : Option Result :=
  let map := s.cfg.hoses.set h r
  let taken := match r with
    | some q => placeTaken s.cfg.hoses h q
    | none => false
  if taken || meterShared map then some .badField
  else if concernedClosed s (s.cfg.hoses.get h) && concernedClosed s r then none
  else some .state

/-- A hose leaves the lifted list of a side. -/
def leaveList (h : Hose) (sd : Option Side) (s : State) : State :=
  match sd with
  | some d => s.withLifted d ((s.lifted d).filter (· ≠ h))
  | none => s

/-- A lifted hose joins the back of the lifted list of a side. -/
def joinList (h : Hose) (sd : Option Side) (s : State) : State :=
  match sd with
  | some d => if s.lines.nozzle.get h then s.withLifted d (s.lifted d ++ [h]) else s
  | none => s

/-- The hose's lifted-list membership follows its new side (R38). -/
def moveLifted (h : Hose) (old new : Option Side) (s : State) : State :=
  if old = new then s else joinList h new (leaveList h old s)

/-- A meter whose owning side has changed has its stray count set to 0 (R2). -/
def resetMoved (old : PerHose (Option HoseRec)) (s : State) : State :=
  { s with mci := s.mci.mapAll fun m c =>
      if owningSide old m = owningSide s.cfg.hoses m then c else c.strayReset }

/-- An accepted SET_HOSE (R164). -/
def setHose (h : Hose) (r : Option HoseRec) (s : State) : State :=
  let s1 := setCfg { s.cfg with hoses := s.cfg.hoses.set h r } s
  handPanels (resetMoved s.cfg.hoses (moveLifted h (hoseSide s.cfg.hoses h) (r.map HoseRec.side) s1))

def ownSetHose (hose assigned side position grade primary secondary : Nat) (s : State) : Answered :=
  orRefuse .badField s (hoseOf hose) fun h =>
    orRefuse .badField s (hoseRecOf assigned side position grade primary secondary) fun r =>
      match hoseRefusal s h r with
      | some e => refuse e s
      | none => okay (setHose h r s)

/-- SET_HOSE (R164). -/
def execSetHose (m : AddrMode) (hose assigned side position grade primary secondary : Nat) (s : State) :
    Host.Outcome State Fault Refusal :=
  request m .setHose (ownSetHose hose assigned side position grade primary secondary) s

/-! ## SET_METER (R1, R3, R165) -/

/-- The record of the fields, where each is in the range of Table 1.1. -/
def meterConfigOf (mode k : Nat) (trim : Int) (ra sa fmax : Nat) : Option MeterConfig :=
  match meterModeOf mode with
  | some md =>
    if within 10 5000 k && decide (-500 ≤ trim) && decide (trim ≤ 500) && within 0 255 ra && within 0 255 sa &&
       within 1 10000 fmax
    then some ⟨md, k, trim, ra, sa, fmax⟩ else none
  | none => none

/-- The owning side, if there is one, is CLOSED (R1). -/
def ownerClosed (s : State) (m : Meter) : Bool :=
  match owningSide s.cfg.hoses m with
  | some sd => s.closedSide sd
  | none => true

/-- After a change of mode the next observation sets the reference (R3). -/
def forgetReference (m : Meter) (s : State) : State :=
  s.withChannel m { s.channel m with reference := none }

def setMeter (m : Meter) (c : MeterConfig) (s : State) : State :=
  let s1 := setCfg { s.cfg with meters := s.cfg.meters.set m c } s
  if c.mode = (s.cfg.meters.get m).mode then s1 else forgetReference m s1

def ownSetMeter (meter mode k : Nat) (trim : Int) (ra sa fmax : Nat) (s : State) : Answered :=
  orRefuse .badField s (meterOf meter) fun mt =>
    orRefuse .badField s (meterConfigOf mode k trim ra sa fmax) fun c =>
      if ownerClosed s mt then okay (setMeter mt c s) else refuse .state s

/-- SET_METER (R165). -/
def execSetMeter (m : AddrMode) (meter mode k : Nat) (trim : Int) (ra sa fmax : Nat) (s : State) :
    Host.Outcome State Fault Refusal :=
  request m .setMeter (ownSetMeter meter mode k trim ra sa fmax) s

/-! ## SET_SCALE (R20, R82) -/

/-- The record of the fields, where they are legal and e is not negative. -/
def scaleOf (dv dp da rounding : Nat) : Option Scale :=
  match roundingOf rounding with
  | some r =>
    if (dv = 2 ∨ dv = 3) ∧ dp ≤ 3 ∧ da ≤ 3 ∧ da ≤ dv + dp then some ⟨dv, dp, da, r⟩ else none
  | none => none

/-- Both sides CLOSED and both stacks empty. -/
def scaleUnlocked (s : State) : Bool :=
  s.closedSide .a && s.closedSide .b && s.stack.a.isEmpty && s.stack.b.isEmpty

def ownSetScale (dv dp da rounding : Nat) (s : State) : Answered :=
  orRefuse .badField s (scaleOf dv dp da rounding) fun sc =>
    if scaleUnlocked s then okay (handPanels (setCfg { s.cfg with scale := sc } s)) else refuse .state s

/-- SET_SCALE (R20). -/
def execSetScale (m : AddrMode) (dv dp da rounding : Nat) (s : State) : Host.Outcome State Fault Refusal :=
  request m .setScale (ownSetScale dv dp da rounding) s

/-! ## SET_TIMERS (R166) -/

/-- The settings of the fields, where each is in its range. -/
def timersOf (t : TimerFields) : Option Timers :=
  if (t.auth == 0 || within 10 900 t.auth) && within 500 3000 t.zero && within 10 600 t.noFlow &&
     within 10 900 t.suspend && within 200 2000 t.settle && within 200 3000 t.loss && within 5 600 t.hold &&
     within 10 600 t.confirm
  then some ⟨t.auth, t.zero, t.noFlow, t.suspend, t.settle, t.loss, t.hold, t.confirm⟩ else none

def ownSetTimers (t : TimerFields) (s : State) : Answered :=
  orRefuse .badField s (timersOf t) fun v => okay (setCfg { s.cfg with timers := v } s)

/-- SET_TIMERS (R166). -/
def execSetTimers (m : AddrMode) (t : TimerFields) (s : State) : Host.Outcome State Fault Refusal :=
  request m .setTimers (ownSetTimers t) s

/-! ## SET_THRESHOLDS (R134, R145, R167) -/

/-- The settings of the fields, where each is in its range. -/
def thresholdsOf (margin reader site feedA feedB : Nat) : Option Thresholds :=
  match flagOf feedA, flagOf feedB with
  | some fa, some fb =>
    if within 0 10000 margin && within 1 63 reader && within 1 255 site
    then some ⟨margin, reader, site, ⟨fa, fb⟩⟩ else none
  | _, _ => none

/-- A reader whose counter lies above the threshold now in force is brought to it, and quarantined when it
is ATTACHED (R134). A threshold lowered to exactly the counter of an ATTACHED reader does not quarantine it,
though its counter then equals the threshold, which R134 can be read to mean: a DESIGN CHOICE (log 41).
Unsafe. -/
def clampReader (sd : Side) (s : State) : State :=
  let r := s.reader sd
  if s.cfg.thresholds.reader < r.err then
    let s1 := s.withReader sd { r with err := s.cfg.thresholds.reader }
    if r.state = .attached then enterQuarantined sd s1 else s1
  else s

/-- The site error counter is brought to the threshold now in force; its flag keeps its state (R145). -/
def clampSite (s : State) : State :=
  s.withSli { s.sli with errors := min s.sli.errors s.cfg.thresholds.site }

def ownSetThresholds (margin reader site feedA feedB : Nat) (s : State) : Answered :=
  orRefuse .badField s (thresholdsOf margin reader site feedA feedB) fun v =>
    okay (clampReader .b (clampReader .a (clampSite (setCfg { s.cfg with thresholds := v } s))))

/-- SET_THRESHOLDS (R167). -/
def execSetThresholds (m : AddrMode) (margin reader site feedA feedB : Nat) (s : State) :
    Host.Outcome State Fault Refusal :=
  request m .setThresholds (ownSetThresholds margin reader site feedA feedB) s

/-! ## SET_ROUTE, CLEAR_ROUTE, READ_ROUTE (R120, R123) -/

/-- A code range that includes a code of the RIU's own messages: NOTHING, STATUS, POLL, FIGURES are 0 to 3
(R202). -/
def rangeHasOwn (low : Nat) : Bool := decide (low ≤ 3)

/-- The row of the fields, where checks 1 to 3 of R123 pass. -/
def routeRowOf (inUse source low high maxLen action : Nat) : Option RouteRow :=
  match flagOf inUse, sourceOf source, actionOf action with
  | some u, some src, some act =>
    if low ≤ high ∧ high ≤ 255 ∧ within 1 Config.readerFrameMax maxLen = true ∧
       ¬ (src.isSite = true ∧ (act = .supervisor ∨ rangeHasOwn low = true))
    then some ⟨u, src, low, high, maxLen, act⟩ else none
  | _, _, _ => none

/-- A row number as an index of the table. -/
def rowIndex (row : Nat) : Option Nat := if within 1 24 row then some (row - 1) else none

/-- PROBING or ATTACHED. -/
def ReaderState.live : ReaderState → Bool
  | .probing => true
  | .attached => true
  | _ => false

/-- The reader of a row is live. -/
def rowLocked (s : State) (r : RouteRow) : Bool := (s.reader r.source.side).state.live

/-- The row held at an index. -/
def routeAt (s : State) (i : Nat) : RouteRow := s.cfg.routes.getD i clearRow

def setRow (i : Nat) (r : RouteRow) (s : State) : State :=
  setCfg { s.cfg with routes := s.cfg.routes.set i r } s

def ownSetRoute (row inUse source low high maxLen action : Nat) (s : State) : Answered :=
  orRefuse .badField s (rowIndex row) fun i =>
    orRefuse .badField s (routeRowOf inUse source low high maxLen action) fun r =>
      if ((routeAt s i).inUse && rowLocked s (routeAt s i)) || rowLocked s r then refuse .readerActive s
      else okay (setRow i r s)

/-- SET_ROUTE (R123). -/
def execSetRoute (m : AddrMode) (row inUse source low high maxLen action : Nat) (s : State) :
    Host.Outcome State Fault Refusal :=
  request m .setRoute (ownSetRoute row inUse source low high maxLen action) s

def ownClearRoute (row : Nat) (s : State) : Answered :=
  orRefuse .badField s (rowIndex row) fun i =>
    if (routeAt s i).inUse = false then okay s
    else if rowLocked s (routeAt s i) then refuse .readerActive s
    else okay (setRow i { routeAt s i with inUse := false } s)

/-- CLEAR_ROUTE (R123). -/
def execClearRoute (m : AddrMode) (row : Nat) (s : State) : Host.Outcome State Fault Refusal :=
  request m .clearRoute (ownClearRoute row) s

/-- The seven fields of a row, as in SET_ROUTE (R201). -/
def routeBytes (row : Nat) (r : RouteRow) : List Byte :=
  byte1 row ++ byte1 (flagNum r.inUse) ++ byte1 r.source.num ++ byte1 r.low ++ byte1 r.high ++
  byte1 r.maxLen ++ byte1 r.action.num

def ownReadRoute (row : Nat) (s : State) : Answered :=
  orRefuse .badField s (rowIndex row) fun i => okData s (routeBytes row (routeAt s i))

/-- READ_ROUTE (R123). -/
def execReadRoute (m : AddrMode) (row : Nat) (s : State) : Host.Outcome State Fault Refusal :=
  request m .readRoute (ownReadRoute row) s

/-! ## SET_WAKE and ARM_WAKE (R168) -/

/-- A field that is ANY at 0xFF, else a value up to a bound (R200). -/
def anyOr (hi v : Nat) : Option (Option Nat) :=
  if v = 0xFF then some none else if v ≤ hi then some (some v) else none

/-- The filter and enables of the fields, the armed flag clear. -/
def wakeOf (w : WakeFields) : Option Wake :=
  match anyOr 3 w.port, anyOr 120 w.length, flagOf w.nozzleA, flagOf w.nozzleB with
  | some port, some length, some na, some nb =>
    some
      { address := ⟨w.addrValue, w.addrMask⟩
        port := port
        code := ⟨w.codeValue, w.codeMask⟩
        length := length
        data := ⟨⟨w.value0, w.mask0⟩, ⟨w.value1, w.mask1⟩, ⟨w.value2, w.mask2⟩, ⟨w.value3, w.mask3⟩⟩
        armed := false
        nozzle := ⟨na, nb⟩ }
  | _, _, _, _ => none

def ownSetWake (w : WakeFields) (s : State) : Answered :=
  orRefuse .badField s (wakeOf w) fun v => okay (setCfg { s.cfg with wake := v } s)

/-- SET_WAKE (R168). -/
def execSetWake (m : AddrMode) (w : WakeFields) (s : State) : Host.Outcome State Fault Refusal :=
  request m .setWake (ownSetWake w) s

def ownArmWake (s : State) : Answered :=
  if s.cfg.wake.armed then okay s
  else okay (setCfg { s.cfg with wake := { s.cfg.wake with armed := true } } s)

/-- ARM_WAKE (R168). -/
def execArmWake (m : AddrMode) (s : State) : Host.Outcome State Fault Refusal :=
  request m .armWake ownArmWake s

/-! ## OPEN_SIDE and CLOSE_SIDE (R61, R62) -/

/-- The map assigns a hose to the side. -/
def sideMapped (map : PerHose (Option HoseRec)) (sd : Side) : Bool :=
  Hose.all.any fun h => hoseSide map h == some sd

/-- Checks 2 to 5 of R62. -/
def openAllowed (s : State) (sd : Side) : Bool :=
  s.closedSide sd && sideMapped s.cfg.hoses sd && !s.sideLost sd && s.nvs.condition == .clear

/-- An accepted OPEN_SIDE (R62). -/
def openSide (sd : Side) (s : State) : State :=
  let s1 := setCfg { s.cfg with sideOpen := s.cfg.sideOpen.set sd true } s
  handPanel sd (enterOpen sd (resetStrays sd s1))

def ownOpenSide (side : Nat) (s : State) : Answered :=
  orRefuse .badField s (sideOf side) fun sd =>
    if openAllowed s sd then okay (openSide sd s) else refuse .state s

/-- OPEN_SIDE (R62). -/
def execOpenSide (m : AddrMode) (side : Nat) (s : State) : Host.Outcome State Fault Refusal :=
  request m .openSide (ownOpenSide side) s

def ownCloseSide (side : Nat) (s : State) : Answered :=
  orRefuse .badField s (sideOf side) fun sd => okay (Machine.closeSide sd s)

/-- CLOSE_SIDE (R61). -/
def execCloseSide (m : AddrMode) (side : Nat) (s : State) : Host.Outcome State Fault Refusal :=
  request m .closeSide (ownCloseSide side) s

/-! ## READER_ATTACH and READER_ISOLATE (R136, R137) -/

/-- Checks 2 to 4 of R136. -/
def attachRefusal (s : State) (sd : Side) : Option Result :=
  if (s.reader sd).state.live then some .state
  else if s.lines.tamper.get sd then some .tamperActive
  else if (s.reader sd).state = .quarantined ∧ (s.reader sd).hold ≠ .expired then some .hold
  else none

/-- An accepted READER_ATTACH (R136). -/
def powerReader (sd : Side) (s : State) : State :=
  s.withReader sd { s.reader sd with
    state := .probing
    hold := .stopped
    probe := some (s.now + Config.probeTime) }

def ownReaderAttach (reader : Nat) (s : State) : Answered :=
  orRefuse .badField s (sideOf reader) fun sd =>
    match attachRefusal s sd with
    | some e => refuse e s
    | none => okay (powerReader sd s)

/-- READER_ATTACH (R136). -/
def execReaderAttach (m : AddrMode) (reader : Nat) (s : State) : Host.Outcome State Fault Refusal :=
  request m .readerAttach (ownReaderAttach reader) s

/-- The effect of READER_ISOLATE by reader state (R137). -/
def isolateReader (sd : Side) (s : State) : State :=
  match (s.reader sd).state with
  | .probing => enterOff sd .isolated s
  | .attached => enterOff sd .isolated s
  | .off _ => s.withReader sd { s.reader sd with state := .off .isolated }
  | .quarantined => s
  | .tampered => s

def ownReaderIsolate (reader : Nat) (s : State) : Answered :=
  orRefuse .badField s (sideOf reader) fun sd => okay (isolateReader sd s)

/-- READER_ISOLATE (R137). -/
def execReaderIsolate (m : AddrMode) (reader : Nat) (s : State) : Host.Outcome State Fault Refusal :=
  request m .readerIsolate (ownReaderIsolate reader) s

/-! ## READ_CONFIG (R169, R201; log 16) -/

/-- The seven fields of SET_HOSE, zeros for an unassigned hose. -/
def hoseBytes (h : Hose) (r : Option HoseRec) : List Byte :=
  match r with
  | none => [BitVec.ofNat 8 h.num, 0, 0, 0, 0, 0, 0]
  | some q =>
    byte1 h.num ++ byte1 1 ++ byte1 q.side.num ++ byte1 q.position.num ++ byte1 q.grade.num ++
    byte1 q.primary.num ++ byte1 (meterNum q.secondary)

def meterBytes (c : MeterConfig) : List Byte :=
  byte1 c.mode.num ++ be 2 c.k ++ beSigned c.trim ++ byte1 c.ra ++ byte1 c.sa ++ be 2 c.fmax

def scaleBytes (sc : Scale) : List Byte :=
  byte1 sc.dv ++ byte1 sc.dp ++ byte1 sc.da ++ byte1 sc.rounding.num

def timerBytes (t : Timers) : List Byte :=
  be 2 t.auth ++ be 2 t.zero ++ be 2 t.noFlow ++ be 2 t.suspend ++ be 2 t.settle ++ be 2 t.loss ++
  be 2 t.hold ++ be 2 t.confirm

def thresholdBytes (t : Thresholds) : List Byte :=
  be 2 t.margin ++ byte1 t.reader ++ byte1 t.site ++ byte1 (flagNum t.feed.a) ++ byte1 (flagNum t.feed.b)

def maskedBytes (v : Masked) : List Byte := [v.value, v.mask]

/-- The wake filter in the order of SET_WAKE, then the armed flag (R201). -/
def wakeBytes (w : Wake) : List Byte :=
  maskedBytes w.address ++ byte1 (w.port.getD 0xFF) ++ maskedBytes w.code ++ byte1 (w.length.getD 0xFF) ++
  maskedBytes w.data.p1 ++ maskedBytes w.data.p2 ++ maskedBytes w.data.p3 ++ maskedBytes w.data.p4 ++
  byte1 (flagNum w.nozzle.a) ++ byte1 (flagNum w.nozzle.b) ++ byte1 (flagNum w.armed)

/-- A section's content (R169): none for a selector or a meter number that names none. -/
def sectionBytes (c : Cfg) (sect meter : Nat) : Option (List Byte) :=
  match sect with
  | 1 => some (byte1 c.address ++ byte1 c.group ++ byte1 c.speed.num)
  | 2 => some (Hose.all.flatMap fun h => hoseBytes h (c.hoses.get h))
  | 3 => (meterOf meter).map fun m => meterBytes (c.meters.get m)
  | 4 => some (scaleBytes c.scale)
  | 5 => some (timerBytes c.timers)
  | 6 => some (thresholdBytes c.thresholds)
  | 7 => some (wakeBytes c.wake)
  | 8 => some (byte1 (flagNum c.sideOpen.a) ++ byte1 (flagNum c.sideOpen.b))
  | _ => none

def ownReadConfig (sect meter : Nat) (s : State) : Answered :=
  orRefuse .badField s (sectionBytes s.cfg sect meter) fun d => okData s d

/-- READ_CONFIG (R169). -/
def execReadConfig (m : AddrMode) (sect meter : Nat) (s : State) : Host.Outcome State Fault Refusal :=
  request m .readConfig (ownReadConfig sect meter) s

/-! ## READ_JOURNAL, READ_TOTALS, READ_COUNTERS (R96, R97, R156) -/

def ownReadJournal (index : Nat) (s : State) : Answered :=
  if 15 < index then refuse .badField s
  else orRefuse .notFound s s.sru.journal.reverse[index]? fun e => okData s (recordBytes e.record e.paid)

/-- READ_JOURNAL (R96). -/
def execReadJournal (m : AddrMode) (index : Nat) (s : State) : Host.Outcome State Fault Refusal :=
  request m .readJournal (ownReadJournal index) s

def hoseTotalBytes (t : HoseTotals) : List Byte := be 5 t.volume ++ be 5 t.amount ++ be 4 t.count

/-- Part 1 of READ_TOTALS: the hose totals (R201). -/
def totalsPart1 (r : Metrology) : List Byte :=
  byte1 1 ++ Hose.all.flatMap fun h => hoseTotalBytes (r.hoses.get h)

/-- Part 2 of READ_TOTALS: the pulse totals and the sequence counter (R201). -/
def totalsPart2Bytes (r : Metrology) : List Byte :=
  byte1 2 ++ (Meter.all.flatMap fun m => be 5 (r.pulses.get m)) ++ be 4 r.seq

def ownReadTotals (s : State) : Answered :=
  ⟨s, .ok, totalsPart1 s.sru, some (totalsPart2Bytes s.sru)⟩

/-- READ_TOTALS (R97). -/
def execReadTotals (m : AddrMode) (s : State) : Host.Outcome State Fault Refusal :=
  request m .readTotals ownReadTotals s

def readerCounterBytes (r : ReaderRec) : List Byte :=
  be 4 r.violations ++ be 4 r.drops ++ be 4 r.flushed ++ byte1 r.err

def channelCounterBytes (c : Channel) : List Byte := be 4 c.phaseTotal ++ be 4 c.strayTotal

/-- The counters of READ_COUNTERS (R156, R201). -/
def counterBytes (s : State) : List Byte :=
  be 4 s.sli.frameErrors ++ be 4 s.sli.modeRejects ++ byte1 s.sli.errors ++ byte1 (flagNum s.sli.overflow) ++
  readerCounterBytes s.riu.a ++ readerCounterBytes s.riu.b ++
  Meter.all.flatMap fun m => channelCounterBytes (s.channel m)

def ownReadCounters (s : State) : Answered := okData s (counterBytes s)

/-- READ_COUNTERS (R156). -/
def execReadCounters (m : AddrMode) (s : State) : Host.Outcome State Fault Refusal :=
  request m .readCounters ownReadCounters s

/-! ## RESTART (R170, R185) -/

/-- CLOSED, IDLE or CALLING. -/
def SideState.restartable : SideState → Bool
  | .closed _ => true
  | .idle => true
  | .calling => true
  | _ => false

/-- In FAILSAFE always; in RUN without a night request, with no authorization and no sale (R170, R185). -/
def restartAllowed (s : State) : Bool :=
  s.psq.mode == .failsafe ||
  (s.psq.night.isNone && (s.sideState .a).restartable && (s.sideState .b).restartable)

def ownRestart (s : State) : Answered :=
  if restartAllowed s then okay (s.withPsq { s.psq with restart := .replying }) else refuse .state s

/-- RESTART (R170). -/
def execRestart (m : AddrMode) (s : State) : Host.Outcome State Fault Refusal :=
  request m .restart ownRestart s

end Sys2Proof.Machine
end

