-- ==== Sys2Proof/Machine/Meters.lean ====
section
/-! DEFINITION. The meter channels (chapter 01): the decoder, engaged pulses with their reports, free pulses,
phase errors. -/

namespace Sys2Proof.Machine

open Sys2Proof

/-! ## Engaged pulses (R7, R8, R10) -/

inductive Direction where
  | forward | reverse
  deriving DecidableEq, Repr

/-- N and H after a forward pulse (R7). -/
def countForward (c : Counters) : Counters :=
  if c.net < Config.countMax then
    { c with net := c.net + 1, high := if (c.high : Int) < c.net + 1 then (c.net + 1).toNat else c.high }
  else c

/-- N and the reverse total after a reverse pulse (R8). -/
def countReverse (c : Counters) : Counters :=
  { c with
    net := if -67108864 < c.net then c.net - 1 else c.net
    reverse := min (c.reverse + 1) Config.countMax }

/-- The pulse is placed in its window and counted (R10). -/
def countRate (now : Nat) (c : Counters) : Counters :=
  if now - c.rateStart < Config.rateWindow then { c with rateCount := min (c.rateCount + 1) 65535 }
  else { c with
    rateStart := c.rateStart + (now - c.rateStart) / Config.rateWindow * Config.rateWindow
    rateCount := 1 }

/-- An engaged pulse in its counters. -/
def countPulse (now : Nat) (d : Direction) (c : Counters) : Counters :=
  match d with
  | .forward => countRate now (countForward c)
  | .reverse => countRate now (countReverse c)

/-- The reverse test (R8): after a reverse pulse only, once per engagement. -/
def reverseFault (d : Direction) (ra : Nat) (c : Counters) : Bool :=
  d == .reverse && decide ((ra : Int) < (c.high : Int) - c.net) && !c.saidReverse

/-- The rate test (R10), once per engagement. -/
def highFault (fmax : Nat) (c : Counters) : Bool := decide (fmax < 10 * c.rateCount) && !c.saidHigh

/-- The counters of a meter of a sale. -/
def Sale.counters (ctx : Sale) (m : Meter) : Option Counters :=
  if ctx.primary = m then some ctx.primaryCt
  else match ctx.secondary with
    | some (n, c) => if n = m then some c else none
    | none => none

def Sale.withCounters (ctx : Sale) (m : Meter) (c : Counters) : Sale :=
  if ctx.primary = m then { ctx with primaryCt := c }
  else match ctx.secondary with
    | some (n, _) => if n = m then { ctx with secondary := some (n, c) } else ctx
    | none => ctx

/-- A change of a side's sale context. -/
def withSale (sd : Side) (f : Sale → Sale) (s : State) : State :=
  match s.sideState sd with
  | .sale p ctx => s.withSideState sd (.sale p (f ctx))
  | _ => s

/-- A flow indication restarts the no-flow timer in FUELLING and SLOWING (R6, R50). -/
def flowIndication (sd : Side) (s : State) : State :=
  match s.sideState sd with
  | .sale (.fuelling _) ctx =>
      s.withSideState sd (.sale (.fuelling (s.now + 1000 * s.cfg.timers.noFlow)) ctx)
  | .sale (.slowing _) ctx =>
      s.withSideState sd (.sale (.slowing (s.now + 1000 * s.cfg.timers.noFlow)) ctx)
  | _ => s

/-- A renewal: the figures, then the test result to the side (R29). -/
def renew (sd : Side) (s : State) : State :=
  match s.sideState sd with
  | .sale p ctx =>
    let f := renewedFigures s.cfg ctx
    actOnResult sd f.last (s.withSideState sd (.sale p { ctx with figures := f }))
  | _ => s

/-- The reports of one pulse, after its renewal (R11); where both arise their order is free (log 12). -/
def reportPulse (sd : Side) (m : Meter) (rev high : Bool) (s : State) : State :=
  if rev && high then
    if Config.highFlowFirst s.freeCount then
      takeReport sd .reverseFlow m (takeReport sd .highFlow m s.drawn)
    else takeReport sd .highFlow m (takeReport sd .reverseFlow m s.drawn)
  else if rev then takeReport sd .reverseFlow m s
  else if high then takeReport sd .highFlow m s
  else s

/-- An engaged pulse (R6 to R8, R10, R11). -/
def engagedPulse (sd : Side) (d : Direction) (m : Meter) (ctx : Sale) (before : Counters) (s : State) : State :=
  let mc := s.cfg.meters.get m
  let c := countPulse s.now d before
  let rev := reverseFault d mc.ra c
  let high := highFault mc.fmax c
  let c1 := { c with saidReverse := c.saidReverse || rev, saidHigh := c.saidHigh || high }
  let s1 := withSale sd (fun _ => ctx.withCounters m c1) s
  reportPulse sd m rev high (renew sd (flowIndication sd s1))

/-! ## Free pulses (R12, R13) -/

/-- A free pulse in its channel; `told` when it brings the report. -/
def countStray (told : Bool) (c : Channel) : Channel :=
  { c with
    stray := min (c.stray + 1) 65535
    strayTotal := wrap32 (c.strayTotal + 1)
    strayTold := c.strayTold || told }

/-- The stray count passes from Sa to Sa + 1 for the first time since its reset. A count that a lowered Sa
leaves above Sa never makes that passage: no report until it is reset, a DESIGN CHOICE (log 38). Unsafe. -/
def strayDue (sa : Nat) (c : Channel) : Bool := c.stray == sa && !c.strayTold

/-- A free pulse; the report is given when the stray count passes from Sa to Sa + 1, once between two
resets. -/
def freePulse (m : Meter) (s : State) : State :=
  let c := s.channel m
  let due := strayDue (s.cfg.meters.get m).sa c
  let s1 := s.withChannel m (countStray due c)
  if due then
    let s2 := raise .strayFlow s1
    match owningSide s2.cfg.hoses m with
    | some sd => takeStray sd m s2
    | none => s2
  else s1

/-! ## What the decoder yields (R3, R4) -/

/-- The sale a meter is engaged to, with its counters there (R5). -/
def State.engagement (s : State) (m : Meter) : Option (Side × Sale × Counters) :=
  match s.engagedSide m with
  | none => none
  | some sd =>
    match (s.sideState sd).sale? with
    | none => none
    | some ctx => (ctx.counters m).map fun c => (sd, ctx, c)

/-- A pulse is taken by its channel as engaged or as free (R4). -/
def pulse (d : Direction) (m : Meter) (s : State) : State :=
  match s.engagement m with
  | some (sd, ctx, c) => engagedPulse sd d m ctx c s
  | none => freePulse m s

/-- An engaged phase error in its counters (R9). -/
def engagedPhase (sd : Side) (m : Meter) (ctx : Sale) (before : Counters) (s : State) : State :=
  let n := min (before.phase + 1) 8
  let fault := decide (n = 8) && !before.saidFault
  let c := { before with phase := n, saidFault := before.saidFault || fault }
  let s1 := withSale sd (fun _ => ctx.withCounters m c) s
  if fault then takeReport sd .meterFault m s1 else s1

/-- A phase error (R9, R12, R14). -/
def phaseError (m : Meter) (s : State) : State :=
  let c := s.channel m
  let s1 := s.withChannel m { c with phaseTotal := wrap32 (c.phaseTotal + 1) }
  match s1.engagement m with
  | some (sd, ctx, ct) => engagedPhase sd m ctx ct s1
  | none => s1

/-- The decoder's mode of a channel. -/
def State.meterMode (s : State) (m : Meter) : MeterMode := (s.cfg.meters.get m).mode

/-- After a yield the cycle position is 0 (R3). -/
def endCycle (m : Meter) (s : State) : State := s.withChannel m { s.channel m with cyclePos := 0 }

/-- FORWARD_PULSE (R7; log 25). -/
def execForwardPulse (m : Meter) (s : State) : Host.Outcome State Fault Refusal :=
  event (fun s => pulse .forward m (endCycle m s)) s

/-- A channel in SINGLE mode yields no reverse pulse (R3). -/
def reversePulse (m : Meter) (s : State) : State :=
  match s.meterMode m with
  | .quad => pulse .reverse m (endCycle m s)
  | .single => s

/-- REVERSE_PULSE (R8; log 25). -/
def execReversePulse (m : Meter) (s : State) : Host.Outcome State Fault Refusal := event (reversePulse m) s

/-- A channel in SINGLE mode yields no phase error (R3). -/
def phaseYield (m : Meter) (s : State) : State :=
  match s.meterMode m with
  | .quad => phaseError m (endCycle m s)
  | .single => s

/-- PHASE_ERROR (R9; log 25). -/
def execPhaseError (m : Meter) (s : State) : Host.Outcome State Fault Refusal := event (phaseYield m) s

/-! ## Observations (R3) -/

/-- The place of a line state in the forward order 00, 10, 11, 01. -/
def linePhase : LineState → Nat
  | ⟨false, false⟩ => 0
  | ⟨true, false⟩ => 1
  | ⟨true, true⟩ => 2
  | ⟨false, true⟩ => 3

/-- The four cases of an observation in QUAD mode. -/
inductive Quarter where
  | same | forward | both | backward
  deriving DecidableEq, Repr

def quarterOf (reference seen : LineState) : Quarter :=
  match (linePhase seen + 4 - linePhase reference) % 4 with
  | 0 => .same
  | 1 => .forward
  | 2 => .both
  | _ => .backward

def withDecoder (m : Meter) (reference : LineState) (pos : Int) (s : State) : State :=
  s.withChannel m { s.channel m with reference := some reference, cyclePos := pos }

/-- An observation in QUAD mode (R3). -/
def observeQuad (m : Meter) (reference seen : LineState) (s : State) : State :=
  let pos := (s.channel m).cyclePos
  match quarterOf reference seen with
  | .same => withDecoder m seen pos s
  | .forward =>
    if pos + 1 = 4 then pulse .forward m (withDecoder m seen 0 s) else withDecoder m seen (pos + 1) s
  | .backward =>
    if pos - 1 = -4 then pulse .reverse m (withDecoder m seen 0 s) else withDecoder m seen (pos - 1) s
  | .both => phaseError m (withDecoder m seen 0 s)

/-- An observation in SINGLE mode (R3). -/
def observeSingle (m : Meter) (reference seen : LineState) (s : State) : State :=
  let s1 := withDecoder m seen 0 s
  if seen.a && !reference.a then pulse .forward m s1 else s1

/-- The first observation sets the reference; the others are compared with it (R3). -/
def observe (m : Meter) (seen : LineState) (s : State) : State :=
  match (s.channel m).reference with
  | none => withDecoder m seen 0 s
  | some reference =>
    match s.meterMode m with
    | .quad => observeQuad m reference seen s
    | .single => observeSingle m reference seen s

/-- PULSER_OBSERVATION (R3; log 25). -/
def execPulserObservation (m : Meter) (lines : LineState) (s : State) : Host.Outcome State Fault Refusal :=
  event (observe m lines) s

end Sys2Proof.Machine
end

