-- ==== Sys2Proof/Machine/PowerEvents.lean ====
section
/-! DEFINITION. The events of the power sequence, the retained store and the night (chapters 10 and 11), each
over its operation of Power. -/

namespace Sys2Proof.Machine

open Sys2Proof

/-! ## Power warning and supply (R65, R174, R191, R192) -/

def setWarning (v : Bool) (l : Lines) : Lines := { l with warning := v }

/-- The line becomes asserted; one that is asserted already does not change (log 5). -/
def warningRaised (s : State) : State := if s.lines.warning then s else powerWarning s

/-- POWER_WARNING (R65, R177, R194, R196). -/
def execPowerWarning (s : State) : Host.Outcome State Fault Refusal :=
  lineEvent (setWarning true) warningRaised s

/-- The line becomes released (log 5). -/
def warningDropped (s : State) : State := if s.lines.warning then warningReleased s else s

/-- POWER_WARNING_RELEASE (R44, R65, R192). -/
def execPowerWarningRelease (s : State) : Host.Outcome State Fault Refusal :=
  lineEvent (setWarning false) warningDropped s

/-- POWER_ON (R182, R191); with the supply still there it is taken as a loss and a return (log 6). -/
def execPowerOn (s : State) : Host.Outcome State Fault Refusal :=
  .next (coldStart (if s.powered then loseSupply s else s))

/-- SUPPLY_LOST (R174; log 6). -/
def execSupplyLost (s : State) : Host.Outcome State Fault Refusal :=
  .next (if s.powered then loseSupply s else s)

/-! ## Stages (R179, R192 to R194) -/

/-- READ_ATTEMPT (R179). -/
def execReadAttempt (crcMatches : Bool) (s : State) : Host.Outcome State Fault Refusal :=
  event (readAttempt crcMatches) s

/-- SUPPLY_STEP (R192). -/
def execSupplyStep (s : State) : Host.Outcome State Fault Refusal := event supplyStep s

/-- DISPLAY_TEST_END (R115). -/
def execDisplayTestEnd (s : State) : Host.Outcome State Fault Refusal := event displayTestEnd s

/-- DISPLAYS_END (R115, R193). -/
def execDisplaysEnd (s : State) : Host.Outcome State Fault Refusal := event displaysEnd s

/-- WAIT_TIMER (R194). -/
def execWaitTimer (s : State) : Host.Outcome State Fault Refusal := event waitTimer s

/-! ## Store and night (R174, R188 to R190) -/

/-- WRITE_COMPLETE (R174, R175). -/
def execWriteComplete (readBackEqual : Bool) (s : State) : Host.Outcome State Fault Refusal :=
  event (writeComplete readBackEqual) s

/-- NIGHT_NOZZLE_WAKE (R188). -/
def execNightNozzleWake (s : State) : Host.Outcome State Fault Refusal := event nightNozzleWake s

/-- WAKE_TIMER (R188, R189). -/
def execWakeTimer (s : State) : Host.Outcome State Fault Refusal := event wakeExpired s

/-- CONFIRM_TIMER (R190). -/
def execConfirmTimer (s : State) : Host.Outcome State Fault Refusal := event confirmExpired s

end Sys2Proof.Machine
end

