-- ==== Sys2Proof/Machine/PriceRequests.lean ====
section
/-! DEFINITION. The price requests of port 0 (chapter 04): READ_PRICES, STAGE_PRICE, COMMIT_PRICES,
REPLACE_PRICE, DISCARD_STAGED. -/

namespace Sys2Proof.Machine

open Sys2Proof

/-! ## READ_PRICES (R76, R201) -/

/-- Sixteen entries, three bytes each, grade by grade and level by level. -/
def tableBytes (t : PriceTable) : List Byte :=
  Grade.all.flatMap fun g => be 3 (t.entry g .l1) ++ be 3 (t.entry g .l2)

def ownReadPrices (s : State) : Answered :=
  okData s (tableBytes s.ptu.active ++ be 2 s.ptu.generation ++
    byte1 (flagNum s.ptu.staged.isSome + 2 * flagNum s.ptu.pending) ++
    tableBytes (s.ptu.staged.getD .zero))

/-- READ_PRICES (R76). -/
def execReadPrices (m : AddrMode) (s : State) : Host.Outcome State Fault Refusal :=
  request m .readPrices ownReadPrices s

/-! ## STAGE_PRICE (R71) -/

/-- The staged table with one entry set; it is created as a copy of the active table with the flag clear. -/
def stageEntry (g : Grade) (l : Level) (price : Nat) (p : Prices) : Prices :=
  match p.staged with
  | some t => { p with staged := some (t.withEntry g l price) }
  | none => { p with staged := some (p.active.withEntry g l price), pending := false }

/-- Queue PRICES when the staged table or the flag has changed (R70). -/
def setStaged (p : Prices) (s : State) : State :=
  if p = s.ptu then s else requestWrite .prices (s.withPtu p)

def ownStagePrice (grade level price : Nat) (s : State) : Answered :=
  orRefuse .badField s (gradeOf grade) fun g =>
    orRefuse .badField s (levelOf level) fun l =>
      if Config.priceMax < price then refuse .badField s
      else okay (setStaged (stageEntry g l price s.ptu) s)

/-- STAGE_PRICE (R71). -/
def execStagePrice (m : AddrMode) (grade level price : Nat) (s : State) : Host.Outcome State Fault Refusal :=
  request m .stagePrice (ownStagePrice grade level price) s

/-! ## COMMIT_PRICES (R72, R73) -/

inductive CommitMode where
  | now | atPowerUp
  deriving DecidableEq, Repr

def commitModeOf : Nat → Option CommitMode
  | 1 => some .now
  | 2 => some .atPowerUp
  | _ => none

/-- A commit that passes the checks (R72, R73). -/
def commit (md : CommitMode) (t : PriceTable) (s : State) : State :=
  match md with
  | .now => commitStaged t s
  | .atPowerUp =>
    if s.ptu.pending then s else requestWrite .prices (s.withPtu { s.ptu with pending := true })

def ownCommitPrices (generation mode : Nat) (s : State) : Answered :=
  orRefuse .badField s (commitModeOf mode) fun md =>
    orRefuse .nothingStaged s s.ptu.staged fun t =>
      if generation = s.ptu.generation then okay (commit md t s) else refuse .stale s

/-- COMMIT_PRICES (R72, R73). -/
def execCommitPrices (m : AddrMode) (generation commitMode : Nat) (s : State) :
    Host.Outcome State Fault Refusal :=
  request m .commitPrices (ownCommitPrices generation commitMode) s

/-! ## REPLACE_PRICE (R74) -/

def ownReplacePrice (grade level old new : Nat) (s : State) : Answered :=
  orRefuse .badField s (gradeOf grade) fun g =>
    orRefuse .badField s (levelOf level) fun l =>
      if Config.priceMax < old ∨ Config.priceMax < new then refuse .badField s
      else if s.ptu.active.entry g l ≠ old then refuse .stale s
      else okay (setActive (s.ptu.active.withEntry g l new) s)

/-- REPLACE_PRICE (R74). -/
def execReplacePrice (m : AddrMode) (grade level old new : Nat) (s : State) :
    Host.Outcome State Fault Refusal :=
  request m .replacePrice (ownReplacePrice grade level old new) s

/-! ## DISCARD_STAGED (R75) -/

def ownDiscardStaged (s : State) : Answered :=
  okay (if s.ptu.staged.isSome then removeStaged s else s)

/-- DISCARD_STAGED (R75). -/
def execDiscardStaged (m : AddrMode) (s : State) : Host.Outcome State Fault Refusal :=
  request m .discardStaged ownDiscardStaged s

end Sys2Proof.Machine
end

