-- ==== Sys2Proof/Machine/SideEvents.lean ====
section
/-! DEFINITION. What happens to a side without a request (chapter 03): nozzles, the five timers, the drive
rail. -/

namespace Sys2Proof.Machine

open Sys2Proof

/-! ## Nozzles (R37, R39, R55, R58, R188) -/

def setNozzle (h : Hose) (v : Bool) (l : Lines) : Lines := { l with nozzle := l.nozzle.set h v }

/-- A lift that joins a side's list: CALLING, a start, or a wake (R39, R44, R188). Where a lift in NIGHT does both, the move
to CALLING with its call event comes before the wake; R39, R188 and R191 give these no order within the event: a DESIGN
CHOICE (log 46). Unsafe. -/
def sideLift (sd : Side) (h : Hose) (s : State) : State :=
  let s1 := testStart sd (followLifted sd (s.withLifted sd (s.lifted sd ++ [h])))
  if s1.psq.mode = .night ∧ s1.cfg.wake.nozzle.get sd = true then wake .nozzle s1 else s1

/-- A debounced lift; a switch that is lifted already does not change (R37; log 5). -/
def nozzleLift (h : Hose) (s : State) : State :=
  if s.lines.nozzle.get h then s
  else
    let s1 := s.withLines (setNozzle h true s.lines)
    match hoseSide s1.cfg.hoses h with
    | some sd => sideLift sd h s1
    | none => s1

/-- NOZZLE_LIFT (R37, R39, R44, R188). -/
def execNozzleLift (h : Hose) (s : State) : Host.Outcome State Fault Refusal :=
  lineEvent (setNozzle h true) (nozzleLift h) s

/-- The hang of the active hose (R55): before STOPPED it stops the sale; in STOPPED it may start the settle
timer (R58). -/
def hangActive (sd : Side) (s : State) : State :=
  match s.sideState sd with
  | .sale (.stopped e) ctx =>
    if ctx.hangSeen then s
    else s.withSideState sd
      (.sale (.stopped { e with settle := some (s.now + s.cfg.timers.settle) }) { ctx with hangSeen := true })
  | .sale p ctx =>
      stopSale sd .nozzleHung none (s.withSideState sd (.sale p { ctx with hangSeen := true }))
  | _ => s

/-- The side's sale has the hose active. -/
def activeHose (s : State) (sd : Side) (h : Hose) : Bool :=
  match (s.sideState sd).sale? with
  | some ctx => ctx.hose == h
  | none => false

/-- A hang that leaves a side's list (R37, R39, R44, R45, R55). -/
def sideHang (sd : Side) (h : Hose) (s : State) : State :=
  let s1 := s.withLifted sd ((s.lifted sd).filter (· ≠ h))
  if activeHose s1 sd h then hangActive sd s1 else testStart sd (followLifted sd s1)

/-- A debounced hang; a switch that is hung already does not change (R37; log 5). -/
def nozzleHang (h : Hose) (s : State) : State :=
  if s.lines.nozzle.get h = false then s
  else
    let s1 := s.withLines (setNozzle h false s.lines)
    match hoseSide s1.cfg.hoses h with
    | some sd => sideHang sd h s1
    | none => s1

/-- NOZZLE_HANG (R37, R55). -/
def execNozzleHang (h : Hose) (s : State) : Host.Outcome State Fault Refusal :=
  lineEvent (setNozzle h false) (nozzleHang h) s

/-! ## Timers of a side (R42, R47, R50, R51, R58; log 2) -/

/-- The authorization expires (R42). -/
def authExpires (sd : Side) (s : State) : State :=
  match s.sideState sd with
  | .authorized a =>
    match a.timer with
    | some d => enterOpen sd (raise .authExpired (s.expireAt d))
    | none => s
  | _ => s

/-- AUTH_TIMER (R42). -/
def execAuthTimer (sd : Side) (s : State) : Host.Outcome State Fault Refusal := event (authExpires sd) s

/-- The zero timer expires (R47). -/
def zeroExpires (sd : Side) (s : State) : State :=
  match s.sideState sd with
  | .sale (.starting d) ctx =>
    let s1 := s.expireAt d
    if ctx.zeroVerified then actOnQuery sd ctx s1 else stopSale sd .displayFault none s1
  | _ => s

/-- ZERO_TIMER (R47). -/
def execZeroTimer (sd : Side) (s : State) : Host.Outcome State Fault Refusal := event (zeroExpires sd) s

/-- The no-flow timer expires (R50). -/
def noFlowExpires (sd : Side) (s : State) : State :=
  match s.sideState sd with
  | .sale (.fuelling d) _ => stopSale sd .noFlow none (s.expireAt d)
  | .sale (.slowing d) _ => stopSale sd .noFlow none (s.expireAt d)
  | _ => s

/-- NO_FLOW (R50). -/
def execNoFlow (sd : Side) (s : State) : Host.Outcome State Fault Refusal := event (noFlowExpires sd) s

/-- The suspend timer expires (R51). -/
def suspendExpires (sd : Side) (s : State) : State :=
  match s.sideState sd with
  | .sale (.suspended d) _ => stopSale sd .suspendTimeout none (s.expireAt d)
  | _ => s

/-- SUSPEND_TIMEOUT (R51). -/
def execSuspendTimeout (sd : Side) (s : State) : Host.Outcome State Fault Refusal := event (suspendExpires sd) s

/-- The settle timer expires: the sale completes (R58, R59). -/
def settleExpires (sd : Side) (s : State) : State :=
  match s.sideState sd with
  | .sale (.stopped e) _ =>
    match e.settle with
    | some d => completeSale sd (s.expireAt d)
    | none => s
  | _ => s

/-- SETTLE_TIMER (R58, R59). -/
def execSettleTimer (sd : Side) (s : State) : Host.Outcome State Fault Refusal := event (settleExpires sd) s

/-! ## Drive rail (R63, R64) -/

def setRail (v : Bool) (l : Lines) : Lines := { l with railGood := v }

/-- A side takes the release of the drive-rail-good line (R64). -/
def railFault (sd : Side) (s : State) : State := renewBlocked sd (stopSale sd .supplyFault none s)

/-- The line is released; one that is released already does not change (log 5). -/
def railDown (s : State) : State :=
  if s.lines.railGood then railFault .b (railFault .a (s.withLines (setRail false s.lines))) else s

/-- DRIVE_RAIL_DOWN (R64). -/
def execDriveRailDown (s : State) : Host.Outcome State Fault Refusal := lineEvent (setRail false) railDown s

/-- The line is asserted: every side in AUTHORIZED tests its start condition (R64; log 5). -/
def railUp (s : State) : State :=
  if s.lines.railGood then s else testStart .b (testStart .a (s.withLines (setRail true s.lines)))

/-- DRIVE_RAIL_UP (R64). -/
def execDriveRailUp (s : State) : Host.Outcome State Fault Refusal := lineEvent (setRail true) railUp s

end Sys2Proof.Machine
end

