-- ==== Sys2Proof/Machine/Tunnel.lean ====
section
/-! DEFINITION. The tunnel requests of ports 1 and 2 (chapter 07): a frame for a reader and a fetch. -/

namespace Sys2Proof.Machine

open Sys2Proof

/-! ## A frame for a reader (R124) -/

/-- A frame that a row forwards (R124). -/
def forwardDown (sd : Side) (payload : List Byte) (s : State) : Answered :=
  if (s.reader sd).state ≠ .attached then refuse .readerUnavailable s
  else if 2 ≤ (s.reader sd).down.length then refuse .busy s
  else
    ⟨s.withReader sd { s.reader sd with down := (s.reader sd).down ++ [payload] }, .accepted, [], none⟩

/-- R124: the length, then the classification with the source of the port. A SUPERVISOR row with a site
source cannot be loaded (R123); one held all the same is answered NO_ROUTE (log 32). -/
def ownTunnel (sd : Side) (payload : List Byte) (s : State) : Answered :=
  if Config.readerFrameMax < payload.length then refuse .badLength s
  else match classifyFrame s.cfg.routes (.site sd) payload with
    | .tooLong => refuse .refused s
    | .noRow => refuse .noRoute s
    | .act .drop => ⟨countDrop sd s, .accepted, [], none⟩
    | .act .violation => ⟨countViolation sd s, .refused, [], none⟩
    | .act .supervisor => refuse .noRoute s
    | .act .forward => forwardDown sd payload s

/-- A tunnel frame (R124). -/
def execTunnel (m : AddrMode) (reader : Side) (payload : List Byte) (s : State) :
    Host.Outcome State Fault Refusal :=
  request m (.tunnel reader) (ownTunnel reader payload) s

/-! ## A fetch (R126, R201) -/

def fetchBytes (st : ReaderState) (left : Nat) (payload : List Byte) : List Byte :=
  byte1 st.num ++ byte1 st.offNum ++ byte1 left ++ byte1 payload.length ++ payload

def ownFetch (sd : Side) (s : State) : Answered :=
  let r := s.reader sd
  match r.up with
  | [] => okData s (fetchBytes r.state 0 [])
  | payload :: rest => okData (s.withReader sd { r with up := rest }) (fetchBytes r.state rest.length payload)

/-- A fetch (R126). -/
def execFetch (m : AddrMode) (reader : Side) (s : State) : Host.Outcome State Fault Refusal :=
  request m (.fetch reader) (ownFetch reader) s

end Sys2Proof.Machine
end

