-- ==== Sys2Proof/Machine/SiteLine.lean ====
section
/-! DEFINITION. The site line (chapter 08): the error counter, the receiver, acceptance of a good frame, the
wake filter, and the sending of replies. -/

namespace Sys2Proof.Machine

open Sys2Proof

/-! ## The site error counter (R144, R155, R186) -/

/-- The overflow flag becomes set: LINK_DEGRADED, and in NIGHT the night overflow mark (R144, R186; log 29). -/
def setOverflow (s : State) : State :=
  if s.sli.overflow then s
  else
    let s1 := raise .linkDegraded (s.withSli { s.sli with overflow := true })
    if s1.psq.mode = .night then s1.withPsq { s1.psq with overflowMark := true } else s1

/-- One counted error (R144, R155). -/
def countError (s : State) : State :=
  let s1 := s.withSli { s.sli with frameErrors := wrap32 (s.sli.frameErrors + 1) }
  if s1.sli.errors < s1.cfg.thresholds.site then s1.withSli { s1.sli with errors := s1.sli.errors + 1 }
  else setOverflow s1

/-- One good frame (R144). -/
def countGood (s : State) : State :=
  s.withSli { s.sli with
    errors := s.sli.errors - 1
    overflow := s.sli.overflow && decide (1 < s.sli.errors) }

def withReceiver (r : Receiver) (s : State) : State := s.withSli { s.sli with rx := r }

/-! ## The request of a frame (R146 to R148) -/

/-- The owner of a request. -/
def ownerOf : Instr → Option (State → Answered)
  | .poll _ => some ownPoll
  | .clearEvents _ mask => some (ownClearEvents mask)
  | .authorize _ side saleId allowed level limitType limitValue =>
      some (ownAuthorize side saleId allowed level limitType limitValue)
  | .suspend _ side => some (ownSuspend side)
  | .resume _ side => some (ownResume side)
  | .stop _ side => some (ownStop side)
  | .clearSale _ side saleId => some (ownClearSale side saleId)
  | .readSale _ side kind value => some (ownReadSale side kind value)
  | .readLive _ side => some (ownReadLive side)
  | .readPrices _ => some ownReadPrices
  | .stagePrice _ grade level price => some (ownStagePrice grade level price)
  | .commitPrices _ generation commitMode => some (ownCommitPrices generation commitMode)
  | .replacePrice _ grade level old new => some (ownReplacePrice grade level old new)
  | .discardStaged _ => some ownDiscardStaged
  | .enterNight m delay => some (ownEnterNight m delay)
  | .readIdent _ => some ownReadIdent
  | .setAddress _ address group => some (ownSetAddress address group)
  | .setLine _ speed => some (ownSetLine speed)
  | .setHose _ hose assigned side position grade primary secondary =>
      some (ownSetHose hose assigned side position grade primary secondary)
  | .setMeter _ meter mode k trim ra sa fmax => some (ownSetMeter meter mode k trim ra sa fmax)
  | .setScale _ dv dp da rounding => some (ownSetScale dv dp da rounding)
  | .setTimers _ t => some (ownSetTimers t)
  | .setThresholds _ margin reader site feedA feedB =>
      some (ownSetThresholds margin reader site feedA feedB)
  | .setRoute _ row inUse source low high maxLen action =>
      some (ownSetRoute row inUse source low high maxLen action)
  | .clearRoute _ row => some (ownClearRoute row)
  | .readRoute _ row => some (ownReadRoute row)
  | .setWake _ w => some (ownSetWake w)
  | .armWake _ => some ownArmWake
  | .openSide _ side => some (ownOpenSide side)
  | .closeSide _ side => some (ownCloseSide side)
  | .readerAttach _ reader => some (ownReaderAttach reader)
  | .readerIsolate _ reader => some (ownReaderIsolate reader)
  | .readConfig _ sect meter => some (ownReadConfig sect meter)
  | .readJournal _ index => some (ownReadJournal index)
  | .readTotals _ => some ownReadTotals
  | .readCounters _ => some ownReadCounters
  | .restart _ => some ownRestart
  | .tunnel _ reader payload => some (ownTunnel reader payload)
  | .fetch _ reader => some (ownFetch reader)
  | _ => none

/-- A request read from a frame goes the way of the request command. -/
def takeInstr (i : Instr) (s : State) : State :=
  match i.request?, ownerOf i with
  | some (k, m), some owner => takeRequest m k owner s
  | _, _ => s

/-- The SLI refuses a request: a unicast one is answered, a group or broadcast one ignored (R148). -/
def sliRefuse (m : AddrMode) (port code : Nat) (r : Result) (s : State) : State :=
  sendReply m (replyFrame s.sli.line.address port code r []) none s

/-- The checks of R148 on an accepted frame. -/
def takeFrame (m : AddrMode) (port : Nat) (payload : List Byte) (s : State) : State :=
  match readKind port payload with
  | .empty => sliRefuse m port 0 .badLength s
  | .unknown code => sliRefuse m port code .unknown s
  | .kind k =>
    if k.allows m = false then countModeReject s
    else if lengthRight k payload then takeInstr (requestOf k m payload) s
    else sliRefuse m port k.code .badLength s

/-- Acceptance (R146). -/
inductive Acceptance where
  | notForUs
  | unusedMode
  | accepted (m : AddrMode)
  deriving DecidableEq, Repr

/-- The address mode and the target of an address byte (Table 12.1). -/
def acceptanceOf (l : LineSettings) (address : Byte) : Acceptance :=
  match address.toNat / 64 with
  | 0 => if address.toNat % 64 = l.address then .accepted .unicast else .notForUs
  | 1 => if address.toNat % 64 = l.group then .accepted .group else .notForUs
  | 3 => .accepted .broadcast
  | _ => .unusedMode

/-- The direction of a port byte: true for a dispenser's reply (Table 12.1). -/
def isReply (port : Byte) : Bool := port.getLsbD 7

/-- The port number of a port byte; its other bits are not examined (R146). -/
def portNumber (port : Byte) : Nat := port.toNat % 4

def acceptFrame (address port : Byte) (payload : List Byte) (s : State) : State :=
  match acceptanceOf s.sli.line address with
  | .notForUs => s
  | .unusedMode => countModeReject s
  | .accepted m => takeFrame m (portNumber port) payload s

/-! ## The wake filter (R187, R188) -/

/-- A byte agrees with a value in every bit its mask has set; a byte that is not there agrees only under a
mask of 0. -/
def Masked.agrees (f : Masked) : Option Byte → Bool
  | some b => b &&& f.mask == f.value &&& f.mask
  | none => f.mask == 0#8

/-- A value that is ANY or equals. -/
def anyOrEqual (f : Option Nat) (v : Nat) : Bool :=
  match f with
  | none => true
  | some n => n == v

/-- The match of R187 for a frame of direction 0. -/
def filterMatches (w : Wake) (address port : Byte) (payload : List Byte) : Bool :=
  w.address.agrees (some address) && anyOrEqual w.port (portNumber port) &&
  w.code.agrees payload[0]? && anyOrEqual w.length payload.length &&
  w.data.p1.agrees payload[1]? && w.data.p2.agrees payload[2]? &&
  w.data.p3.agrees payload[3]? && w.data.p4.agrees payload[4]?

/-- A frame that wakes the part: in NIGHT, the filter armed, the frame matching (R188). -/
def filterWakes (s : State) (address port : Byte) (payload : List Byte) : Bool :=
  s.psq.mode == .night && s.cfg.wake.armed && filterMatches s.cfg.wake address port payload

/-- A good frame after its count (R146, R157, R188). -/
def goodFrame (address port : Byte) (payload : List Byte) (s : State) : State :=
  if isReply port then s
  else if filterWakes s address port payload then wake .filter (acceptFrame address port payload s)
  else acceptFrame address port payload s

/-! ## The receiver (R143, R157, R188) -/

/-- A start byte taken in HUNT; in NIGHT it may wake the part (R157, R188). -/
def frameStart (s : State) : State :=
  let s1 := withReceiver (.frame []) s
  if s1.psq.mode = .night ∧ (s1.cfg.wake.armed = false ∨ s1.psq.overflowMark = true) then wake .fallback s1
  else s1

/-- What the bytes of a frame so far are. -/
inductive Collected where
  | more
  | badLength
  | complete (address port : Byte) (payload : List Byte) (body : List Byte) (check : Nat)
  deriving DecidableEq, Repr

/-- The bytes after the start byte: address, port, length, payload, check (R143). -/
def collect : List Byte → Collected
  | address :: port :: len :: rest =>
    if maxSitePayload < len.toNat then .badLength
    else if rest.length = len.toNat + 2 then
      .complete address port (rest.take len.toNat) (address :: port :: len :: rest.take len.toNat)
        (natOf (rest.drop len.toNat))
    else .more
  | _ => .more

/-- An error abandons the frame (R143). -/
def abandonFrame (s : State) : State := countError (withReceiver .waitQuiet s)

/-- A byte in FRAME (R143, R144). -/
def frameByte (got : List Byte) (s : State) : State :=
  match collect got with
  | .more => withReceiver (.frame got) s
  | .badLength => abandonFrame s
  | .complete address port payload body check =>
    if (crc16 body).toNat = check then goodFrame address port payload (countGood (withReceiver .hunt s))
    else abandonFrame s

/-- A character reaches the receiver (R143). -/
def receive (c : SiteChar) (s : State) : State :=
  match s.sli.rx, c with
  | .waitQuiet, _ => s
  | .hunt, .byte b => if b = siteStart then frameStart s else withReceiver .waitQuiet s
  | .hunt, _ => abandonFrame s
  | .frame got, .byte b => frameByte (got ++ [b]) s
  | .frame _, _ => abandonFrame s

/-- A character on the line: ignored while a reply is being sent; it abandons a reply in waiting (R143,
R149). -/
def siteChar (c : SiteChar) (s : State) : State :=
  match s.sli.tx with
  | .sending _ _ => s
  | .idle => receive c s
  | .waiting _ _ => receive c (finish (abandonReply s))
  | .gap _ => receive c (finish (abandonReply s))

/-- SITE_CHARACTER (R143). -/
def execSiteCharacter (c : SiteChar) (s : State) : Host.Outcome State Fault Refusal := event (siteChar c) s

/-- More than 2 ms of silence (R143). -/
def quiet (s : State) : State :=
  match s.sli.rx with
  | .waitQuiet => if s.sli.tx.isSending then s else withReceiver .hunt s
  | _ => s

/-- LINE_QUIET (R143). -/
def execLineQuiet (s : State) : Host.Outcome State Fault Refusal := event quiet s

/-- More than 2 ms between two characters of a frame (R143). -/
def gapInFrame (s : State) : State :=
  match s.sli.rx with
  | .frame _ => if s.sli.tx.isSending then s else abandonFrame s
  | _ => s

/-- FRAME_GAP (R143). -/
def execFrameGap (s : State) : Host.Outcome State Fault Refusal := event gapInFrame s

/-- The characters of a whole frame, each an event of its own (R143; log 4). -/
def feed (l : List Byte) (s : State) : State := l.foldl (fun s b => finish (siteChar (.byte b) s)) s

/-- The bytes of a frame on the line. -/
def frameOnLine (address port : Byte) (payload : List Byte) (check : Word16) : List Byte :=
  siteStart :: siteBody address port payload ++ crcBytes check

/-- SITE_FRAME (R146; log 4). -/
def execSiteFrame (address port : Byte) (payload : List Byte) (check : Word16) (s : State) :
    Host.Outcome State Fault Refusal :=
  event (feed (frameOnLine address port payload check)) s

/-! ## Replies (R142, R149, R201) -/

/-- A reply in waiting begins (R149). -/
def replySend (s : State) : State :=
  match s.sli.tx with
  | .waiting r more => s.withSli { s.sli with tx := .sending r more }
  | _ => s

/-- REPLY_SEND (R149). -/
def execReplySend (s : State) : Host.Outcome State Fault Refusal := event replySend s

/-- The last character of a reply has been sent: the receiver is in HUNT; what waited for the reply takes
effect, unless part 2 of READ_TOTALS is still to come (R142, R143, R201). -/
def replySent (s : State) : State :=
  match s.sli.tx with
  | .sending _ none => replyEnded (s.withSli { s.sli with tx := .idle, rx := .hunt })
  | .sending _ (some second) => s.withSli { s.sli with tx := .gap second, rx := .hunt }
  | _ => s

/-- REPLY_SENT (R142, R143). -/
def execReplySent (s : State) : Host.Outcome State Fault Refusal := event replySent s

/-- Part 2 begins (R201). -/
def totalsSecond (s : State) : State :=
  match s.sli.tx with
  | .gap second => s.withSli { s.sli with tx := .sending second none }
  | _ => s

/-- TOTALS_PART_2 (R201). -/
def execTotalsPart2 (s : State) : Host.Outcome State Fault Refusal := event totalsSecond s

end Sys2Proof.Machine
end

