-- ==== Sys2Proof/Machine/Dispatch.lean ====
section
/-! DEFINITION. One arm per command: a direct call of its meaning. -/

namespace Sys2Proof.Machine

open Sys2Proof

def exec (i : Instr) (s : State) : Host.Outcome State Fault Refusal :=
  match i with
  | .poll m => Sys2Proof.Machine.execPoll m s
  | .clearEvents m mask => Sys2Proof.Machine.execClearEvents m mask s
  | .authorize m side saleId allowed level limitType limitValue => Sys2Proof.Machine.execAuthorize m side saleId allowed level limitType limitValue s
  | .suspend m side => Sys2Proof.Machine.execSuspend m side s
  | .resume m side => Sys2Proof.Machine.execResume m side s
  | .stop m side => Sys2Proof.Machine.execStop m side s
  | .clearSale m side saleId => Sys2Proof.Machine.execClearSale m side saleId s
  | .readSale m side kind value => Sys2Proof.Machine.execReadSale m side kind value s
  | .readLive m side => Sys2Proof.Machine.execReadLive m side s
  | .readPrices m => Sys2Proof.Machine.execReadPrices m s
  | .stagePrice m grade level price => Sys2Proof.Machine.execStagePrice m grade level price s
  | .commitPrices m generation commitMode => Sys2Proof.Machine.execCommitPrices m generation commitMode s
  | .replacePrice m grade level old new => Sys2Proof.Machine.execReplacePrice m grade level old new s
  | .discardStaged m => Sys2Proof.Machine.execDiscardStaged m s
  | .enterNight m delay => Sys2Proof.Machine.execEnterNight m delay s
  | .readIdent m => Sys2Proof.Machine.execReadIdent m s
  | .setAddress m address group => Sys2Proof.Machine.execSetAddress m address group s
  | .setLine m speed => Sys2Proof.Machine.execSetLine m speed s
  | .setHose m hose assigned side position grade primary secondary => Sys2Proof.Machine.execSetHose m hose assigned side position grade primary secondary s
  | .setMeter m meter mode k trim ra sa fmax => Sys2Proof.Machine.execSetMeter m meter mode k trim ra sa fmax s
  | .setScale m dv dp da rounding => Sys2Proof.Machine.execSetScale m dv dp da rounding s
  | .setTimers m t => Sys2Proof.Machine.execSetTimers m t s
  | .setThresholds m margin reader site feedA feedB => Sys2Proof.Machine.execSetThresholds m margin reader site feedA feedB s
  | .setRoute m row inUse source low high maxLen action => Sys2Proof.Machine.execSetRoute m row inUse source low high maxLen action s
  | .clearRoute m row => Sys2Proof.Machine.execClearRoute m row s
  | .readRoute m row => Sys2Proof.Machine.execReadRoute m row s
  | .setWake m w => Sys2Proof.Machine.execSetWake m w s
  | .armWake m => Sys2Proof.Machine.execArmWake m s
  | .openSide m side => Sys2Proof.Machine.execOpenSide m side s
  | .closeSide m side => Sys2Proof.Machine.execCloseSide m side s
  | .readerAttach m reader => Sys2Proof.Machine.execReaderAttach m reader s
  | .readerIsolate m reader => Sys2Proof.Machine.execReaderIsolate m reader s
  | .readConfig m sect meter => Sys2Proof.Machine.execReadConfig m sect meter s
  | .readJournal m index => Sys2Proof.Machine.execReadJournal m index s
  | .readTotals m => Sys2Proof.Machine.execReadTotals m s
  | .readCounters m => Sys2Proof.Machine.execReadCounters m s
  | .restart m => Sys2Proof.Machine.execRestart m s
  | .tunnel m reader payload => Sys2Proof.Machine.execTunnel m reader payload s
  | .fetch m reader => Sys2Proof.Machine.execFetch m reader s
  | .siteCharacter c => Sys2Proof.Machine.execSiteCharacter c s
  | .lineQuiet => Sys2Proof.Machine.execLineQuiet s
  | .frameGap => Sys2Proof.Machine.execFrameGap s
  | .siteFrame address port payload check => Sys2Proof.Machine.execSiteFrame address port payload check s
  | .replySend => Sys2Proof.Machine.execReplySend s
  | .replySent => Sys2Proof.Machine.execReplySent s
  | .totalsPart2 => Sys2Proof.Machine.execTotalsPart2 s
  | .localFrameSent => Sys2Proof.Machine.execLocalFrameSent s
  | .localAnswer ans => Sys2Proof.Machine.execLocalAnswer ans s
  | .localNoAnswer => Sys2Proof.Machine.execLocalNoAnswer s
  | .localCharacterGap => Sys2Proof.Machine.execLocalCharacterGap s
  | .slotLimit => Sys2Proof.Machine.execSlotLimit s
  | .lossTimer m => Sys2Proof.Machine.execLossTimer m s
  | .probeTimer reader => Sys2Proof.Machine.execProbeTimer reader s
  | .holdTimer reader => Sys2Proof.Machine.execHoldTimer reader s
  | .tamperActive reader => Sys2Proof.Machine.execTamperActive reader s
  | .tamperInactive reader => Sys2Proof.Machine.execTamperInactive reader s
  | .forwardPulse m => Sys2Proof.Machine.execForwardPulse m s
  | .reversePulse m => Sys2Proof.Machine.execReversePulse m s
  | .phaseError m => Sys2Proof.Machine.execPhaseError m s
  | .nozzleLift h => Sys2Proof.Machine.execNozzleLift h s
  | .nozzleHang h => Sys2Proof.Machine.execNozzleHang h s
  | .authTimer sd => Sys2Proof.Machine.execAuthTimer sd s
  | .zeroTimer sd => Sys2Proof.Machine.execZeroTimer sd s
  | .noFlow sd => Sys2Proof.Machine.execNoFlow sd s
  | .suspendTimeout sd => Sys2Proof.Machine.execSuspendTimeout sd s
  | .settleTimer sd => Sys2Proof.Machine.execSettleTimer sd s
  | .driveRailDown => Sys2Proof.Machine.execDriveRailDown s
  | .driveRailUp => Sys2Proof.Machine.execDriveRailUp s
  | .powerWarning => Sys2Proof.Machine.execPowerWarning s
  | .powerWarningRelease => Sys2Proof.Machine.execPowerWarningRelease s
  | .powerOn => Sys2Proof.Machine.execPowerOn s
  | .supplyLost => Sys2Proof.Machine.execSupplyLost s
  | .readAttempt crcMatches => Sys2Proof.Machine.execReadAttempt crcMatches s
  | .supplyStep => Sys2Proof.Machine.execSupplyStep s
  | .displayTestEnd => Sys2Proof.Machine.execDisplayTestEnd s
  | .displaysEnd => Sys2Proof.Machine.execDisplaysEnd s
  | .waitTimer => Sys2Proof.Machine.execWaitTimer s
  | .writeComplete readBackEqual => Sys2Proof.Machine.execWriteComplete readBackEqual s
  | .nightNozzleWake => Sys2Proof.Machine.execNightNozzleWake s
  | .wakeTimer => Sys2Proof.Machine.execWakeTimer s
  | .confirmTimer => Sys2Proof.Machine.execConfirmTimer s
  | .pulserObservation m lines => Sys2Proof.Machine.execPulserObservation m lines s

end Sys2Proof.Machine
end

