-- ==== Sys2Proof/Safety.lean ====
section
/-! DEFINITION. What a safe run of the part keeps, as predicates over a state, and the words that the
statements share: a state between two events, a state in which a request is served, a state with a reply. -/

namespace Sys2Proof.Machine

open Sys2Proof

/-! ## Between two events -/

/-- Nothing is left over from the last event: a write that may begin has begun, and a drain that has ended
has been acted on (R174, R178). -/
abbrev State.Settled (s : State) : Prop :=
  (s.nvs.job = none → s.nvs.load = .none → s.nvs.queue = []) ∧
  (s.nightDraining = true → storeIdle s = false) ∧
  (s.restartDraining = true → storeIdle s = false)

/-- A state of a part with supply is settled; without supply nothing is asked of it. -/
abbrev State.SettledIfPowered (s : State) : Prop := s.powered = true → s.Settled

/-- A part with supply, between two events. -/
abbrev State.Live (s : State) : Prop := s.powered = true ∧ s.Settled

/-- A request is served: the part is in RUN, no restart drain runs, and no reply waits or is being sent
(R149, R183). -/
abbrev State.Serves (s : State) : Prop :=
  s.powered = true ∧ s.psq.mode = .run ∧ s.psq.restart ≠ .draining ∧ s.sli.tx = .idle ∧ s.Settled

/-- A request is taken and answered, if not always served: the part has supply, it is not in NIGHT, and no reply
waits or is being sent (R149, R157, R183). -/
abbrev State.Answers (s : State) : Prop :=
  s.powered = true ∧ s.psq.mode ≠ .night ∧ s.sli.tx = .idle ∧ s.Settled

/-- A request that reads is served in FAILSAFE as it is in RUN, outside the restart drain (R183). -/
abbrev State.ServesReads (s : State) : Prop :=
  s.Answers ∧ (s.psq.mode = .run ∨ s.psq.mode = .failsafe) ∧ s.psq.restart ≠ .draining

/-- An address byte of a frame in an address mode for this dispenser (R146, Table 12.1). -/
def State.addressed (s : State) (m : AddrMode) (address : Byte) : Bool :=
  match m with
  | .unicast => decide (address.toNat = s.sli.line.address) && decide (address.toNat < 64)
  | .group => decide (address.toNat = 64 + s.sli.line.group) && decide (address.toNat < 128)
  | .broadcast => decide (192 ≤ address.toNat)

/-- The SLI's own refusal: a unicast frame is answered with its code, a group or broadcast one ignored (R148). -/
def State.withRefusal (s : State) (m : AddrMode) (port code : Nat) (r : Result) : State :=
  match m with
  | .unicast => s.withSli { s.sli with tx := .waiting (replyFrame s.sli.line.address port code r []) none }
  | .group => s
  | .broadcast => s

/-- The state with a reply put in waiting (R149). -/
def State.withReply (s : State) (k : ReqKind) (r : Result) (data : List Byte) : State :=
  s.withSli { s.sli with tx := .waiting (replyFrame s.sli.line.address k.port k.code r data) none }

/-- A unicast request that changes nothing of its owner's: the wake confirm (R190) and the reply (R149). -/
def State.answeredWith (s : State) (k : ReqKind) (r : Result) (data : List Byte) : State :=
  (confirmWake .unicast s).withReply k r data

/-- The reply of a request in one of the address modes: a unicast one alone is answered (R149). -/
def State.withReplyIn (s : State) (m : AddrMode) (k : ReqKind) (r : Result) : State :=
  match m with
  | .unicast => s.withReply k r []
  | .group => s
  | .broadcast => s

/-! ## Retained store (R173, R175) -/

/-- Each kind is queued at most once, and the failure counts lie in 0..3. -/
def State.StoreOk (s : State) : Prop :=
  s.nvs.queue.Nodup ∧ s.nvs.fail.config ≤ 3 ∧ s.nvs.fail.prices ≤ 3 ∧ s.nvs.fail.metrology ≤ 3

/-! ## Prices (R67 to R69) -/

/-- Every entry lies in 0..99,999. -/
def PriceTable.Legal (t : PriceTable) : Prop :=
  ∀ g ∈ Grade.all, t.entry g .l1 ≤ Config.priceMax ∧ t.entry g .l2 ≤ Config.priceMax

/-- Legal tables, a generation in 0..65535, and no pending flag without a staged table. -/
def Prices.Legal (p : Prices) : Prop :=
  p.active.Legal ∧ p.generation ≤ 65535 ∧
  (∀ t, p.staged = some t → t.Legal) ∧ (p.staged = none → p.pending = false)

/-- Prices in force, retained, and being written. -/
def State.PricesOk (s : State) : Prop :=
  s.ptu.Legal ∧ (∀ p, s.nvs.prices = some p → p.Legal) ∧
  (∀ j p, s.nvs.job = some j → j.content = .prices p → p.Legal)

/-! ## Hose map (R163) -/

/-- Two assigned hoses never hold one side and position, no hose names one meter twice, and no meter is named
by hoses of both sides. -/
def MapLegal (map : PerHose (Option HoseRec)) : Prop :=
  (∀ h k q r, map.get h = some q → map.get k = some r → h ≠ k → q.side = r.side → q.position ≠ r.position) ∧
  (∀ h q, map.get h = some q → q.secondary ≠ some q.primary) ∧
  (∀ h k q r m, map.get h = some q → map.get k = some r → q.names m = true → r.names m = true →
    q.side = r.side)

/-- The map in force, retained, and being written. -/
def State.MapOk (s : State) : Prop :=
  MapLegal s.cfg.hoses ∧ (∀ c, s.nvs.config = some c → MapLegal c.hoses) ∧
  (∀ j c, s.nvs.job = some j → j.content = .config c → MapLegal c.hoses)

/-! ## Readers (R118, R119) -/

/-- Cut off: OFF, QUARANTINED or TAMPERED. -/
def ReaderState.cut : ReaderState → Bool
  | .off _ => true
  | .quarantined => true
  | .tampered => true
  | .probing => false
  | .attached => false

/-- A reader that is cut off holds no frames, and its counter lies in 0..threshold. -/
def ReaderRec.Legal (r : ReaderRec) (threshold : Nat) : Prop :=
  (r.state.cut = true → r.up = [] ∧ r.down = []) ∧ r.err ≤ threshold

def State.ReadersOk (s : State) : Prop :=
  s.riu.a.Legal s.cfg.thresholds.reader ∧ s.riu.b.Legal s.cfg.thresholds.reader

/-! ## Site line (R144) -/

/-- The counter lies in 0..threshold and the overflow flag is set only while it is above 0; the threshold in
force, retained, and being written is at least 1. -/
def State.LineOk (s : State) : Prop :=
  s.sli.errors ≤ s.cfg.thresholds.site ∧ (s.sli.overflow = true → 0 < s.sli.errors) ∧
  1 ≤ s.cfg.thresholds.site ∧ (∀ c, s.nvs.config = some c → 1 ≤ c.thresholds.site) ∧
  (∀ j c, s.nvs.job = some j → j.content = .config c → 1 ≤ c.thresholds.site)

/-! ## Sales (R36, R66, R182) -/

/-- An authorization or a sale. -/
def SideState.busy : SideState → Bool
  | .authorized _ => true
  | .sale _ _ => true
  | _ => false

/-- An authorization or a sale is held only in RUN, with no night request, no restart and no unconfirmed
wake; and what the sequencer holds beside the mode fits the mode. -/
def State.SalesOk (s : State) : Prop :=
  (∀ sd, (s.sideState sd).busy = true →
    s.psq.mode = .run ∧ s.psq.night = none ∧ s.psq.restart = .none ∧ s.psq.confirmTimer = none) ∧
  (s.psq.night ≠ none ∨ s.psq.confirmTimer ≠ none → s.psq.mode = .run ∧ s.psq.restart = .none) ∧
  (s.psq.restart ≠ .none → s.psq.mode = .run ∨ s.psq.mode = .failsafe) ∧
  (s.psq.restart = .replying → s.sli.tx ≠ .idle)

/-- The side holds a sale that has delivered something (R59, R87). -/
def State.delivers (s : State) (sd : Side) : Bool :=
  match (s.sideState sd).sale? with
  | none => false
  | some ctx => decide (ctx.figures.volume ≠ 0) || decide (ctx.figures.amount ≠ 0)

/-- The whole record of a sale that ends as `e` says and completes in this state, under a sequence number (R85,
R86). -/
def State.recordOf (s : State) (sd : Side) (seq : Nat) (e : Ended) (ctx : Sale) : SaleRecord :=
  { seq := seq
    saleId := ctx.saleId
    side := sd
    hose := ctx.hose
    position := ctx.position
    grade := ctx.latch.grade
    level := ctx.latch.level
    price := ctx.latch.price
    generation := ctx.latch.generation
    limit := ctx.limit
    volume := ctx.figures.volume
    amount := ctx.figures.amount
    high := ctx.primaryCt.high
    reverse := ctx.primaryCt.reverse
    secondary := match ctx.secondary with
      | none => none
      | some (_, c) => some (c.high, c.reverse)
    overrun := ctx.figures.volume - e.volumeClosed
    endReason := e.reason
    faultMeter := e.faultMeter
    saturated := ctx.figures.saturated
    scale := ctx.figures.scale
    duration := min ((s.now - ctx.figures.start) / 1000) 65535 }

/-- How a sale ends that the power warning completes: one in STOPPED keeps its end, any other ends with POWER_FAIL at
the volume it has reached (R65). -/
def Phase.endAtWarning (p : Phase) (ctx : Sale) : Ended :=
  match p with
  | .stopped e => e
  | _ => ⟨.powerFail, none, ctx.figures.volume, none⟩

/-! ## What a renewal and a report make of a side with a sale (R47 to R54) -/

/-- The side after the renewal of a pulse: the no-flow timer restarted in FUELLING and SLOWING, and the test result
acted on in the phase the sale is in (R47 to R51, R16). -/
def State.afterRenewal (s : State) (p : Phase) (ctx : Sale) : SideState :=
  let noFlow := s.now + 1000 * s.cfg.timers.noFlow
  let stop (r : EndReason) : SideState := .sale (.stopped ⟨r, none, ctx.figures.volume,
    if ctx.hangSeen then some (s.now + s.cfg.timers.settle) else none⟩) ctx
  match p, classifyFigures ctx.limit ctx.figures with
  | .stopped e, _ => .sale (.stopped e) ctx
  | _, .limit => stop .limitReached
  | _, .saturated => stop .saturated
  | .fuelling _, .slow => .sale (.slowing noFlow) ctx
  | .fuelling _, .clear => .sale (.fuelling noFlow) ctx
  | .slowing _, _ => .sale (.slowing noFlow) ctx
  | .starting t, _ => .sale (.starting t) ctx
  | .suspended t, _ => .sale (.suspended t) ctx

/-- The side after a report of an engaged meter (R54): a sale before STOPPED ends with the fault and the meter; in
STOPPED a reverse or meter fault sets the closure after completion, where no latched fault ended the sale and no
closure is set. -/
def State.afterReport (s : State) (kind : MeterReport) (m : Meter) : SideState → SideState
  | .sale (.stopped e) ctx =>
    if kind = .highFlow ∨ e.reason ∈ [.meterFault, .reverseFlow, .strayFlow, .displayFault] ∨
        ctx.closureAfter ≠ none
    then .sale (.stopped e) ctx
    else .sale (.stopped e) { ctx with
      closureAfter := some (if kind = .reverseFlow then .reverseFlow else .meterFault) }
  | .sale _ ctx => .sale (.stopped ⟨match kind with
      | .reverseFlow => .reverseFlow
      | .meterFault => .meterFault
      | .highFlow => .highFlow, some m, ctx.figures.volume,
      if ctx.hangSeen then some (s.now + s.cfg.timers.settle) else none⟩) ctx
  | st => st

/-! ## Wakes (R188, R191) -/

/-- What a wake from NIGHT leaves, whatever its cause: a sequence at LOAD, the line and the bus at their start
states, and the totals, records, prices and settings as they were (R186, R188, R191). The meter channels stand as
they were too: R191 gives no moment within LOAD to their stray counts and references (log 39). -/
def State.WokenFrom (t s : State) (cause : WakeCause) : Prop :=
  t.psq.mode = .poweringUp .load ∧ t.psq.cause = cause ∧ t.psq.restarts = s.psq.restarts ∧
  t.psq.confirmTimer = none ∧ t.psq.overflowMark = false ∧
  t.sli.rx = .waitQuiet ∧ t.sli.errors = 0 ∧ t.sli.overflow = false ∧
  (∀ m, t.displayModule m = ⟨false, none⟩) ∧ (∀ sd, (t.reader sd).err = 0) ∧
  t.mci = s.mci ∧ t.ptu = s.ptu ∧ t.sru = s.sru ∧ t.stack = s.stack ∧ t.cfg = s.cfg

/-! ## Outputs (R63) -/

/-- Every motor and valve output is off. -/
def State.DrivesNothing (s : State) : Prop :=
  (∀ sd, motorOut s sd = false) ∧ (∀ h, fastValveOut s h = false) ∧ (∀ h, slowValveOut s h = false)

end Sys2Proof.Machine
end

