-- ==== Sys2Proof/Certificates/Slice0/Obligations.lean ====
section
/-! DEFINITION. The statements for the provers. -/

open Sys2Proof Sys2Proof.Machine

/-! ## The machine -/

/-- The block's step (no rule: the form of a block's model): the command at the front of the queue is run on the
queue's rest. -/
def Obligations.StepRunsTheFrontCommand : Prop :=
  ∀ (c : Instr) (rest : List Instr) (s : State), s.pending = c :: rest →
    step s = exec c { s with pending := rest }

/-- The invariants below hold at reset. (Rests in part on the model's own choices of logs 7, 8, 9.) -/
def Obligations.ResetMeetsTheInvariants : Prop :=
  State.reset.SettledIfPowered ∧ State.reset.StoreOk ∧ State.reset.PricesOk ∧ State.reset.MapOk ∧
  State.reset.ReadersOk ∧ State.reset.LineOk ∧ State.reset.SalesOk

/-! ## Frames and requests (chapters 08 and 12) -/

/-- Every well-formed request is read back from the payload that R200 gives it: no field of any request is
dropped. -/
def Obligations.EveryRequestRoundTrips : Prop :=
  ∀ (i : Instr) (k : ReqKind) (m : AddrMode), i.request? = some (k, m) → i.wellFormed = true →
    decodeRequest m k.port (requestPayload k i) = some i

/-- A whole frame outside NIGHT (R143, R144, R146 to R148): with a wrong check it is one counted error and the
receiver waits for a quiet line; with a right check it is counted as a good frame and the receiver comes back to
HUNT, and then: a dispenser's reply or a frame for another address or group changes nothing else; the unused mode is a
mode reject; a unicast, group or broadcast frame for this dispenser does what the request it spells does in that mode,
is a mode reject where the mode is not allowed for its kind, and with an empty payload, an unknown code or a wrong
length is refused in unicast and ignored otherwise. A frame abandons a reply in waiting, and is not received while a
reply is being sent. (Rests in part on the model's own choices of log 4.) -/
def Obligations.AWholeFrameIsCheckedAndRun : Prop :=
  (∀ s : State, s.Live → s.psq.mode ≠ .night → s.sli.tx = .idle → s.sli.rx = .hunt →
    (∀ address port payload check, payload.length ≤ 120 → check ≠ crc16 (siteBody address port payload) →
      exec (.siteFrame address port payload check) s =
        .next (countError (s.withSli { s.sli with rx := .waitQuiet }))) ∧
    (∀ (address port : Byte) payload, payload.length ≤ 120 →
      128 ≤ port.toNat ∨ (address.toNat < 64 ∧ address.toNat ≠ s.sli.line.address) ∨
        (64 ≤ address.toNat ∧ address.toNat < 128 ∧ address.toNat ≠ 64 + s.sli.line.group) →
      exec (.siteFrame address port payload (crc16 (siteBody address port payload))) s = .next (countGood s)) ∧
    (∀ (address port : Byte) payload, payload.length ≤ 120 →
      128 ≤ address.toNat → address.toNat < 192 → port.toNat < 128 →
      exec (.siteFrame address port payload (crc16 (siteBody address port payload))) s =
        .next ((countGood s).withSli { (countGood s).sli with
          modeRejects := (s.sli.modeRejects + 1) % 4294967296 })) ∧
    (∀ (m : AddrMode) (address port : Byte), s.addressed m address = true → port.toNat < 128 →
      (∀ (i : Instr) (k : ReqKind), i.request? = some (k, m) → i.wellFormed = true →
        port.toNat % 4 = k.port →
        exec (.siteFrame address port (requestPayload k i)
          (crc16 (siteBody address port (requestPayload k i)))) s = exec i (countGood s)) ∧
      (port.toNat % 4 = 0 ∨ port.toNat % 4 = 3 →
        exec (.siteFrame address port [] (crc16 (siteBody address port []))) s =
          .next ((countGood s).withRefusal m (port.toNat % 4) 0 .badLength) ∧
        (∀ (code : Byte) (rest : List Byte), rest.length ≤ 119 →
          (kindOf (port.toNat % 4) code.toNat = none →
            exec (.siteFrame address port (code :: rest) (crc16 (siteBody address port (code :: rest)))) s =
              .next ((countGood s).withRefusal m (port.toNat % 4) code.toNat .unknown)) ∧
          (∀ k, kindOf (port.toNat % 4) code.toNat = some k →
            (k.allows m = false →
              exec (.siteFrame address port (code :: rest) (crc16 (siteBody address port (code :: rest)))) s =
                .next ((countGood s).withSli { (countGood s).sli with
                  modeRejects := (s.sli.modeRejects + 1) % 4294967296 })) ∧
            (k.allows m = true → k.length ≠ some (rest.length + 1) →
              exec (.siteFrame address port (code :: rest) (crc16 (siteBody address port (code :: rest)))) s =
                .next ((countGood s).withRefusal m (port.toNat % 4) k.code .badLength))))))) ∧
  (∀ (s : State) (address port : Byte) (payload : List Byte) (check : Word16), s.powered = true →
    ((∃ r more, s.sli.tx = .waiting r more) ∨ (∃ second, s.sli.tx = .gap second) →
      exec (.siteFrame address port payload check) s =
        exec (.siteFrame address port payload check) (finish (abandonReply s))) ∧
    (∀ r more, s.sli.tx = .sending r more → s.Settled →
      exec (.siteFrame address port payload check) s = .next s))

/-! ## Invariants that every step keeps -/

/-- Between two events no write that may begin is left waiting, and no drain that has ended is left unacted
on (R174, R178). -/
def Obligations.StepKeepsTheStoreSettled : Prop :=
  ∀ s t : State, s.SettledIfPowered → step s = .next t → t.SettledIfPowered

/-- Each kind stands in the write queue at most once, and no failure count passes 3 (R173, R175). -/
def Obligations.StepKeepsTheQueueLegal : Prop :=
  ∀ s t : State, s.StoreOk → step s = .next t → t.StoreOk

/-- Price entries, generation and the pending flag stay in their ranges, in force and in the store (R67 to
R69). -/
def Obligations.StepKeepsPricesLegal : Prop :=
  ∀ s t : State, s.PricesOk → step s = .next t → t.PricesOk

/-- The hose map never gives one place to two hoses or a meter to both sides (R2, R163, R164). -/
def Obligations.StepKeepsTheHoseMapLegal : Prop :=
  ∀ s t : State, s.MapOk → step s = .next t → t.MapOk

/-- A reader that is cut off holds no frames, and its error counter stays in 0..threshold (R118, R119). (Rests
in part on the model's own choices of log 33.) -/
def Obligations.StepKeepsReadersLegal : Prop :=
  ∀ s t : State, s.ReadersOk → step s = .next t → t.ReadersOk

/-- The site error counter stays in 0..threshold, and the overflow flag is set only above 0 (R144). (Rests in
part on the model's own choices of log 33.) -/
def Obligations.StepKeepsTheLineCounterLegal : Prop :=
  ∀ s t : State, s.LineOk → step s = .next t → t.LineOk

/-- No authorization and no sale stands outside RUN, in a night request, in a restart or in an unconfirmed
wake (R66, R170, R184, R190). -/
def Obligations.StepKeepsSalesInRun : Prop :=
  ∀ s t : State, s.SalesOk → step s = .next t → t.SalesOk

/-! ## Outputs (R63) -/

/-- R63: no motor and no valve is on while the rail is faulty, while the warning is asserted, or outside RUN; and with
the rail good, no warning, in RUN and no restart drain, the outputs of a side with a sale are those of the table
for its state and active hose. R118, R170, R182: every switched supply is off in NIGHT, in FAILSAFE and in the restart
drain; in POWERING_UP and RUN the display supply follows its demand, and a reader's is on in PROBING and ATTACHED and
off while it is cut off. -/
def Obligations.OutputsFollowStateRailAndWarning : Prop :=
  (∀ s : State, s.lines.railGood = false ∨ s.lines.warning = true ∨ s.psq.mode ≠ .run → s.DrivesNothing) ∧
  (∀ (s : State) (sd : Side) (p : Phase) (ctx : Sale),
    s.powered = true → s.lines.railGood = true → s.lines.warning = false → s.psq.mode = .run →
    s.psq.restart ≠ .draining → s.sideState sd = .sale p ctx →
    (s.sideState sd.other).sale? = none →
    (motorOut s sd = match p with
      | .stopped _ => false
      | _ => true) ∧
    (∀ h, fastValveOut s h = match p with
      | .fuelling _ => ctx.hose == h
      | _ => false) ∧
    (∀ h, slowValveOut s h = match p with
      | .fuelling _ => ctx.hose == h
      | .slowing _ => ctx.hose == h
      | _ => false) ∧
    motorOut s sd.other = false) ∧
  (∀ s : State, s.psq.mode = .night ∨ s.psq.mode = .failsafe ∨ s.psq.restart = .draining ∨ s.powered = false →
    displaySupplyOut s = false ∧ ∀ sd, readerSupplyOut s sd = false) ∧
  (∀ s : State, s.powered = true → s.psq.mode = .run ∨ (∃ st, s.psq.mode = .poweringUp st) →
    s.psq.restart ≠ .draining →
    displaySupplyOut s = s.psq.displayDemand ∧
    ∀ sd, ((s.reader sd).state = .probing ∨ (s.reader sd).state = .attached → readerSupplyOut s sd = true) ∧
      ((s.reader sd).state.cut = true → readerSupplyOut s sd = false))

/-! ## Arithmetic (chapter 02) -/

/-- R22 to R25, R27: a meter volume is H * 1000 * (10000 + T) / (K * 10000) rounded down, the hose volume is their
sum, the displayed volume and the amount are the figures of their stages held at 999,999, and the saturation flag is
set by either hold and stays set; the meter volume never falls as H grows, and neither do the displayed volume, the
amount or the saturation flag as the meter volumes grow; the first line of R27's table that holds gives the test
result, and as the figures rise the result never goes back towards CLEAR. -/
def Obligations.FiguresAndResultsOnlyRise : Prop :=
  (∀ (c : MeterConfig) (h : Nat), 1 ≤ c.k → -10000 ≤ c.trim →
    (meterVolume c h : Int) * (c.k * 10000) ≤ h * 1000 * (10000 + c.trim) ∧
    h * 1000 * (10000 + c.trim) < ((meterVolume c h : Int) + 1) * (c.k * 10000)) ∧
  (∀ (c : MeterConfig) (h1 h2 : Nat), h1 ≤ h2 → meterVolume c h1 ≤ meterVolume c h2) ∧
  (∀ (f : Figures) (price v1 v2 : Nat),
    let units := if f.scale.dv = 2 then (v1 + v2) / 10 else v1 + v2
    let g := pricedFigures f price v1 v2
    g.v1 = v1 ∧ g.v2 = v2 ∧ g.v = v1 + v2 ∧ g.volume = min units 999999 ∧
    g.amount = min (amountOf f.scale g.volume price) 999999 ∧
    (g.saturated = true ↔
      f.saturated = true ∨ 999999 < units ∨ 999999 < amountOf f.scale g.volume price) ∧
    g.slowAt = f.slowAt ∧ g.stopAt = f.stopAt ∧ g.start = f.start ∧ g.scale = f.scale) ∧
  (∀ (f : Figures) (price u1 u2 v1 v2 : Nat), u1 ≤ v1 → u2 ≤ v2 →
    (pricedFigures f price u1 u2).volume ≤ (pricedFigures f price v1 v2).volume ∧
    (pricedFigures f price u1 u2).amount ≤ (pricedFigures f price v1 v2).amount ∧
    ((pricedFigures f price u1 u2).saturated = true → (pricedFigures f price v1 v2).saturated = true)) ∧
  (∀ (l : Limit) (f : Figures), classifyFigures l f = .saturated ↔ f.saturated = true) ∧
  (∀ (l : Limit) (f : Figures), classifyFigures l f = .limit ↔
    f.saturated = false ∧ ∃ n, f.stopAt = some n ∧ n ≤ comparedFigure f l) ∧
  (∀ (l : Limit) (f : Figures), classifyFigures l f = .slow ↔
    f.saturated = false ∧ (∀ n, f.stopAt = some n → comparedFigure f l < n) ∧
      ∃ n, f.slowAt = some n ∧ n ≤ comparedFigure f l) ∧
  (∀ (l : Limit) (f g : Figures), f.volume ≤ g.volume → f.amount ≤ g.amount →
    (f.saturated = true → g.saturated = true) → f.slowAt = g.slowAt → f.stopAt = g.stopAt →
    (classifyFigures l f = .limit → classifyFigures l g = .limit ∨ classifyFigures l g = .saturated) ∧
    (classifyFigures l f = .slow → classifyFigures l g ≠ .clear))

/-- R24: under DOWN the amount is the greatest number of amount units in Q; under HALF_UP it is the nearest,
and upward at exactly half. -/
def Obligations.TheAmountIsRoundedAsTheScaleSays : Prop :=
  ∀ (sc : Scale) (v p : Nat),
    (sc.rounding = .down →
      amountOf sc v p * 10 ^ sc.exponent ≤ v * p ∧ v * p < (amountOf sc v p + 1) * 10 ^ sc.exponent) ∧
    (sc.rounding = .halfUp →
      2 * (amountOf sc v p * 10 ^ sc.exponent) ≤ 2 * (v * p) + 10 ^ sc.exponent ∧
      2 * (v * p) < 2 * (amountOf sc v p * 10 ^ sc.exponent) + 10 ^ sc.exponent)

/-! ## Retained store (chapter 10) -/

/-- R173's table with the head of R177: a kind in the queue is not queued again, another one joins the back, and
METROLOGY joins the head while the warning is asserted; nothing but the queue changes. R174 and R172: at the end of
an event the head of the queue is taken with its owners' content as it then stands; METROLOGY goes to the slot that
is not the current one with the next stamp, or to METROLOGY-0 with stamp 1. -/
def Obligations.WritesAreQueuedOnceAndBeginAtTheHead : Prop :=
  (∀ (k : Kind) (s : State),
    (k ∈ s.nvs.queue → requestWrite k s = s) ∧
    (k ∉ s.nvs.queue → ¬ (k = .metrology ∧ s.lines.warning = true) →
      requestWrite k s = { s with nvs := { s.nvs with queue := s.nvs.queue ++ [k] } }) ∧
    (k ∉ s.nvs.queue → k = .metrology → s.lines.warning = true →
      requestWrite k s = { s with nvs := { s.nvs with queue := k :: s.nvs.queue } })) ∧
  (∀ (k : Kind) (rest : List Kind) (s : State),
    s.nvs.job = none → s.nvs.load = .none → s.nvs.queue = k :: rest →
    finish s =
      { s with
        nvs :=
          { s.nvs with
            queue := rest
            job := some (match k with
              | .config => ⟨.config s.cfg, s.now + 15⟩
              | .prices => ⟨.prices s.ptu, s.now + 5⟩
              | .metrology =>
                match s.nvs.current with
                | none => ⟨.metrology .m0 ⟨s.sru, 1⟩, s.now + 20⟩
                | some (n, stamp) =>
                    ⟨.metrology n.other ⟨s.sru, if 4294967295 ≤ stamp then 1 else stamp + 1⟩, s.now + 20⟩) } })

/-! ## How requests are taken (chapters 08 and 11) -/

/-- R183: what a unicast request gets outside RUN and in the restart drain: BUSY, STATE or nothing, where it is
not served; STOP is answered OK in FAILSAFE. R147: a request in an address mode its kind does not allow changes
the mode reject total alone. (Rests in part on the model's own choices of log 17.) -/
def Obligations.RequestsOutsideRunAndOutsideTheirModes : Prop :=
  (∀ (i : Instr) (k : ReqKind) (s : State), i.request? = some (k, .unicast) → s.Live → s.sli.tx = .idle →
    (s.poweringUp = true ∨ (s.restartDraining = true ∧ s.psq.mode ≠ .night) →
      k ∉ [.poll, .readIdent, .readCounters] → exec i s = .next (s.answeredWith k .busy [])) ∧
    (s.psq.mode = .night → s.restartDraining = false → exec i s = .next s) ∧
    (s.psq.mode = .failsafe → s.restartDraining = false →
      (k ∈ [.clearEvents, .authorize, .suspend, .resume, .clearSale, .stagePrice, .commitPrices, .replacePrice,
        .discardStaged, .enterNight, .setAddress, .setLine, .setHose, .setMeter, .setScale, .setTimers,
        .setThresholds, .setRoute, .clearRoute, .setWake, .armWake, .openSide, .closeSide, .readerAttach,
        .readerIsolate, .tunnel .a, .tunnel .b, .fetch .a, .fetch .b] →
        exec i s = .next (s.withReply k .state [])) ∧
      (k = .stop → exec i s = .next (s.withReply k .ok [])))) ∧
  (∀ (i : Instr) (k : ReqKind) (m : AddrMode) (s : State), i.request? = some (k, m) → k.allows m = false →
    s.Live → s.sli.tx = .idle →
    exec i s =
      .next { s with sli := { s.sli with modeRejects := (s.sli.modeRejects + 1) % 4294967296 } })

/-- R149: a request that arrives while a reply waits does what it does once that reply is abandoned, and one
that arrives while a reply is being sent is not received (log 3). -/
def Obligations.ARequestAbandonsTheWaitingReply : Prop :=
  ∀ (i : Instr) (k : ReqKind) (m : AddrMode) (s : State), i.request? = some (k, m) → s.powered = true →
    ((∃ r more, s.sli.tx = .waiting r more) ∨ (∃ second, s.sli.tx = .gap second) →
      (finish (abandonReply s)).sli.tx = .idle ∧ exec i s = exec i (finish (abandonReply s))) ∧
    (∀ r more, s.sli.tx = .sending r more → s.Settled → exec i s = .next s)

/-! ## Requests that read (chapters 02, 04, 05, 08, 09) -/

/-- R76, R97, R150, R156, R160, R183, R201: POLL, READ_IDENT and READ_COUNTERS are answered with what stands at that
moment in every mode but NIGHT, the restart drain among them; READ_PRICES and READ_TOTALS in RUN and FAILSAFE;
nothing but the reply and the wake confirm changes. -/
def Obligations.ReadsWithoutFieldsAreAnswered : Prop :=
  (∀ s : State, s.Answers →
    let mode := byte1 (match s.psq.mode with
      | .poweringUp _ => 1
      | .run => 2
      | .night => 3
      | .failsafe => 4)
    exec (.poll .unicast) s = .next (s.answeredWith .poll .ok
      (mode ++ byte1 s.psq.cause.num ++ byte1 s.psq.restarts ++ be 2 s.sli.events.toNat ++
        statusSide s .a ++ statusSide s .b ++
        (byte1 (s.reader .a).state.num ++ byte1 (s.reader .a).up.length) ++
        (byte1 (s.reader .b).state.num ++ byte1 (s.reader .b).up.length))) ∧
    exec (.readIdent .unicast) s = .next (s.answeredWith .readIdent .ok
      ([0x04, 0x20, 0x01] ++ be 4 Config.unitNumber.toNat ++ byte1 s.sli.line.address ++
        byte1 s.sli.line.group ++ mode)) ∧
    exec (.readCounters .unicast) s = .next (s.answeredWith .readCounters .ok
      (be 4 s.sli.frameErrors ++ be 4 s.sli.modeRejects ++ byte1 s.sli.errors ++
        byte1 (flagNum s.sli.overflow) ++ readerCounterBytes (s.reader .a) ++ readerCounterBytes (s.reader .b) ++
        Meter.all.flatMap fun m =>
          be 4 (s.channel m).phaseTotal ++ be 4 (s.channel m).strayTotal))) ∧
  (∀ s : State, s.ServesReads →
    exec (.readPrices .unicast) s = .next (s.answeredWith .readPrices .ok
      (tableBytes s.ptu.active ++ be 2 s.ptu.generation ++
        byte1 (flagNum s.ptu.staged.isSome + 2 * flagNum s.ptu.pending) ++
        tableBytes (s.ptu.staged.getD .zero))) ∧
    exec (.readTotals .unicast) s = .next ((confirmWake .unicast s).withSli { s.sli with
      tx := .waiting (replyFrame s.sli.line.address 3 0x32 .ok (totalsPart1 s.sru))
        (some (replyFrame s.sli.line.address 3 0x32 .ok (totalsPart2Bytes s.sru))) }))

/-- R32, R95, R96, R123, R169, R183: READ_LIVE, READ_SALE, READ_JOURNAL, READ_ROUTE and READ_CONFIG in RUN and
FAILSAFE, with their refusals; nothing but the reply and the wake confirm changes. (Rests in part on the model's own
choices of log 16.) -/
def Obligations.ReadsWithFieldsAreAnswered : Prop :=
  ∀ s : State, s.ServesReads →
    (∀ sd : Side, exec (.readLive .unicast sd.num) s =
      .next (s.answeredWith .readLive .ok (mirrorBytes sd (liveMirror s sd)))) ∧
    (∀ v, v ≠ 1 → v ≠ 2 → exec (.readLive .unicast v) s = .next (s.answeredWith .readLive .badField [])) ∧
    (∀ (sd : Side) (n : Nat) (r : SaleRecord), n < 2 → (s.stack.get sd)[n]? = some r →
      exec (.readSale .unicast sd.num 1 (n + 1)) s =
        .next (s.answeredWith .readSale .ok (recordBytes r false))) ∧
    (∀ (sd : Side) (n : Nat), n < 2 → (s.stack.get sd)[n]? = none →
      exec (.readSale .unicast sd.num 1 (n + 1)) s = .next (s.answeredWith .readSale .notFound [])) ∧
    (∀ (sd : Side) (id : Nat) (r : SaleRecord), id ≠ 0 →
      (s.stack.get sd).find? (fun x => x.saleId == id) = some r →
      exec (.readSale .unicast sd.num 2 id) s =
        .next (s.answeredWith .readSale .ok (recordBytes r false))) ∧
    (∀ (sd : Side) (id : Nat), id ≠ 0 → (∀ r ∈ s.stack.get sd, r.saleId ≠ id) →
      exec (.readSale .unicast sd.num 2 id) s = .next (s.answeredWith .readSale .notFound [])) ∧
    (∀ side kind value, (side ≠ 1 ∧ side ≠ 2) ∨ (kind ≠ 1 ∧ kind ≠ 2) ∨
        (kind = 1 ∧ value ≠ 1 ∧ value ≠ 2) ∨ (kind = 2 ∧ value = 0) →
      exec (.readSale .unicast side kind value) s = .next (s.answeredWith .readSale .badField [])) ∧
    (∀ (n : Nat) (e : JournalEntry), n ≤ 15 → s.sru.journal.reverse[n]? = some e →
      exec (.readJournal .unicast n) s =
        .next (s.answeredWith .readJournal .ok (recordBytes e.record e.paid))) ∧
    (∀ n, n ≤ 15 → s.sru.journal.length ≤ n →
      exec (.readJournal .unicast n) s = .next (s.answeredWith .readJournal .notFound [])) ∧
    (∀ n, 15 < n → exec (.readJournal .unicast n) s = .next (s.answeredWith .readJournal .badField [])) ∧
    (∀ (n : Nat) (r : RouteRow), n < 24 → s.cfg.routes[n]? = some r →
      exec (.readRoute .unicast (n + 1)) s = .next (s.answeredWith .readRoute .ok
        (byte1 (n + 1) ++ byte1 (flagNum r.inUse) ++ byte1 r.source.num ++ byte1 r.low ++ byte1 r.high ++
          byte1 r.maxLen ++ byte1 r.action.num))) ∧
    (∀ n, n = 0 ∨ 24 < n → exec (.readRoute .unicast n) s = .next (s.answeredWith .readRoute .badField [])) ∧
    (∀ sect meter d, sectionBytes s.cfg sect meter = some d →
      exec (.readConfig .unicast sect meter) s = .next (s.answeredWith .readConfig .ok d)) ∧
    (∀ sect meter, sect = 0 ∨ 8 < sect ∨ (sect = 3 ∧ (meter = 0 ∨ 6 < meter)) →
      exec (.readConfig .unicast sect meter) s = .next (s.answeredWith .readConfig .badField []))

/-! ## Sale requests (chapters 03 and 05) -/

/-- R40, checks 1 to 4, 6 and 7, and the BAD_FIELD of check 5, in the order of the table: a refused AUTHORIZE and
a repeated one change nothing but the reply and the wake confirm. (That a sale id above 65535, which no two-byte field
carries, is BAD_FIELD is the model's own reading, log 36.) -/
def Obligations.AuthorizeIsCheckedInOrder : Prop :=
  ∀ (s : State) (sd : Side) (saleId allowed level kind value : Nat), s.Serves →
    (∀ v, v ≠ 1 → v ≠ 2 →
      exec (.authorize .unicast v saleId allowed level kind value) s =
        .next (s.answeredWith .authorize .badField [])) ∧
    (∀ a, s.sideState sd = .authorized a → a.saleId = saleId →
      exec (.authorize .unicast sd.num saleId allowed level kind value) s =
        .next (s.answeredWith .authorize .ok [])) ∧
    (∀ a, s.sideState sd = .authorized a → a.saleId ≠ saleId →
      exec (.authorize .unicast sd.num saleId allowed level kind value) s =
        .next (s.answeredWith .authorize .state [])) ∧
    ((∃ r, s.sideState sd = .closed r) ∨ (∃ p ctx, s.sideState sd = .sale p ctx) →
      exec (.authorize .unicast sd.num saleId allowed level kind value) s =
        .next (s.answeredWith .authorize .state [])) ∧
    (s.sideState sd = .idle ∨ s.sideState sd = .calling →
      (s.psq.night ≠ none →
        exec (.authorize .unicast sd.num saleId allowed level kind value) s =
          .next (s.answeredWith .authorize .state [])) ∧
      (s.psq.night = none →
        (saleId = 0 ∨ 65535 < saleId ∨ allowed = 0 ∨ 15 < allowed ∨
          (∃ q ∈ Position.all, allowed.testBit (q.num - 1) = true ∧ hoseAt s.cfg.hoses sd q = none) ∨
          level = 0 ∨ 2 < level ∨ 2 < kind ∨ (kind ≠ 0 ∧ (value = 0 ∨ 999999 < value)) →
          exec (.authorize .unicast sd.num saleId allowed level kind value) s =
            .next (s.answeredWith .authorize .badField [])) ∧
        (∀ a, authOf s sd saleId allowed level kind value = some a →
          (2 ≤ (s.stack.get sd).length →
            exec (.authorize .unicast sd.num saleId allowed level kind value) s =
              .next (s.answeredWith .authorize .stackFull [])) ∧
          ((s.stack.get sd).length < 2 → (∃ r ∈ s.stack.get sd, r.saleId = saleId) →
            exec (.authorize .unicast sd.num saleId allowed level kind value) s =
              .next (s.answeredWith .authorize .duplicateId [])))))

/-- R41: an AUTHORIZE that passes every check creates the record, sends the side to AUTHORIZED with the timer
started, tests the start condition at once, and is answered OK. -/
def Obligations.AuthorizeGrantsASale : Prop :=
  ∀ (s : State) (sd : Side) (saleId allowed kind value : Nat) (lv : Level) (lim : Limit), s.Serves →
    s.sideState sd = .idle ∨ s.sideState sd = .calling → s.psq.night = none →
    1 ≤ saleId → saleId ≤ 65535 → 1 ≤ allowed → allowed ≤ 15 →
    (∀ q ∈ Position.all, allowed.testBit (q.num - 1) = true → hoseAt s.cfg.hoses sd q ≠ none) →
    limitOf kind value = some lim →
    (s.stack.get sd).length < 2 → (∀ r ∈ s.stack.get sd, r.saleId ≠ saleId) →
    exec (.authorize .unicast sd.num saleId allowed lv.num kind value) s =
      .next ((testStart sd ((confirmWake .unicast s).withSideState sd (.authorized
        { saleId := saleId
          allowed := ⟨allowed.testBit 0, allowed.testBit 1, allowed.testBit 2, allowed.testBit 3⟩
          level := lv
          limit := lim
          timer := if s.cfg.timers.auth = 0 then none else some (s.now + 1000 * s.cfg.timers.auth)
          blocked := .none }))).withReply .authorize .ok [])

/-- R44 to R46, R21, R26, R77, R81: when the start condition holds the side enters STARTING with the oldest allowed
lifted hose, its latch, engaged counters at 0, its figures at 0 with the scale and the thresholds of its limit, and
the zero timer; when it does not hold the reason is renewed. Nothing but the side, its panel and its reader's last
FIGURES time changes. -/
def Obligations.TheStartConditionStartsTheOldestHose : Prop :=
  (∀ (s : State) (sd : Side) (a : Auth), s.sideState sd = .authorized a →
    (s.lifted sd).find? (allowedHose s.cfg.hoses sd a.allowed) = none →
    testStart sd s = s.withSideState sd (.authorized { a with blocked := .none })) ∧
  (∀ (s : State) (sd : Side) (a : Auth) (h : Hose) (r : HoseRec), s.sideState sd = .authorized a →
    (s.lifted sd).find? (allowedHose s.cfg.hoses sd a.allowed) = some h → s.cfg.hoses.get h = some r →
    (s.ptu.active.entry r.grade a.level = 0 ∨ 99999 < s.ptu.active.entry r.grade a.level →
      testStart sd s = s.withSideState sd (.authorized { a with blocked := .priceInvalid })) ∧
    (1 ≤ s.ptu.active.entry r.grade a.level → s.ptu.active.entry r.grade a.level ≤ 99999 →
      (s.lines.railGood = false ∨ s.lines.warning = true →
        testStart sd s = s.withSideState sd (.authorized { a with blocked := .railDown })) ∧
      (s.lines.railGood = true → s.lines.warning = false → s.psq.mode = .run →
        ∃ ctx, testStart sd s = handPanel sd ((s.withSideState sd
            (.sale (.starting (s.now + s.cfg.timers.zero)) ctx)).withReader sd
              { s.reader sd with lastFigures := none }) ∧
          ctx.saleId = a.saleId ∧ ctx.allowed = a.allowed ∧ ctx.limit = a.limit ∧ ctx.hose = h ∧
          ctx.position = r.position ∧ ctx.latch.grade = r.grade ∧ ctx.latch.level = a.level ∧
          ctx.latch.price = s.ptu.active.entry r.grade a.level ∧ ctx.latch.generation = s.ptu.generation ∧
          ctx.latch.frozen = openGroup s sd r.position ∧
          ctx.primary = r.primary ∧ ctx.primaryCt = ⟨0, 0, 0, 0, 0, s.now, false, false, false⟩ ∧
          ctx.secondary = r.secondary.map (fun m => (m, ⟨0, 0, 0, 0, 0, s.now, false, false, false⟩)) ∧
          ctx.level = a.level ∧ ctx.zeroTime = s.cfg.timers.zero ∧
          ctx.figures.v1 = 0 ∧ ctx.figures.v2 = 0 ∧ ctx.figures.v = 0 ∧
          ctx.figures.volume = 0 ∧ ctx.figures.amount = 0 ∧ ctx.figures.saturated = false ∧
          ctx.figures.start = s.now ∧ ctx.figures.last = .clear ∧ ctx.figures.scale = s.cfg.scale ∧
          ctx.figures.stopAt = (match a.limit with
            | .none => none
            | .volume n => some n
            | .amount n => some n) ∧
          (let margin := if s.cfg.scale.dv = 2 then s.cfg.thresholds.margin / 10 else s.cfg.thresholds.margin
          ctx.figures.slowAt = (match a.limit with
            | .none => none
            | .volume n => some (n - margin)
            | .amount n => some (n - margin * s.ptu.active.entry r.grade a.level /
                10 ^ (s.cfg.scale.dv + s.cfg.scale.dp - s.cfg.scale.da)))) ∧
          ctx.hangSeen = false ∧ ctx.zeroVerified = false ∧
          ctx.closureAfter = none)))

/-- R51, R52, R28: SUSPEND in FUELLING and SLOWING; RESUME acts on the classification of the sale's figures; and their
refusals. (The valves of each side state are `OutputsFollowStateRailAndWarning`'s.) -/
def Obligations.SuspendAndResume : Prop :=
  (∀ (s : State) (sd : Side), s.Serves →
    (∀ t ctx, s.sideState sd = .sale (.fuelling t) ctx ∨ s.sideState sd = .sale (.slowing t) ctx →
      exec (.suspend .unicast sd.num) s =
        .next (((confirmWake .unicast s).withSideState sd
          (.sale (.suspended (s.now + 1000 * s.cfg.timers.suspend)) ctx)).withReply .suspend .ok [])) ∧
    ((∀ t ctx, s.sideState sd ≠ .sale (.fuelling t) ctx ∧ s.sideState sd ≠ .sale (.slowing t) ctx) →
      exec (.suspend .unicast sd.num) s = .next (s.answeredWith .suspend .state [])) ∧
    (∀ v, v ≠ 1 → v ≠ 2 → exec (.suspend .unicast v) s = .next (s.answeredWith .suspend .badField []))) ∧
  (∀ (s : State) (sd : Side), s.Serves →
    (∀ t ctx, s.sideState sd = .sale (.suspended t) ctx →
      exec (.resume .unicast sd.num) s =
        .next (((confirmWake .unicast s).withSideState sd (match classifyFigures ctx.limit ctx.figures with
          | .clear => .sale (.fuelling (s.now + 1000 * s.cfg.timers.noFlow)) ctx
          | .slow => .sale (.slowing (s.now + 1000 * s.cfg.timers.noFlow)) ctx
          | .limit => .sale (.stopped ⟨.limitReached, none, ctx.figures.volume,
              if ctx.hangSeen then some (s.now + s.cfg.timers.settle) else none⟩) ctx
          | .saturated => .sale (.stopped ⟨.saturated, none, ctx.figures.volume,
              if ctx.hangSeen then some (s.now + s.cfg.timers.settle) else none⟩) ctx)).withReply
                .resume .ok [])) ∧
    ((∀ t ctx, s.sideState sd ≠ .sale (.suspended t) ctx) →
      exec (.resume .unicast sd.num) s = .next (s.answeredWith .resume .state [])) ∧
    (∀ v, v ≠ 1 → v ≠ 2 → exec (.resume .unicast v) s = .next (s.answeredWith .resume .badField [])))

/-- R43: STOP in every address mode for side A, side B or both, with the table for one side: an authorization is
discarded, a sale is stopped with SITE_STOP, STOPPED keeps its end reason, the other states are not changed. -/
def Obligations.StopEndsAuthorizationsAndSales : Prop :=
  (∀ (m : AddrMode) (s : State), s.Serves →
    exec (.stop m 1) s = .next ((stopSide .a (confirmWake m s)).withReplyIn m .stop .ok) ∧
    exec (.stop m 2) s = .next ((stopSide .b (confirmWake m s)).withReplyIn m .stop .ok) ∧
    exec (.stop m 3) s = .next ((stopSide .b (stopSide .a (confirmWake m s))).withReplyIn m .stop .ok) ∧
    (∀ v, v = 0 ∨ 3 < v → exec (.stop m v) s = .next ((confirmWake m s).withReplyIn m .stop .badField))) ∧
  (∀ (sd : Side) (s : State),
    ((∃ r, s.sideState sd = .closed r) ∨ s.sideState sd = .idle ∨ s.sideState sd = .calling ∨
      (∃ e ctx, s.sideState sd = .sale (.stopped e) ctx) → stopSide sd s = s) ∧
    (∀ a, s.sideState sd = .authorized a →
      stopSide sd s = (if s.lifted sd = [] then s.withSideState sd .idle
        else raise (.call sd) (s.withSideState sd .calling))) ∧
    (∀ p ctx, s.sideState sd = .sale p ctx → (∀ e, p ≠ .stopped e) →
      stopSide sd s = s.withSideState sd (.sale (.stopped ⟨.siteStop, none, ctx.figures.volume,
        if ctx.hangSeen then some (s.now + s.cfg.timers.settle) else none⟩) ctx)))

/-- R94: CLEAR_SALE takes the record from the stack, marks its journal copy paid and queues METROLOGY; totals and
sequence counter stay; and its refusals. -/
def Obligations.ClearSalePaysTheRecord : Prop :=
  ∀ (s : State) (sd : Side) (id : Nat), s.Serves →
    (∀ r, id ≠ 0 → (s.stack.get sd).find? (fun x => x.saleId == id) = some r →
      exec (.clearSale .unicast sd.num id) s =
        .next (beginWrite ((requestWrite .metrology { confirmWake .unicast s with
          stack := s.stack.set sd (removeSale r.saleId (s.stack.get sd))
          sru := { s.sru with journal := s.sru.journal.map fun e =>
            if e.record.seq = r.seq then { e with paid := true } else e } }).withReply .clearSale .ok []))) ∧
    (id ≠ 0 → (∀ r ∈ s.stack.get sd, r.saleId ≠ id) →
      exec (.clearSale .unicast sd.num id) s = .next (s.answeredWith .clearSale .notFound [])) ∧
    (exec (.clearSale .unicast sd.num 0) s = .next (s.answeredWith .clearSale .badField [])) ∧
    (∀ v, v ≠ 1 → v ≠ 2 → exec (.clearSale .unicast v id) s = .next (s.answeredWith .clearSale .badField []))

/-! ## Prices (chapter 04) -/

/-- R71: STAGE_PRICE in every address mode: an absent staged table becomes a copy of the active one with the flag
clear, the entry is set, PRICES is queued where that changed anything. -/
def Obligations.StagePriceEditsTheStagedTable : Prop :=
  ∀ (m : AddrMode) (s : State) (g : Grade) (l : Level) (price : Nat), s.Serves →
    (price ≤ 99999 → s.ptu.staged = none →
      exec (.stagePrice m g.num l.num price) s =
        .next (beginWrite ((requestWrite .prices { confirmWake m s with
          ptu := { s.ptu with staged := some (s.ptu.active.withEntry g l price), pending := false } }).withReplyIn
            m .stagePrice .ok))) ∧
    (∀ t, price ≤ 99999 → s.ptu.staged = some t → t.entry g l ≠ price →
      exec (.stagePrice m g.num l.num price) s =
        .next (beginWrite ((requestWrite .prices { confirmWake m s with
          ptu := { s.ptu with staged := some (t.withEntry g l price) } }).withReplyIn m .stagePrice .ok))) ∧
    (∀ t, price ≤ 99999 → s.ptu.staged = some t → t.entry g l = price →
      exec (.stagePrice m g.num l.num price) s = .next ((confirmWake m s).withReplyIn m .stagePrice .ok)) ∧
    (99999 < price →
      exec (.stagePrice m g.num l.num price) s = .next ((confirmWake m s).withReplyIn m .stagePrice .badField)) ∧
    (∀ v w, v = 0 ∨ 8 < v ∨ w = 0 ∨ 2 < w →
      exec (.stagePrice m v w price) s = .next ((confirmWake m s).withReplyIn m .stagePrice .badField))

/-- R72 and R73: COMMIT_PRICES in every address mode, its three checks in order, NOW and AT_POWER_UP; and R68 and
R79: what a table that becomes active does. -/
def Obligations.CommitPricesAppliesTheStagedTable : Prop :=
  (∀ (m : AddrMode) (s : State) (gen : Nat), s.Serves →
    (∀ v, v ≠ 1 → v ≠ 2 →
      exec (.commitPrices m gen v) s = .next ((confirmWake m s).withReplyIn m .commitPrices .badField)) ∧
    (s.ptu.staged = none → ∀ v, v = 1 ∨ v = 2 →
      exec (.commitPrices m gen v) s = .next ((confirmWake m s).withReplyIn m .commitPrices .nothingStaged)) ∧
    (∀ t, s.ptu.staged = some t →
      (gen ≠ s.ptu.generation → ∀ v, v = 1 ∨ v = 2 →
        exec (.commitPrices m gen v) s = .next ((confirmWake m s).withReplyIn m .commitPrices .stale)) ∧
      (gen = s.ptu.generation →
        exec (.commitPrices m gen 1) s =
          .next (beginWrite ((setActive t (requestWrite .prices { confirmWake m s with
            ptu := { s.ptu with staged := none, pending := false } })).withReplyIn m .commitPrices .ok)) ∧
        (s.ptu.pending = false →
          exec (.commitPrices m gen 2) s =
            .next (beginWrite ((requestWrite .prices { confirmWake m s with
              ptu := { s.ptu with pending := true } }).withReplyIn m .commitPrices .ok))) ∧
        (s.ptu.pending = true →
          exec (.commitPrices m gen 2) s =
            .next ((confirmWake m s).withReplyIn m .commitPrices .ok))))) ∧
  (∀ (t : PriceTable) (s : State),
    (t = s.ptu.active → setActive t s = s) ∧
    (t ≠ s.ptu.active → s.ptu.generation ≤ 65535 →
      (setActive t s).ptu = { s.ptu with
        active := t, generation := if s.ptu.generation = 65535 then 1 else s.ptu.generation + 1 }) ∧
    (t ≠ s.ptu.active → (setActive t s).raised .priceApplied = true ∧ .prices ∈ (setActive t s).nvs.queue ∧
      (∀ sd, (setActive t s).lbc.panels.get sd = formPanel (setActive t s) sd) ∧
      (∀ sd p ctx, s.sideState sd = .sale p ctx → (setActive t s).sideState sd = .sale p ctx)))

/-- R74 and R75: REPLACE_PRICE by unicast and group, DISCARD_STAGED in every address mode. -/
def Obligations.ReplacePriceAndDiscardStaged : Prop :=
  ∀ (m : AddrMode) (s : State), s.Serves →
    (∀ (g : Grade) (l : Level) (old new : Nat), m ≠ .broadcast →
      (99999 < old ∨ 99999 < new →
        exec (.replacePrice m g.num l.num old new) s =
          .next ((confirmWake m s).withReplyIn m .replacePrice .badField)) ∧
      (old ≤ 99999 → new ≤ 99999 → s.ptu.active.entry g l ≠ old →
        exec (.replacePrice m g.num l.num old new) s =
          .next ((confirmWake m s).withReplyIn m .replacePrice .stale)) ∧
      (old ≤ 99999 → new ≤ 99999 → s.ptu.active.entry g l = old → new = old →
        exec (.replacePrice m g.num l.num old new) s =
          .next ((confirmWake m s).withReplyIn m .replacePrice .ok)) ∧
      (old ≤ 99999 → new ≤ 99999 → s.ptu.active.entry g l = old → new ≠ old →
        exec (.replacePrice m g.num l.num old new) s =
          .next (beginWrite ((setActive (s.ptu.active.withEntry g l new) (confirmWake m s)).withReplyIn
            m .replacePrice .ok)))) ∧
    (∀ v w old new, m ≠ .broadcast → v = 0 ∨ 8 < v ∨ w = 0 ∨ 2 < w →
      exec (.replacePrice m v w old new) s =
        .next ((confirmWake m s).withReplyIn m .replacePrice .badField)) ∧
    (∀ t, s.ptu.staged = some t →
      exec (.discardStaged m) s =
        .next (beginWrite ((requestWrite .prices { confirmWake m s with
          ptu := { s.ptu with staged := none, pending := false } }).withReplyIn m .discardStaged .ok))) ∧
    (s.ptu.staged = none →
      exec (.discardStaged m) s = .next ((confirmWake m s).withReplyIn m .discardStaged .ok))

/-! ## Control and management (chapters 08, 09, 11) -/

/-- R153 and R176: CLEAR_EVENTS clears the flags of the mask and raises again those whose cause persists; with
NV_FAULT in the mask while the condition stands with cause LOST, METROLOGY is queued. The reply holds the set
as it then stands. (That a named flag that was clear is raised too while its cause persists is the model's own reading,
log 43.) -/
def Obligations.ClearEventsRaisesAgainWhatPersists : Prop :=
  ∀ (s : State) (mask : Nat), s.Serves → mask < 65536 →
    let ev := (s.sli.events &&& ~~~(BitVec.ofNat 16 mask)) ||| (BitVec.ofNat 16 mask &&& persisting s)
    (¬ (mask.testBit 12 = true ∧ s.nvs.condition = .lost) →
      exec (.clearEvents .unicast mask) s =
        .next (((confirmWake .unicast s).withEvents ev).withReply .clearEvents .ok (be 2 ev.toNat))) ∧
    (mask.testBit 12 = true → s.nvs.condition = .lost →
      exec (.clearEvents .unicast mask) s =
        .next (beginWrite ((requestWrite .metrology ((confirmWake .unicast s).withEvents ev)).withReply
          .clearEvents .ok (be 2 ev.toNat))))

/-- R184: ENTER_NIGHT is accepted with a night request held or both sides IDLE or CLOSED, and stops the confirm timer;
the unicast form is answered before the drain, and while a request is held it puts its delay in that one's place; a
group or broadcast form has the part in NIGHT at once where there is nothing to write, and draining otherwise. In any
other case the answer is STATE. R185: the entry cuts off both readers but a TAMPERED one, switches the displays
off, sets the line counter to 0 and the wake timer from the delay; events, prices, records, store and channels
stay. (That a request that is draining goes on draining when a further ENTER_NIGHT replaces its delay, in the unicast
clause, is the model's own reading, log 18.) -/
def Obligations.EnterNightTakesTheDelay : Prop :=
  (∀ (m : AddrMode) (s : State) (delay : Nat), s.Serves →
    ((∃ r, s.psq.night = some r) ∨
      ((s.sideState .a = .idle ∨ ∃ r, s.sideState .a = .closed r) ∧
        (s.sideState .b = .idle ∨ ∃ r, s.sideState .b = .closed r)) →
      (m = .unicast →
        exec (.enterNight m delay) s = .next ({ confirmWake m s with
          psq := { (confirmWake m s).psq with
            night := some ⟨some (min delay 1440), match s.psq.night with
              | none => false
              | some q => q.draining⟩
            confirmTimer := none } }.withReply .enterNight .ok [])) ∧
      (m ≠ .unicast → storeIdle s = true →
        exec (.enterNight m delay) s = .next (enterNight ⟨some (min delay 1440), true⟩ { s with
          psq := { s.psq with night := some ⟨some (min delay 1440), true⟩, confirmTimer := none } })) ∧
      (m ≠ .unicast → storeIdle s = false →
        exec (.enterNight m delay) s = .next { s with
          psq := { s.psq with night := some ⟨some (min delay 1440), true⟩, confirmTimer := none } })) ∧
    (s.psq.night = none →
      (∃ sd, s.sideState sd ≠ .idle ∧ ∀ r, s.sideState sd ≠ .closed r) →
      exec (.enterNight m delay) s = .next ((confirmWake m s).withReplyIn m .enterNight .state))) ∧
  (∀ (s : State) (d : Nat),
    let t := enterNight ⟨some d, true⟩ s
    t.psq.mode = .night ∧ t.psq.night = none ∧ t.psq.displayDemand = false ∧ t.psq.overflowMark = false ∧
    t.psq.wakeTimer = (if d = 0 then none else some (s.now + 60000 * d)) ∧
    t.sli.errors = 0 ∧ t.sli.overflow = false ∧ t.sli.events = s.sli.events ∧ t.lbc.slot = none ∧
    (∀ m, (t.displayModule m).present = (s.displayModule m).present ∧ (t.displayModule m).loss = none) ∧
    (∀ sd, (s.reader sd).state = .tampered → t.reader sd = s.reader sd) ∧
    (∀ sd, (s.reader sd).state ≠ .tampered → (t.reader sd).state = .off .power ∧
      (t.reader sd).up = [] ∧ (t.reader sd).down = []) ∧
    t.sides = s.sides ∧ t.ptu = s.ptu ∧ t.sru = s.sru ∧ t.stack = s.stack ∧ t.mci = s.mci ∧ t.nvs = s.nvs ∧
    t.cfg = s.cfg ∧ t.lines = s.lines ∧ t.now = s.now)

/-- R161, R162, R166, R168: SET_ADDRESS, SET_LINE, SET_TIMERS, SET_WAKE and ARM_WAKE put their fields into the
working configuration and queue CONFIG; a field out of range changes nothing. (The mark `quietAfter` of an accepted
SET_LINE, which R162 needs, is the model's own, log 37.) -/
def Obligations.PlainSettingsReachTheConfiguration : Prop :=
  ∀ s : State, s.Serves →
    (∀ a g, 1 ≤ a → a ≤ 62 → g ≤ 63 →
      exec (.setAddress .unicast a g) s = .next (beginWrite ((requestWrite .config { confirmWake .unicast s with
        cfg := { s.cfg with address := a, group := g } }).withReply .setAddress .ok []))) ∧
    (∀ a g, a = 0 ∨ 62 < a ∨ 63 < g →
      exec (.setAddress .unicast a g) s = .next (s.answeredWith .setAddress .badField [])) ∧
    (∀ v : Speed,
      exec (.setLine .unicast v.num) s = .next (beginWrite ((requestWrite .config { confirmWake .unicast s with
        cfg := { s.cfg with speed := v }, sli := { s.sli with quietAfter := true } }).withReply .setLine .ok []))) ∧
    (∀ v, 3 < v → exec (.setLine .unicast v) s = .next (s.answeredWith .setLine .badField [])) ∧
    (∀ t : TimerFields, (t.auth = 0 ∨ (10 ≤ t.auth ∧ t.auth ≤ 900)) → 500 ≤ t.zero → t.zero ≤ 3000 →
      10 ≤ t.noFlow → t.noFlow ≤ 600 → 10 ≤ t.suspend → t.suspend ≤ 900 → 200 ≤ t.settle → t.settle ≤ 2000 →
      200 ≤ t.loss → t.loss ≤ 3000 → 5 ≤ t.hold → t.hold ≤ 600 → 10 ≤ t.confirm → t.confirm ≤ 600 →
      exec (.setTimers .unicast t) s = .next (beginWrite ((requestWrite .config { confirmWake .unicast s with
        cfg := { s.cfg with timers :=
          ⟨t.auth, t.zero, t.noFlow, t.suspend, t.settle, t.loss, t.hold, t.confirm⟩ } }).withReply
            .setTimers .ok []))) ∧
    (∀ t : TimerFields, (t.auth ≠ 0 ∧ (t.auth < 10 ∨ 900 < t.auth)) ∨ t.zero < 500 ∨ 3000 < t.zero ∨
        t.noFlow < 10 ∨ 600 < t.noFlow ∨ t.suspend < 10 ∨ 900 < t.suspend ∨ t.settle < 200 ∨ 2000 < t.settle ∨
        t.loss < 200 ∨ 3000 < t.loss ∨ t.hold < 5 ∨ 600 < t.hold ∨ t.confirm < 10 ∨ 600 < t.confirm →
      exec (.setTimers .unicast t) s = .next (s.answeredWith .setTimers .badField [])) ∧
    (∀ w : WakeFields, w.port = 255 ∨ w.port ≤ 3 → w.length = 255 ∨ w.length ≤ 120 → w.nozzleA ≤ 1 →
      w.nozzleB ≤ 1 →
      exec (.setWake .unicast w) s = .next (beginWrite ((requestWrite .config { confirmWake .unicast s with
        cfg := { s.cfg with wake :=
          { address := ⟨w.addrValue, w.addrMask⟩
            port := if w.port = 255 then none else some w.port
            code := ⟨w.codeValue, w.codeMask⟩
            length := if w.length = 255 then none else some w.length
            data := ⟨⟨w.value0, w.mask0⟩, ⟨w.value1, w.mask1⟩, ⟨w.value2, w.mask2⟩, ⟨w.value3, w.mask3⟩⟩
            armed := false
            nozzle := ⟨w.nozzleA == 1, w.nozzleB == 1⟩ } } }).withReply .setWake .ok []))) ∧
    (∀ w : WakeFields, (w.port ≠ 255 ∧ 3 < w.port) ∨ (w.length ≠ 255 ∧ 120 < w.length) ∨ 1 < w.nozzleA ∨
        1 < w.nozzleB →
      exec (.setWake .unicast w) s = .next (s.answeredWith .setWake .badField [])) ∧
    (s.cfg.wake.armed = false →
      exec (.armWake .unicast) s = .next (beginWrite ((requestWrite .config { confirmWake .unicast s with
        cfg := { s.cfg with wake := { s.cfg.wake with armed := true } } }).withReply .armWake .ok []))) ∧
    (s.cfg.wake.armed = true →
      exec (.armWake .unicast) s = .next (s.answeredWith .armWake .ok []))

/-- R167, R134, R145: SET_THRESHOLDS with a field out of range is BAD_FIELD and changes no setting; else it is
answered OK and queues CONFIG, brings the site counter and the reader counters to lowered thresholds and quarantines
an ATTACHED reader that is brought down; the overflow flag keeps its state. (That a counter equal to the new
threshold changes nothing is the model's own reading, log 41.) -/
def Obligations.SetThresholdsBringsCountersDown : Prop :=
  (∀ (s : State) (margin reader site fa fb : Nat), s.Serves →
    10000 < margin ∨ reader = 0 ∨ 63 < reader ∨ site = 0 ∨ 255 < site ∨ 1 < fa ∨ 1 < fb →
    exec (.setThresholds .unicast margin reader site fa fb) s =
      .next (s.answeredWith .setThresholds .badField [])) ∧
  ∀ (s : State) (margin reader site : Nat) (fa fb : Bool), s.Serves → margin ≤ 10000 → 1 ≤ reader →
    reader ≤ 63 → 1 ≤ site → site ≤ 255 →
    ∃ t, exec (.setThresholds .unicast margin reader site (flagNum fa) (flagNum fb)) s = .next t ∧
      t.cfg = { s.cfg with thresholds := ⟨margin, reader, site, ⟨fa, fb⟩⟩ } ∧
      t.sli.tx = .waiting (replyFrame s.sli.line.address 3 0x27 .ok []) none ∧
      (.config ∈ t.nvs.queue ∨ t.nvs.job.map WriteJob.content = some (.config t.cfg)) ∧
      t.sli.errors = min s.sli.errors site ∧ t.sli.overflow = s.sli.overflow ∧
      (∀ sd, (s.reader sd).err ≤ reader → t.reader sd = s.reader sd) ∧
      (∀ sd, reader < (s.reader sd).err → (t.reader sd).err = reader ∧
        ((s.reader sd).state = .attached → (t.reader sd).state = .quarantined ∧ (t.reader sd).up = [] ∧
          (t.reader sd).down = [] ∧ t.raised (.readerOut sd) = true) ∧
        ((s.reader sd).state ≠ .attached → (t.reader sd).state = (s.reader sd).state)) ∧
      t.sides = s.sides ∧ t.ptu = s.ptu ∧ t.sru = s.sru ∧ t.stack = s.stack ∧ t.mci = s.mci ∧
      t.lines = s.lines ∧ t.now = s.now

/-- R2, R38, R164: an accepted SET_HOSE is answered OK, puts the record in the map and queues CONFIG, moves a lifted
hose out of its old side's list and to the back of its new side's list, resets the stray counts of meters that change
side, and forms both panels anew; its refusals, STATE where the side of the old or of the new record is not CLOSED; and
the same of a record that unassigns the hose, which leaves its list. -/
def Obligations.SetHoseReplacesOneRecord : Prop :=
  (∀ (s : State) (h : Hose) (q : HoseRec), s.Serves → q.secondary ≠ some q.primary →
    placeTaken s.cfg.hoses h q = false → meterShared (s.cfg.hoses.set h (some q)) = false →
    (∃ r, s.sideState q.side = .closed r) →
    (∀ p, s.cfg.hoses.get h = some p → ∃ r, s.sideState p.side = .closed r) →
    ∃ t, exec (.setHose .unicast h.num 1 q.side.num q.position.num q.grade.num q.primary.num
        (meterNum q.secondary)) s = .next t ∧
      t.cfg = { s.cfg with hoses := s.cfg.hoses.set h (some q) } ∧
      (∀ m, owningSide s.cfg.hoses m = owningSide t.cfg.hoses m → t.channel m = s.channel m) ∧
      (∀ m, owningSide s.cfg.hoses m ≠ owningSide t.cfg.hoses m →
        t.channel m = { s.channel m with stray := 0, strayTold := false }) ∧
      t.sli.tx = .waiting (replyFrame s.sli.line.address 3 0x23 .ok []) none ∧
      (.config ∈ t.nvs.queue ∨ t.nvs.job.map WriteJob.content = some (.config t.cfg)) ∧
      (hoseSide s.cfg.hoses h = some q.side → t.sides = s.sides) ∧
      (hoseSide s.cfg.hoses h ≠ some q.side →
        t.lifted q.side =
          (if s.lines.nozzle.get h then s.lifted q.side ++ [h] else s.lifted q.side)) ∧
      (∀ p, s.cfg.hoses.get h = some p → p.side ≠ q.side →
        t.lifted p.side = (s.lifted p.side).filter (· ≠ h)) ∧
      (s.cfg.hoses.get h = none → t.lifted q.side.other = s.lifted q.side.other) ∧
      (∀ sd, t.sideState sd = s.sideState sd ∧ t.lbc.panels.get sd = formPanel t sd) ∧
      t.ptu = s.ptu ∧ t.sru = s.sru ∧ t.stack = s.stack ∧ t.riu = s.riu ∧ t.lines = s.lines ∧ t.now = s.now) ∧
  (∀ (s : State) (h : Hose), s.Serves →
    (∀ v assigned side p g m1 m2, v = 0 ∨ 8 < v →
      exec (.setHose .unicast v assigned side p g m1 m2) s = .next (s.answeredWith .setHose .badField [])) ∧
    (∀ side p g m1 m2, side = 0 ∨ 2 < side ∨ p = 0 ∨ 4 < p ∨ g = 0 ∨ 8 < g ∨ m1 = 0 ∨ 6 < m1 ∨ 6 < m2 ∨
        m2 = m1 →
      exec (.setHose .unicast h.num 1 side p g m1 m2) s = .next (s.answeredWith .setHose .badField [])) ∧
    (∀ q : HoseRec, q.secondary ≠ some q.primary →
      placeTaken s.cfg.hoses h q = true ∨ meterShared (s.cfg.hoses.set h (some q)) = true →
      exec (.setHose .unicast h.num 1 q.side.num q.position.num q.grade.num q.primary.num
        (meterNum q.secondary)) s = .next (s.answeredWith .setHose .badField [])) ∧
    (∀ q : HoseRec, q.secondary ≠ some q.primary → placeTaken s.cfg.hoses h q = false →
      meterShared (s.cfg.hoses.set h (some q)) = false →
      (∀ r, s.sideState q.side ≠ .closed r) ∨
        (∃ p, s.cfg.hoses.get h = some p ∧ ∀ r, s.sideState p.side ≠ .closed r) →
      exec (.setHose .unicast h.num 1 q.side.num q.position.num q.grade.num q.primary.num
        (meterNum q.secondary)) s = .next (s.answeredWith .setHose .state []))) ∧
  (∀ (s : State) (h : Hose) (side p g m1 m2 : Nat), s.Serves → meterShared (s.cfg.hoses.set h none) = false →
    ((∀ q, s.cfg.hoses.get h = some q → ∃ r, s.sideState q.side = .closed r) →
      ∃ t, exec (.setHose .unicast h.num 0 side p g m1 m2) s = .next t ∧
        t.cfg = { s.cfg with hoses := s.cfg.hoses.set h none } ∧
        t.sli.tx = .waiting (replyFrame s.sli.line.address 3 0x23 .ok []) none ∧
        (.config ∈ t.nvs.queue ∨ t.nvs.job.map WriteJob.content = some (.config t.cfg)) ∧
        (∀ q, s.cfg.hoses.get h = some q → t.lifted q.side = (s.lifted q.side).filter (· ≠ h) ∧
          t.lifted q.side.other = s.lifted q.side.other) ∧
        (s.cfg.hoses.get h = none → t.sides = s.sides) ∧
        (∀ m, owningSide s.cfg.hoses m = owningSide t.cfg.hoses m → t.channel m = s.channel m) ∧
        (∀ m, owningSide s.cfg.hoses m ≠ owningSide t.cfg.hoses m →
          t.channel m = { s.channel m with stray := 0, strayTold := false }) ∧
        (∀ sd, t.sideState sd = s.sideState sd ∧ t.lbc.panels.get sd = formPanel t sd) ∧
        t.ptu = s.ptu ∧ t.sru = s.sru ∧ t.stack = s.stack ∧ t.riu = s.riu ∧ t.lines = s.lines ∧ t.now = s.now) ∧
    (∀ q, s.cfg.hoses.get h = some q → (∀ r, s.sideState q.side ≠ .closed r) →
      exec (.setHose .unicast h.num 0 side p g m1 m2) s = .next (s.answeredWith .setHose .state [])))

/-- R1, R3, R165: SET_METER with its owning side CLOSED or without one replaces the channel's record; a new mode makes
the next observation set the reference. R20, R82: SET_SCALE with both sides CLOSED and both stacks empty replaces
the scale record and forms both panels anew. Both with their refusals, BAD_FIELD before STATE. -/
def Obligations.SetMeterAndSetScaleNeedClosedSides : Prop :=
  (∀ (s : State) (m : Meter) (md : MeterMode) (k : Nat) (trim : Int) (ra sa fmax : Nat), s.Serves →
    ((10 ≤ k ∧ k ≤ 5000) ∧ (-500 ≤ trim ∧ trim ≤ 500) ∧ ra ≤ 255 ∧ sa ≤ 255 ∧ (1 ≤ fmax ∧ fmax ≤ 10000) →
      ((∀ sd, owningSide s.cfg.hoses m = some sd → ∃ r, s.sideState sd = .closed r) →
        (md = (s.cfg.meters.get m).mode →
          exec (.setMeter .unicast m.num md.num k trim ra sa fmax) s =
            .next (beginWrite ((requestWrite .config { confirmWake .unicast s with
              cfg := { s.cfg with meters := s.cfg.meters.set m ⟨md, k, trim, ra, sa, fmax⟩ } }).withReply
                .setMeter .ok []))) ∧
        (md ≠ (s.cfg.meters.get m).mode →
          exec (.setMeter .unicast m.num md.num k trim ra sa fmax) s =
            .next (beginWrite ((requestWrite .config { confirmWake .unicast s with
              cfg := { s.cfg with meters := s.cfg.meters.set m ⟨md, k, trim, ra, sa, fmax⟩ }
              mci := s.mci.set m { s.channel m with reference := none } }).withReply .setMeter .ok [])))) ∧
      (∀ sd, owningSide s.cfg.hoses m = some sd → (∀ r, s.sideState sd ≠ .closed r) →
        exec (.setMeter .unicast m.num md.num k trim ra sa fmax) s =
          .next (s.answeredWith .setMeter .state []))) ∧
    (∀ v w, v = 0 ∨ 6 < v ∨ 1 < w ∨ k < 10 ∨ 5000 < k ∨ trim < -500 ∨ 500 < trim ∨ 255 < ra ∨ 255 < sa ∨
        fmax = 0 ∨ 10000 < fmax →
      exec (.setMeter .unicast v w k trim ra sa fmax) s = .next (s.answeredWith .setMeter .badField []))) ∧
  (∀ (s : State) (dv dp da : Nat) (r : Rounding), s.Serves →
    ((dv = 2 ∨ dv = 3) ∧ dp ≤ 3 ∧ da ≤ 3 ∧ da ≤ dv + dp →
      ((∃ c, s.sideState .a = .closed c) → (∃ c, s.sideState .b = .closed c) → s.stack.a = [] → s.stack.b = [] →
        exec (.setScale .unicast dv dp da r.num) s =
          .next (beginWrite ((handPanel .b (handPanel .a (requestWrite .config { confirmWake .unicast s with
            cfg := { s.cfg with scale := ⟨dv, dp, da, r⟩ } }))).withReply .setScale .ok []))) ∧
      ((∃ sd, (∀ c, s.sideState sd ≠ .closed c) ∨ s.stack.get sd ≠ []) →
        exec (.setScale .unicast dv dp da r.num) s = .next (s.answeredWith .setScale .state []))) ∧
    (∀ w, (dv ≠ 2 ∧ dv ≠ 3) ∨ 3 < dp ∨ 3 < da ∨ dv + dp < da ∨ 1 < w →
      exec (.setScale .unicast dv dp da w) s = .next (s.answeredWith .setScale .badField [])))

/-- R123: SET_ROUTE and CLEAR_ROUTE, their checks in order, and what an accepted one changes. -/
def Obligations.RouteRowsAreLockedByLiveReaders : Prop :=
  ∀ (s : State) (n : Nat) (old : RouteRow), s.Serves → n < 24 → s.cfg.routes[n]? = some old →
    (∀ r : RouteRow, r.low ≤ r.high → r.high ≤ 255 → 1 ≤ r.maxLen → r.maxLen ≤ 96 →
      (r.source.isSite = true → r.action ≠ .supervisor ∧ 4 ≤ r.low) →
      ((old.inUse = true → (s.reader old.source.side).state.live = false) →
        (s.reader r.source.side).state.live = false →
        exec (.setRoute .unicast (n + 1) (flagNum r.inUse) r.source.num r.low r.high r.maxLen r.action.num) s =
          .next (beginWrite ((requestWrite .config { confirmWake .unicast s with
            cfg := { s.cfg with routes := s.cfg.routes.set n r } }).withReply .setRoute .ok []))) ∧
      ((old.inUse = true ∧ (s.reader old.source.side).state.live = true) ∨
        (s.reader r.source.side).state.live = true →
        exec (.setRoute .unicast (n + 1) (flagNum r.inUse) r.source.num r.low r.high r.maxLen r.action.num) s =
          .next (s.answeredWith .setRoute .readerActive []))) ∧
    (∀ row use src low high maxLen act, row = 0 ∨ 24 < row ∨ 1 < use ∨ src = 0 ∨ 4 < src ∨ act = 0 ∨ 4 < act ∨
        high < low ∨ 255 < high ∨ maxLen = 0 ∨ 96 < maxLen ∨ (src ≤ 2 ∧ (act = 2 ∨ low ≤ 3)) →
      exec (.setRoute .unicast row use src low high maxLen act) s =
        .next (s.answeredWith .setRoute .badField [])) ∧
    (old.inUse = true → (s.reader old.source.side).state.live = false →
      exec (.clearRoute .unicast (n + 1)) s =
        .next (beginWrite ((requestWrite .config { confirmWake .unicast s with
          cfg := { s.cfg with routes := s.cfg.routes.set n { old with inUse := false } } }).withReply
            .clearRoute .ok []))) ∧
    (old.inUse = true → (s.reader old.source.side).state.live = true →
      exec (.clearRoute .unicast (n + 1)) s = .next (s.answeredWith .clearRoute .readerActive [])) ∧
    (old.inUse = false →
      exec (.clearRoute .unicast (n + 1)) s = .next (s.answeredWith .clearRoute .ok [])) ∧
    (∀ row, row = 0 ∨ 24 < row →
      exec (.clearRoute .unicast row) s = .next (s.answeredWith .clearRoute .badField []))

/-- R62, R12, R39: an accepted OPEN_SIDE is answered OK, opens the side to IDLE, or to CALLING with its call event,
sets the side-open flag, queues CONFIG and resets the stray counts of the side's meters; and its refusals. -/
def Obligations.OpenSideOpensOrRefuses : Prop :=
  ∀ (s : State) (sd : Side), s.Serves →
    (∀ r, s.sideState sd = .closed r → (∃ h, hoseSide s.cfg.hoses h = some sd) →
      (s.lbc.modules.sale.get sd).present = true → (s.lbc.modules.panel.get sd).present = true →
      s.nvs.condition = .clear →
      ∃ t, exec (.openSide .unicast sd.num) s = .next t ∧
        t.sideState sd = (if s.lifted sd = [] then .idle else .calling) ∧
        (s.lifted sd ≠ [] → t.raised (.call sd) = true) ∧
        t.cfg = { s.cfg with sideOpen := s.cfg.sideOpen.set sd true } ∧
        (.config ∈ t.nvs.queue ∨ t.nvs.job.map WriteJob.content = some (.config t.cfg)) ∧
        t.sli.tx = .waiting (replyFrame s.sli.line.address 3 0x2D .ok []) none ∧
        (∀ m, owningSide s.cfg.hoses m = some sd →
          t.channel m = { s.channel m with stray := 0, strayTold := false }) ∧
        (∀ m, owningSide s.cfg.hoses m ≠ some sd → t.channel m = s.channel m) ∧
        t.side sd.other = s.side sd.other ∧ t.lbc.panels.get sd = formPanel t sd ∧
        t.ptu = s.ptu ∧ t.sru = s.sru ∧ t.stack = s.stack ∧ t.riu = s.riu ∧ t.lines = s.lines ∧ t.now = s.now) ∧
    ((∀ r, s.sideState sd ≠ .closed r) ∨ (∀ h, hoseSide s.cfg.hoses h ≠ some sd) ∨
        (s.lbc.modules.sale.get sd).present = false ∨ (s.lbc.modules.panel.get sd).present = false ∨
        s.nvs.condition ≠ .clear →
      exec (.openSide .unicast sd.num) s = .next (s.answeredWith .openSide .state [])) ∧
    (∀ v, v ≠ 1 → v ≠ 2 → exec (.openSide .unicast v) s = .next (s.answeredWith .openSide .badField []))

/-- R60 and R61: CLOSE_SIDE, answered OK in every side state; a side with a sale is stopped with SITE_STOP and closes
at its completion; the side-open flag is cleared in every state, and CONFIG is queued where it was set. -/
def Obligations.CloseSideClosesOrWaits : Prop :=
  ∀ (s : State) (sd : Side), s.Serves →
    (∀ v, v ≠ 1 → v ≠ 2 → exec (.closeSide .unicast v) s = .next (s.answeredWith .closeSide .badField [])) ∧
    ∃ t, exec (.closeSide .unicast sd.num) s = .next t ∧
      t.sli.tx = .waiting (replyFrame s.sli.line.address 3 0x2E .ok []) none ∧
      t.cfg = { s.cfg with sideOpen := s.cfg.sideOpen.set sd false } ∧
      t.sideState sd = (match s.sideState sd with
        | .closed r => .closed r
        | .idle => .closed .management
        | .calling => .closed .management
        | .authorized _ => .closed .management
        | .sale (.stopped e) ctx => .sale (.stopped e) { ctx with
            closureAfter := some (ctx.closureAfter.getD .management) }
        | .sale _ ctx => .sale (.stopped ⟨.siteStop, none, ctx.figures.volume,
            if ctx.hangSeen then some (s.now + s.cfg.timers.settle) else none⟩) { ctx with
              closureAfter := some (ctx.closureAfter.getD .management) }) ∧
      t.side sd.other = s.side sd.other ∧ t.lifted sd = s.lifted sd ∧ t.sli.events = s.sli.events ∧
      (s.cfg.sideOpen.get sd = false → t.nvs = s.nvs) ∧
      (s.cfg.sideOpen.get sd = true →
        .config ∈ t.nvs.queue ∨ t.nvs.job.map WriteJob.content = some (.config t.cfg)) ∧
      t.ptu = s.ptu ∧ t.sru = s.sru ∧ t.stack = s.stack ∧ t.mci = s.mci ∧ t.riu = s.riu ∧ t.lines = s.lines ∧
      t.now = s.now

/-- R136 and R137: READER_ATTACH, its checks in order, with the supply of a reader in PROBING on, and READER_ISOLATE
by reader state. -/
def Obligations.ReadersAreAttachedAndIsolated : Prop :=
  ∀ (s : State) (sd : Side), s.Serves →
    ((s.reader sd).state.live = true →
      exec (.readerAttach .unicast sd.num) s = .next (s.answeredWith .readerAttach .state [])) ∧
    ((s.reader sd).state.live = false →
      (s.lines.tamper.get sd = true →
        exec (.readerAttach .unicast sd.num) s = .next (s.answeredWith .readerAttach .tamperActive [])) ∧
      (s.lines.tamper.get sd = false →
        ((s.reader sd).state = .quarantined → (s.reader sd).hold ≠ .expired →
          exec (.readerAttach .unicast sd.num) s = .next (s.answeredWith .readerAttach .hold [])) ∧
        ((s.reader sd).state ≠ .quarantined ∨ (s.reader sd).hold = .expired →
          exec (.readerAttach .unicast sd.num) s =
            .next (((confirmWake .unicast s).withReader sd { s.reader sd with
              state := .probing, hold := .stopped, probe := some (s.now + 2000) }).withReply
                .readerAttach .ok [])))) ∧
    ((s.reader sd).state.live = true →
      exec (.readerIsolate .unicast sd.num) s =
        .next ((cutReader sd (.off .isolated) .stopped false (confirmWake .unicast s)).withReply
          .readerIsolate .ok [])) ∧
    (∀ r, (s.reader sd).state = .off r →
      exec (.readerIsolate .unicast sd.num) s =
        .next (((confirmWake .unicast s).withReader sd { s.reader sd with state := .off .isolated }).withReply
          .readerIsolate .ok [])) ∧
    ((s.reader sd).state = .quarantined ∨ (s.reader sd).state = .tampered →
      exec (.readerIsolate .unicast sd.num) s = .next (s.answeredWith .readerIsolate .ok [])) ∧
    (∀ x : ReaderRec, x.state = .probing → readerSupplyOut (s.withReader sd x) sd = true) ∧
    (∀ v, v ≠ 1 → v ≠ 2 →
      exec (.readerAttach .unicast v) s = .next (s.answeredWith .readerAttach .badField []) ∧
      exec (.readerIsolate .unicast v) s = .next (s.answeredWith .readerIsolate .badField []))

/-- R170, R185: RESTART is answered OK with no authorization, no sale and no night request in RUN, and always in
FAILSAFE; otherwise STATE. The drain waits for the reply. -/
def Obligations.RestartIsAnsweredBeforeItDrains : Prop :=
  ∀ (s : State), s.Live → s.sli.tx = .idle → s.psq.restart ≠ .draining →
    (s.psq.mode = .run → s.psq.night = none → (∀ sd, (s.sideState sd).busy = false) →
      exec (.restart .unicast) s = .next ({ confirmWake .unicast s with
        psq := { (confirmWake .unicast s).psq with restart := .replying } }.withReply .restart .ok [])) ∧
    (s.psq.mode = .failsafe →
      exec (.restart .unicast) s = .next ({ s with
        psq := { s.psq with restart := .replying } }.withReply .restart .ok [])) ∧
    (s.psq.mode = .run → s.psq.night ≠ none ∨ (∃ sd, (s.sideState sd).busy = true) →
      exec (.restart .unicast) s = .next (s.answeredWith .restart .state []))

/-- R121, R124, R126: a tunnel frame by the first matching row of the port's source, and a fetch, in every reader
state. -/
def Obligations.TunnelFramesFollowTheRouteTable : Prop :=
  ∀ (s : State) (sd : Side), s.Serves →
    (∀ (payload : List Byte), payload ≠ [] →
      (96 < payload.length →
        exec (.tunnel .unicast sd payload) s = .next (s.answeredWith (.tunnel sd) .badLength [])) ∧
      (payload.length ≤ 96 →
        (s.cfg.routes.find? (fun r => r.matchesCode (.site sd) (payload.headD 0).toNat) = none →
          exec (.tunnel .unicast sd payload) s = .next (s.answeredWith (.tunnel sd) .noRoute [])) ∧
        (∀ r, s.cfg.routes.find? (fun r => r.matchesCode (.site sd) (payload.headD 0).toNat) = some r →
          (r.maxLen < payload.length →
            exec (.tunnel .unicast sd payload) s = .next (s.answeredWith (.tunnel sd) .refused [])) ∧
          (payload.length ≤ r.maxLen →
            (r.action = .drop →
              exec (.tunnel .unicast sd payload) s = .next (((confirmWake .unicast s).withReader sd
                { s.reader sd with drops := ((s.reader sd).drops + 1) % 4294967296 }).withReply
                  (.tunnel sd) .accepted [])) ∧
            (r.action = .violation →
              exec (.tunnel .unicast sd payload) s = .next (((confirmWake .unicast s).withReader sd
                { s.reader sd with violations := ((s.reader sd).violations + 1) % 4294967296 }).withReply
                  (.tunnel sd) .refused [])) ∧
            (r.action = .forward →
              ((s.reader sd).state ≠ .attached →
                exec (.tunnel .unicast sd payload) s =
                  .next (s.answeredWith (.tunnel sd) .readerUnavailable [])) ∧
              ((s.reader sd).state = .attached → 2 ≤ (s.reader sd).down.length →
                exec (.tunnel .unicast sd payload) s = .next (s.answeredWith (.tunnel sd) .busy [])) ∧
              ((s.reader sd).state = .attached → (s.reader sd).down.length < 2 →
                exec (.tunnel .unicast sd payload) s = .next (((confirmWake .unicast s).withReader sd
                  { s.reader sd with down := (s.reader sd).down ++ [payload] }).withReply
                    (.tunnel sd) .accepted []))))))) ∧
    ((s.reader sd).up = [] →
      exec (.fetch .unicast sd) s = .next (s.answeredWith (.fetch sd) .ok
        (byte1 (s.reader sd).state.num ++ byte1 (s.reader sd).state.offNum ++ [0, 0]))) ∧
    (∀ first rest, (s.reader sd).up = first :: rest →
      exec (.fetch .unicast sd) s = .next (((confirmWake .unicast s).withReader sd
        { s.reader sd with up := rest }).withReply (.fetch sd) .ok
          (byte1 (s.reader sd).state.num ++ byte1 (s.reader sd).state.offNum ++ byte1 rest.length ++
            byte1 first.length ++ first)))

/-! ## The site line (chapter 08) -/

/-- R143 and R144: the receiver's three states under a character, a quiet line and a gap in a frame, and what
one error and one good frame do to the counter, the flag and the lifetime total. (Rests in part on the model's
own choices of logs 5, 29.) R149: a character that arrives before a reply in waiting has begun abandons it and is
then taken; R143: the receiver is off while a reply is being sent. -/
def Obligations.TheReceiverCountsEveryError : Prop :=
  (∀ (s : State) (c : SiteChar), s.powered = true →
    ((∃ r more, s.sli.tx = .waiting r more) ∨ (∃ second, s.sli.tx = .gap second) →
      (finish (abandonReply s)).sli.tx = .idle ∧
      exec (.siteCharacter c) s = exec (.siteCharacter c) (finish (abandonReply s))) ∧
    (∀ r more, s.sli.tx = .sending r more → s.Settled →
      exec (.siteCharacter c) s = .next s ∧ exec .lineQuiet s = .next s ∧ exec .frameGap s = .next s)) ∧
  (∀ s : State, s.Live → s.sli.tx = .idle →
    (s.sli.rx = .waitQuiet →
      (∀ c, exec (.siteCharacter c) s = .next s) ∧
      exec .lineQuiet s = .next (s.withSli { s.sli with rx := .hunt }) ∧ exec .frameGap s = .next s) ∧
    (s.sli.rx = .hunt →
      (s.psq.mode ≠ .night →
        exec (.siteCharacter (.byte 0xD5)) s = .next (s.withSli { s.sli with rx := .frame [] })) ∧
      (∀ b, b ≠ 0xD5 →
        exec (.siteCharacter (.byte b)) s = .next (s.withSli { s.sli with rx := .waitQuiet })) ∧
      exec (.siteCharacter .parityError) s = .next (countError (s.withSli { s.sli with rx := .waitQuiet })) ∧
      exec (.siteCharacter .framingError) s = .next (countError (s.withSli { s.sli with rx := .waitQuiet })) ∧
      exec .lineQuiet s = .next s ∧ exec .frameGap s = .next s) ∧
    (∀ got, s.sli.rx = .frame got →
      (got.length < 2 → ∀ b,
        exec (.siteCharacter (.byte b)) s = .next (s.withSli { s.sli with rx := .frame (got ++ [b]) })) ∧
      (got.length = 2 → ∀ b, b.toNat ≤ 120 →
        exec (.siteCharacter (.byte b)) s = .next (s.withSli { s.sli with rx := .frame (got ++ [b]) })) ∧
      (got.length = 2 → ∀ b, 120 < b.toNat →
        exec (.siteCharacter (.byte b)) s =
          .next (countError (s.withSli { s.sli with rx := .waitQuiet }))) ∧
      exec (.siteCharacter .parityError) s = .next (countError (s.withSli { s.sli with rx := .waitQuiet })) ∧
      exec (.siteCharacter .framingError) s = .next (countError (s.withSli { s.sli with rx := .waitQuiet })) ∧
      exec .lineQuiet s = .next s ∧
      exec .frameGap s = .next (countError (s.withSli { s.sli with rx := .waitQuiet })))) ∧
  (∀ s : State,
    (s.sli.errors < s.cfg.thresholds.site →
      countError s = s.withSli { s.sli with
        errors := s.sli.errors + 1, frameErrors := (s.sli.frameErrors + 1) % 4294967296 }) ∧
    (s.cfg.thresholds.site ≤ s.sli.errors → s.sli.overflow = true →
      countError s = s.withSli { s.sli with frameErrors := (s.sli.frameErrors + 1) % 4294967296 }) ∧
    (s.cfg.thresholds.site ≤ s.sli.errors → s.sli.overflow = false →
      (countError s).sli = { s.sli with
        frameErrors := (s.sli.frameErrors + 1) % 4294967296, overflow := true
        events := s.sli.events ||| Event.linkDegraded.bit } ∧
      (countError s).psq = (if s.psq.mode = .night then { s.psq with overflowMark := true } else s.psq)) ∧
    countGood s = s.withSli { s.sli with
      errors := s.sli.errors - 1, overflow := s.sli.overflow && decide (1 < s.sli.errors) })

/-- R142, R143, R149, R162, R170, R185, R201: a reply begins and ends, and after one to an accepted SET_LINE, or
where the speed changes, the receiver enters WAIT_QUIET, also when it is abandoned; what waits for its end (line
settings, the night drain, the restart drain) takes effect then, and the first of two READ_TOTALS replies is followed
by the second. A reply that is being sent when NIGHT is entered keeps its settings to its end. (Rests in part on the
model's own choices of logs 19, 37.) -/
def Obligations.RepliesAreSentBeforeWhatWaits : Prop :=
  (∀ (s : State) (q : NightRequest) (r : List Byte) (more : Option (List Byte)), s.sli.tx = .sending r more →
    (enterNight q s).sli.line = s.sli.line ∧ (enterNight q s).sli.tx = .sending r none) ∧
  (∀ (s : State) (r : List Byte) (more : Option (List Byte)), s.sli.tx = .waiting r more →
    s.psq.night = none → s.psq.restart = .none →
    abandonReply s = s.withSli { s.sli with
      tx := .idle
      rx := if s.cfg.speed = s.sli.line.speed ∧ s.sli.quietAfter = false then s.sli.rx else .waitQuiet
      quietAfter := false
      line := ⟨s.cfg.address, s.cfg.group, s.cfg.speed⟩ }) ∧
  ∀ s : State, s.Live →
    (∀ r more, s.sli.tx = .waiting r more →
      exec .replySend s = .next (s.withSli { s.sli with tx := .sending r more })) ∧
    (∀ r second, s.sli.tx = .sending r (some second) →
      exec .replySent s = .next (s.withSli { s.sli with tx := .gap second, rx := .hunt })) ∧
    (∀ second, s.sli.tx = .gap second →
      exec .totalsPart2 s = .next (s.withSli { s.sli with tx := .sending second none })) ∧
    (∀ r, s.sli.tx = .sending r none →
      let l : Sli := { s.sli with
        tx := .idle
        rx := if s.cfg.speed = s.sli.line.speed ∧ s.sli.quietAfter = false then .hunt else .waitQuiet
        quietAfter := false
        line := ⟨s.cfg.address, s.cfg.group, s.cfg.speed⟩ }
      (s.psq.night = none → s.psq.restart = .none → exec .replySent s = .next (s.withSli l)) ∧
      (∀ q, s.psq.night = some q → s.psq.restart = .none → storeIdle s = true →
        exec .replySent s = .next (enterNight { q with draining := true }
          ((s.withSli l).withPsq { s.psq with night := some { q with draining := true } }))) ∧
      (s.psq.night = none → s.psq.restart = .replying → storeIdle s = true →
        exec .replySent s = .next (beginSequence .restart true (beginRestartDrain (s.withSli l)))))

/-! ## The local bus and the readers (chapters 06 and 07) -/

/-- R101, R102, R109 to R113, R115: a display module's slot sends its content as it stands when the slot begins, by
mode and side state, and the slots follow each other in the fixed order. R100, R103, R104, R110: in the slot the
answer window follows the part's frame; a good echo makes the module PRESENT and restarts its loss timer, and proves
the zero content of a sale; any other answer, no answer, a gap and the slot's limit change no module; the slot then
ends. (Rests in part on the model's own choices of logs 2, 20, 40.) -/
def Obligations.OnlyAGoodEchoProvesADisplay : Prop :=
  (∀ (s : State) (m : DisplayModule),
    let content := displayContent s m
    let body := (SlotId.display m).address :: BitVec.ofNat 8 (content.length + 1) :: 0x10 :: content
    beginSlot (.display m) s = s.withLbc { s.lbc with
      slot := some
        { slotId := .display m
          frame := 0xE7 :: body ++ be 2 (crc16 body).toNat
          payload := 0x10 :: content
          check := crc16 content
          zero := zeroSlot s m
          sent := false
          take := true
          answerBy := none
          limit := s.now + 10 } }) ∧
  (∀ (s : State) (sl : Slot), s.lbc.slot = some sl → endSlot s = beginSlot (match sl.slotId with
    | .display (.sale .a) => .display (.sale .b)
    | .display (.sale .b) => .display (.panel .a)
    | .display (.panel .a) => .display (.panel .b)
    | .display (.panel .b) => .reader .a
    | .reader .a => .reader .b
    | .reader .b => .display (.sale .a)) s) ∧
  (∀ (s : State) (sd : Side),
    (s.psq.mode = .poweringUp (.displays true) →
      displayContent s (.sale sd) = List.replicate 17 0x8C ++ [0x0F] ∧
      displayContent s (.panel sd) = List.replicate 20 0x8C) ∧
    (∀ st, s.psq.mode = .poweringUp st → st ≠ .displays true →
      displayContent s (.sale sd) = List.replicate 17 0x0A ++ [0] ∧
      displayContent s (.panel sd) = List.replicate 20 0x0A) ∧
    (s.psq.mode = .run →
      (let group (g : Option Nat) : List Byte := match g with
        | none => List.replicate 5 0x0B
        | some v => figureField 5 s.cfg.scale.dp v
      displayContent s (.panel sd) = group (s.lbc.panels.get sd).p1 ++ group (s.lbc.panels.get sd).p2 ++
        group (s.lbc.panels.get sd).p3 ++ group (s.lbc.panels.get sd).p4) ∧
      (∀ r, s.sideState sd = .closed r → displayContent s (.sale sd) =
        List.replicate 6 0x0B ++ figureField 6 0 r.num ++ List.replicate 5 0x0A ++ [0x08]) ∧
      (s.sideState sd = .idle ∨ s.sideState sd = .calling ∨ (∃ a, s.sideState sd = .authorized a) →
        (∀ r, newestRecord s.sru.journal sd = some r → r.scale = s.cfg.scale →
          displayContent s (.sale sd) = figureField 6 r.scale.da r.amount ++ figureField 6 r.scale.dv r.volume ++
            figureField 5 r.scale.dp r.price ++ [if r.level = .l2 then 0x03 else 0x02]) ∧
        ((∀ r, newestRecord s.sru.journal sd = some r → r.scale ≠ s.cfg.scale) →
          displayContent s (.sale sd) = figureField 6 s.cfg.scale.da 0 ++ figureField 6 s.cfg.scale.dv 0 ++
            List.replicate 5 0x0A ++ [0])) ∧
      (∀ d ctx, s.sideState sd = .sale (.starting d) ctx →
        (2 * (s.now - ctx.figures.start) < ctx.zeroTime →
          displayContent s (.sale sd) = List.replicate 17 0x8C ++ [0x0F] ∧ zeroSlot s (.sale sd) = false) ∧
        (ctx.zeroTime ≤ 2 * (s.now - ctx.figures.start) →
          displayContent s (.sale sd) =
            figureField 6 ctx.figures.scale.da 0 ++ figureField 6 ctx.figures.scale.dv 0 ++
              figureField 5 ctx.figures.scale.dp ctx.latch.price ++
              [if ctx.latch.level = .l2 then 0x01 else 0x00] ∧ zeroSlot s (.sale sd) = true)) ∧
      (∀ p ctx, s.sideState sd = .sale p ctx → (∀ d, p ≠ .starting d) →
        displayContent s (.sale sd) =
          figureField 6 ctx.figures.scale.da ctx.figures.amount ++
            figureField 6 ctx.figures.scale.dv ctx.figures.volume ++
            figureField 5 ctx.figures.scale.dp ctx.latch.price ++
            [if ctx.latch.level = .l2 then 0x01 else 0x00] ∧ zeroSlot s (.sale sd) = false))) ∧
  ∀ (s : State) (sl : Slot) (m : DisplayModule), s.Live → s.psq.mode = .run → s.lbc.slot = some sl →
    sl.slotId = .display m →
    (sl.sent = false → exec .localFrameSent s = .next (s.withLbc { s.lbc with
      slot := some { sl with sent := true, answerBy := some (s.now + 5) } })) ∧
    (sl.sent = true → sl.take = true →
      let done := s.withLbc { s.lbc with slot := some { sl with take := false } }
      let proved := done.withLbc { done.lbc with
        modules := s.lbc.modules.set m ⟨true, some (s.now + s.cfg.timers.loss)⟩ }
      let echo := LocalAnswer.frame (sl.slotId.address ||| 0x80) (0x90 :: be 2 sl.check.toNat)
        (crc16 ((sl.slotId.address ||| 0x80) :: 3 :: 0x90 :: be 2 sl.check.toNat))
      (sl.zero = false → exec (.localAnswer echo) s = .next (endSlot proved)) ∧
      (sl.zero = true → ∀ d ctx, s.sideState m.side = .sale (.starting d) ctx →
        exec (.localAnswer echo) s = .next (endSlot (proved.withSideState m.side
          (.sale (.starting d) { ctx with zeroVerified := true })))) ∧
      (∀ address payload check, check ≠ crc16 (localBody address payload) ∨ 100 < payload.length ∨
          address ≠ (sl.slotId.address ||| 0x80) ∨ payload ≠ 0x90 :: be 2 sl.check.toNat →
        exec (.localAnswer (.frame address payload check)) s = .next (endSlot done)) ∧
      exec (.localAnswer .lineError) s = .next (endSlot done) ∧
      exec .localCharacterGap s = .next done ∧
      (∀ d, sl.answerBy = some d → exec .localNoAnswer s = .next (endSlot { done with now := max s.now d })) ∧
      exec .slotLimit s = .next (endSlot { done with now := max s.now sl.limit }))

/-- R128, R129, R127, R101: what a reader's slot sends, or that it is skipped. R100, R101: the case in which an answer
is taken there. R121, R130, R132, R133, R138: what the answer does to a reader that is ATTACHED or PROBING. (Rests in
part on the model's own choices of logs 2, 20.) -/
def Obligations.ReaderAnswersAreCounted : Prop :=
  (∀ (s : State) (sd : Side),
    let skipped := beginSlot (match sd with
      | .a => .reader .b
      | .b => .display (.sale .a)) s
    let sends (payload : List Byte) (r : ReaderRec) : State :=
      (s.withReader sd r).withLbc { s.lbc with
        slot := some
          { slotId := .reader sd
            frame := 0xE7 :: (SlotId.reader sd).address :: BitVec.ofNat 8 payload.length :: payload ++
              be 2 (crc16 ((SlotId.reader sd).address :: BitVec.ofNat 8 payload.length :: payload)).toNat
            payload := payload
            check := 0
            zero := false
            sent := false
            take := true
            answerBy := none
            limit := s.now + 30 } }
    let r := s.reader sd
    ((∃ q, r.state = .off q) ∨ r.state = .quarantined ∨ r.state = .tampered ∨
        (r.state = .probing ∧ r.probe = none) ∨ 4 ≤ r.up.length → beginSlot (.reader sd) s = skipped) ∧
    (r.up.length < 4 →
      (r.state = .probing → r.probe ≠ none → beginSlot (.reader sd) s = sends [0x02] r) ∧
      (r.state = .attached →
        (∀ payload rest, r.down = payload :: rest →
          beginSlot (.reader sd) s = sends payload { r with down := rest }) ∧
        (r.down = [] →
          (∀ p ctx, s.sideState sd = .sale p ctx → s.cfg.thresholds.feed.get sd = true →
            (∀ last, r.lastFigures = some last → last + 500 ≤ s.now) →
            beginSlot (.reader sd) s =
              sends (0x03 :: (byte1 (s.sideState sd).num ++ byte1 ctx.hose.num ++ be 3 ctx.figures.volume ++
                be 3 ctx.figures.amount ++ be 3 ctx.latch.price)) { r with lastFigures := some s.now }) ∧
          (s.cfg.thresholds.feed.get sd = false ∨ (s.sideState sd).sale? = none ∨
              (∃ last, r.lastFigures = some last ∧ s.now < last + 500) →
            beginSlot (.reader sd) s = sends [0x02] r))))) ∧
  (∀ (s : State) (sl : Slot) (sd : Side), s.Live → s.lbc.slot = some sl → sl.slotId = .reader sd →
    let done := s.withLbc { s.lbc with slot := some { sl with take := false } }
    let good (payload : List Byte) : LocalAnswer := .frame (sl.slotId.address ||| 0x80) payload
      (crc16 ((sl.slotId.address ||| 0x80) :: BitVec.ofNat 8 payload.length :: payload))
    (sl.sent = true → sl.take = true → s.psq.mode ≠ .poweringUp .readers →
      (∀ payload, payload.length ≤ 100 →
        exec (.localAnswer (good payload)) s = .next (endSlot (takeReaderAnswer sd (.good payload) done))) ∧
      (∀ address payload check, check ≠ crc16 (localBody address payload) ∨ 100 < payload.length ∨
          address ≠ (sl.slotId.address ||| 0x80) →
        exec (.localAnswer (.frame address payload check)) s =
          .next (endSlot (takeReaderAnswer sd .bad done))) ∧
      exec (.localAnswer .lineError) s = .next (endSlot (takeReaderAnswer sd .bad done)) ∧
      exec .localCharacterGap s = .next (takeReaderAnswer sd .bad done) ∧
      (∀ d, sl.answerBy = some d →
        exec .localNoAnswer s =
          .next (endSlot (takeReaderAnswer sd .none { done with now := max s.now d }))) ∧
      exec .slotLimit s =
        .next (endSlot (takeReaderAnswer sd .bad { done with now := max s.now sl.limit }))) ∧
    (sl.sent = true → sl.take = true → s.psq.mode = .poweringUp .readers →
      ∀ payload, payload.length ≤ 100 → exec (.localAnswer (good payload)) s =
        .next (finish (endSlot (readyCheck (takeReaderAnswer sd (.good payload) done))))) ∧
    (sl.sent = true → sl.take = false →
      (∀ ans, exec (.localAnswer ans) s = .next (endSlot s)) ∧ exec .localCharacterGap s = .next s)) ∧
  ∀ (s : State) (sd : Side),
    let r := s.reader sd
    let counted (x : ReaderRec) : State :=
      if r.err + 1 < s.cfg.thresholds.reader then s.withReader sd { x with err := r.err + 1 }
      else cutReader sd .quarantined (.running (s.now + 1000 * s.cfg.timers.hold)) true
        (s.withReader sd { x with err := r.err + 1 })
    (r.state = .attached → r.err < s.cfg.thresholds.reader →
      takeReaderAnswer sd .none s = counted r ∧ takeReaderAnswer sd .bad s = counted r ∧
      takeReaderAnswer sd (.good []) s = s ∧ takeReaderAnswer sd (.good [0]) s = s ∧
      (∀ code rest, code :: rest ≠ [0] →
        (s.cfg.routes.find? (fun x => x.matchesCode (.reader sd) code.toNat) = none →
          takeReaderAnswer sd (.good (code :: rest)) s =
            counted { r with violations := (r.violations + 1) % 4294967296 }) ∧
        (∀ row, s.cfg.routes.find? (fun x => x.matchesCode (.reader sd) code.toNat) = some row →
          (row.maxLen < rest.length + 1 → takeReaderAnswer sd (.good (code :: rest)) s = counted r) ∧
          (rest.length + 1 ≤ row.maxLen →
            (row.action = .forward → takeReaderAnswer sd (.good (code :: rest)) s =
              s.withReader sd { r with err := r.err - 1, up := r.up ++ [code :: rest] }) ∧
            (row.action = .drop → takeReaderAnswer sd (.good (code :: rest)) s =
              s.withReader sd { r with drops := (r.drops + 1) % 4294967296 }) ∧
            (row.action = .violation → takeReaderAnswer sd (.good (code :: rest)) s =
              counted { r with violations := (r.violations + 1) % 4294967296 }) ∧
            (row.action = .supervisor →
              (code ≠ 1 ∨ rest.length ≠ 1 → takeReaderAnswer sd (.good (code :: rest)) s =
                s.withReader sd { r with err := r.err - 1, drops := (r.drops + 1) % 4294967296 }) ∧
              (∀ f, code = 1 → rest = [f] →
                let fine := s.withReader sd { r with err := r.err - 1 }
                (f.getLsbD 1 = false →
                  takeReaderAnswer sd (.good (code :: rest)) s = cutReader sd .tampered .stopped true fine) ∧
                (f.getLsbD 1 = true → f.getLsbD 0 = false → takeReaderAnswer sd (.good (code :: rest)) s =
                  cutReader sd (.off .absent) .stopped true fine) ∧
                (f.getLsbD 1 = true → f.getLsbD 0 = true →
                  takeReaderAnswer sd (.good (code :: rest)) s = fine))))))) ∧
    (r.state = .probing →
      takeReaderAnswer sd .none s = s ∧ takeReaderAnswer sd .bad s = s ∧
      (∀ payload, (∀ f, payload ≠ [1, f]) → takeReaderAnswer sd (.good payload) s = s) ∧
      (∀ f : Byte,
        (f.getLsbD 1 = true → f.getLsbD 0 = true → takeReaderAnswer sd (.good [1, f]) s = s.withReader sd { r with
          state := .attached, probe := none, err := 0, lastFigures := none }) ∧
        (f.getLsbD 1 = false → takeReaderAnswer sd (.good [1, f]) s = cutReader sd .tampered .stopped true s) ∧
        (f.getLsbD 1 = true → f.getLsbD 0 = false → takeReaderAnswer sd (.good [1, f]) s = s))) ∧
    (r.state.cut = true → ∀ ans, takeReaderAnswer sd ans s = s)

/-- R119, R134, R135, R138: the probe and hold timers, the tamper line, and what cutting a reader off does: its
queues are emptied into the flushed total, its supply goes off, a slot in progress for it is abandoned, its event is
raised where asked. (Rests in part on the model's own choices of logs 2, 21.) -/
def Obligations.CutReadersAreFlushed : Prop :=
  (∀ (s : State) (sd : Side) (st : ReaderState) (hold : HoldTimer) (report : Bool),
    let t := cutReader sd st hold report s
    t.reader sd = { s.reader sd with
      state := st, probe := none, hold := hold, up := [], down := []
      flushed := ((s.reader sd).flushed + ((s.reader sd).up.length + (s.reader sd).down.length)) % 4294967296 } ∧
    t.reader sd.other = s.reader sd.other ∧
    (∀ sl, s.lbc.slot = some sl → sl.slotId = .reader sd → t.lbc.slot = some { sl with take := false }) ∧
    ((∀ sl, s.lbc.slot = some sl → sl.slotId ≠ .reader sd) → t.lbc = s.lbc) ∧
    (report = true → t.sli = { s.sli with events := s.sli.events ||| (Event.readerOut sd).bit }) ∧
    (report = false → t.sli = s.sli) ∧
    (st.cut = true → readerSupplyOut t sd = false) ∧
    t = { s with riu := t.riu, lbc := t.lbc, sli := t.sli }) ∧
  (∀ (s : State) (sd : Side), s.Live → s.psq.mode ≠ .poweringUp .readers →
    (∀ d, (s.reader sd).state = .probing → (s.reader sd).probe = some d →
      exec (.probeTimer sd) s =
        .next (cutReader sd (.off .absent) .stopped true { s with now := max s.now d })) ∧
    (∀ d, (s.reader sd).hold = .running d →
      exec (.holdTimer sd) s = .next ({ s with now := max s.now d }.withReader sd
        { s.reader sd with hold := .expired })) ∧
    (s.lines.tamper.get sd = false → (s.reader sd).state ≠ .tampered →
      exec (.tamperActive sd) s = .next (cutReader sd .tampered .stopped true
        { s with lines := { s.lines with tamper := s.lines.tamper.set sd true } })) ∧
    (s.lines.tamper.get sd = false → (s.reader sd).state = .tampered →
      exec (.tamperActive sd) s =
        .next { s with lines := { s.lines with tamper := s.lines.tamper.set sd true } }) ∧
    exec (.tamperInactive sd) s =
      .next { s with lines := { s.lines with tamper := s.lines.tamper.set sd false } })

/-! ## Faults of a side (chapters 01, 03, 06, 10) -/

/-- R54, R56, R57, R60, R104, R106: what a lost module, a stray report, a report of an engaged meter and the
third METROLOGY failure do in each side state, and what an entry to CLOSED does. (Rests in part on the model's
own choices of log 2.) -/
def Obligations.FaultsActByTheSideState : Prop :=
  (∀ (s : State) (m : DisplayModule) (d : Nat), s.Live → s.psq.mode = .run →
    s.lbc.modules.get m = ⟨true, some d⟩ →
    exec (.lossTimer m) s = .next (finish (takeLoss m.side { s with
      now := max s.now d, lbc := { s.lbc with modules := s.lbc.modules.set m ⟨false, none⟩ } }))) ∧
  (∀ (s : State) (sd : Side),
    (∀ r, s.sideState sd = .closed r →
      takeLoss sd s = s ∧ (∀ m, takeStray sd m s = s) ∧ takeStoreFailure sd s = s) ∧
    (s.sideState sd = .idle ∨ s.sideState sd = .calling ∨ (∃ a, s.sideState sd = .authorized a) →
      takeLoss sd s = enterClosed sd .displayFault s ∧
      (∀ m, takeStray sd m s = enterClosed sd .strayFlow s) ∧
      takeStoreFailure sd s = enterClosed sd .nvFault s) ∧
    (∀ p ctx, s.sideState sd = .sale p ctx →
      takeStoreFailure sd s = s.withSideState sd (.sale p { ctx with
        closureAfter := some (ctx.closureAfter.getD .nvFault) })) ∧
    (∀ p ctx, s.sideState sd = .sale p ctx → (∀ e, p ≠ .stopped e) →
      let settle := if ctx.hangSeen then some (s.now + s.cfg.timers.settle) else none
      takeLoss sd s =
        s.withSideState sd (.sale (.stopped ⟨.displayFault, none, ctx.figures.volume, settle⟩) ctx) ∧
      (∀ m, takeStray sd m s =
        s.withSideState sd (.sale (.stopped ⟨.strayFlow, some m, ctx.figures.volume, settle⟩) ctx)) ∧
      (∀ m, takeReport sd .meterFault m s =
        s.withSideState sd (.sale (.stopped ⟨.meterFault, some m, ctx.figures.volume, settle⟩) ctx)) ∧
      (∀ m, takeReport sd .reverseFlow m s =
        s.withSideState sd (.sale (.stopped ⟨.reverseFlow, some m, ctx.figures.volume, settle⟩) ctx)) ∧
      (∀ m, takeReport sd .highFlow m s =
        s.withSideState sd (.sale (.stopped ⟨.highFlow, some m, ctx.figures.volume, settle⟩) ctx))) ∧
    (∀ e ctx, s.sideState sd = .sale (.stopped e) ctx →
      (∀ m, takeReport sd .highFlow m s = s) ∧
      (e.reason.latched ≠ none ∨ ctx.closureAfter ≠ none →
        takeLoss sd s = s ∧ ∀ m, takeStray sd m s = s ∧ takeReport sd .meterFault m s = s ∧
          takeReport sd .reverseFlow m s = s) ∧
      (e.reason.latched = none → ctx.closureAfter = none →
        takeLoss sd s =
          s.withSideState sd (.sale (.stopped e) { ctx with closureAfter := some .displayFault }) ∧
        ∀ m, takeStray sd m s =
            s.withSideState sd (.sale (.stopped e) { ctx with closureAfter := some .strayFlow }) ∧
          takeReport sd .meterFault m s =
            s.withSideState sd (.sale (.stopped e) { ctx with closureAfter := some .meterFault }) ∧
          takeReport sd .reverseFlow m s =
            s.withSideState sd (.sale (.stopped e) { ctx with closureAfter := some .reverseFlow })))) ∧
  (∀ (s : State) (sd : Side) (reason : ClosedReason),
    let t := enterClosed sd reason s
    t.sideState sd = .closed reason ∧ t.lifted sd = s.lifted sd ∧ t.side sd.other = s.side sd.other ∧
    t.cfg = { s.cfg with sideOpen := s.cfg.sideOpen.set sd false } ∧
    (s.cfg.sideOpen.get sd = false → t.nvs = s.nvs) ∧
    (s.cfg.sideOpen.get sd = true → t.nvs = (requestWrite .config s).nvs) ∧
    (s.psq.mode = .run → reason ≠ .management →
      t.sli.events = s.sli.events ||| (Event.closed sd).bit) ∧
    (s.psq.mode ≠ .run ∨ reason = .management → t.sli = s.sli) ∧
    t.lbc.panels.get sd = ⟨none, none, none, none⟩)

/-! ## Meters (chapter 01) -/

/-- R4, R12, R13, R14, R3: a free pulse, whose report is given as the stray count passes from Sa to Sa + 1 and once
between two resets, and a free phase error; a channel in SINGLE mode yields no reverse pulse and no phase error.
(Rests in part on the model's own choices of logs 25, 38.) -/
def Obligations.FreePulsesAreStray : Prop :=
  ∀ (s : State) (m : Meter), s.Live →
    (s.engagement m = none →
      let count (told : Bool) : State := s.withChannel m { s.channel m with
        cyclePos := 0
        stray := min ((s.channel m).stray + 1) 65535
        strayTotal := ((s.channel m).strayTotal + 1) % 4294967296
        strayTold := told }
      ((s.channel m).stray ≠ (s.cfg.meters.get m).sa ∨ (s.channel m).strayTold = true →
        let counted := count (s.channel m).strayTold
        exec (.forwardPulse m) s = .next counted ∧
        ((s.cfg.meters.get m).mode = .quad → exec (.reversePulse m) s = .next counted)) ∧
      ((s.channel m).stray = (s.cfg.meters.get m).sa → (s.channel m).strayTold = false →
        let counted := count true
        (owningSide s.cfg.hoses m = none →
          exec (.forwardPulse m) s = .next (raise .strayFlow counted) ∧
          ((s.cfg.meters.get m).mode = .quad →
            exec (.reversePulse m) s = .next (raise .strayFlow counted))) ∧
        (∀ sd, owningSide s.cfg.hoses m = some sd →
          exec (.forwardPulse m) s = .next (finish (takeStray sd m (raise .strayFlow counted))) ∧
          ((s.cfg.meters.get m).mode = .quad →
            exec (.reversePulse m) s = .next (finish (takeStray sd m (raise .strayFlow counted)))))) ∧
      ((s.cfg.meters.get m).mode = .quad →
        exec (.phaseError m) s = .next (s.withChannel m { s.channel m with
          cyclePos := 0, phaseTotal := ((s.channel m).phaseTotal + 1) % 4294967296 }))) ∧
    ((s.cfg.meters.get m).mode = .single →
      exec (.reversePulse m) s = .next s ∧ exec (.phaseError m) s = .next s)

/-- R7, R8, R10, R11, R22, R23, R25, R29: an engaged pulse is counted in N, H, the reverse total and its window, and
every figure is renewed with it, whatever the state of the sale; nothing outside the side and the decoder changes.
(Rests in part on the model's own choices of log 25.) -/
def Obligations.EngagedPulsesArePriced : Prop :=
  ∀ (s : State) (m : Meter) (sd : Side) (ctx : Sale) (c : Counters), s.Live →
    s.engagement m = some (sd, ctx, c) →
    ∀ d : Direction, (d = .reverse → (s.cfg.meters.get m).mode = .quad) →
    ∃ t p after c1, exec (match d with
        | .forward => .forwardPulse m
        | .reverse => .reversePulse m) s = .next t ∧
      t.sideState sd = .sale p after ∧ after.counters m = some c1 ∧
      (d = .forward → c1.net = min (c.net + 1) (max c.net 67108863) ∧ c1.reverse = c.reverse ∧
        (c.net < 67108863 → (c1.high : Int) = max (c.high : Int) (c.net + 1)) ∧
        (67108863 ≤ c.net → c1.high = c.high)) ∧
      (d = .reverse → c1.net = max (c.net - 1) (min c.net (-67108864)) ∧ c1.high = c.high ∧
        c1.reverse = min (c.reverse + 1) 67108863) ∧
      c1.phase = c.phase ∧
      (s.now - c.rateStart < 100 → c1.rateStart = c.rateStart ∧ c1.rateCount = min (c.rateCount + 1) 65535) ∧
      (100 ≤ s.now - c.rateStart →
        c1.rateStart = c.rateStart + (s.now - c.rateStart) / 100 * 100 ∧ c1.rateCount = 1) ∧
      after.figures = renewedFigures s.cfg after ∧
      (let f := after.figures
      let units := if ctx.figures.scale.dv = 2 then f.v / 10 else f.v
      let money := amountOf ctx.figures.scale f.volume ctx.latch.price
      f.v1 = meterVolume (s.cfg.meters.get after.primary) after.primaryCt.high ∧
      f.v2 = (match after.secondary with
        | none => 0
        | some (n, c2) => meterVolume (s.cfg.meters.get n) c2.high) ∧
      f.v = f.v1 + f.v2 ∧ f.volume = min units 999999 ∧ f.amount = min money 999999 ∧
      f.saturated = (ctx.figures.saturated || decide (999999 < units) || decide (999999 < money)) ∧
      f.last = classifyFigures ctx.limit f ∧
      f.slowAt = ctx.figures.slowAt ∧ f.stopAt = ctx.figures.stopAt ∧ f.scale = ctx.figures.scale ∧
      f.start = ctx.figures.start) ∧
      after.saleId = ctx.saleId ∧ after.latch = ctx.latch ∧ after.limit = ctx.limit ∧ after.hose = ctx.hose ∧
      t.side sd.other = s.side sd.other ∧ t.lifted sd = s.lifted sd ∧
      t = { s with sides := t.sides, freeCount := t.freeCount, mci := s.mci.set m { s.channel m with cyclePos := 0 } }

/-- R8 to R11, R16, R29, R47 to R51, R54: a pulse of an engaged meter in every phase of its sale: the renewed figures
carry the pulse, the test result acts by the phase, and then the reports of a reverse fault (R8) and of a rate above
Fmax (R10) act, once each in an engagement; where both arise their order is free (log 12). The eighth phase error is
reported (R9). (Rests in part on the model's own choices of log 25.) -/
def Obligations.PulsesActOnTheSale : Prop :=
  ∀ (s : State) (m : Meter) (sd : Side) (p : Phase) (ctx : Sale) (c : Counters), s.Live →
    s.engagement m = some (sd, ctx, c) → s.sideState sd = .sale p ctx →
    (∀ d : Direction, (d = .reverse → (s.cfg.meters.get m).mode = .quad) →
      let pulse : Instr := match d with
        | .forward => .forwardPulse m
        | .reverse => .reversePulse m
      let c1 := countPulse s.now d c
      let rev := d == .reverse && decide (((s.cfg.meters.get m).ra : Int) < (c1.high : Int) - c1.net) &&
        !c.saidReverse
      let high := decide ((s.cfg.meters.get m).fmax < 10 * c1.rateCount) && !c.saidHigh
      let counted := ctx.withCounters m { c1 with
        saidReverse := c.saidReverse || rev, saidHigh := c.saidHigh || high }
      let renewed := s.afterRenewal p { counted with figures := renewedFigures s.cfg counted }
      let seen := s.withChannel m { s.channel m with cyclePos := 0 }
      (rev = false → high = false → exec pulse s = .next (seen.withSideState sd renewed)) ∧
      (rev = true → high = false →
        exec pulse s = .next (seen.withSideState sd (s.afterReport .reverseFlow m renewed))) ∧
      (rev = false → high = true →
        exec pulse s = .next (seen.withSideState sd (s.afterReport .highFlow m renewed))) ∧
      (rev = true → high = true → ∃ t, exec pulse s = .next t ∧
        (t.sideState sd = s.afterReport .highFlow m (s.afterReport .reverseFlow m renewed) ∨
          t.sideState sd = s.afterReport .reverseFlow m (s.afterReport .highFlow m renewed)))) ∧
    ((s.cfg.meters.get m).mode = .quad →
      let errors := s.withChannel m { s.channel m with
        cyclePos := 0, phaseTotal := ((s.channel m).phaseTotal + 1) % 4294967296 }
      (c.phase < 7 → exec (.phaseError m) s = .next (errors.withSideState sd
        (.sale p (ctx.withCounters m { c with phase := c.phase + 1 })))) ∧
      (c.phase = 7 → c.saidFault = false → exec (.phaseError m) s = .next (errors.withSideState sd
        (s.afterReport .meterFault m (.sale p (ctx.withCounters m { c with phase := 8, saidFault := true }))))) ∧
      (7 ≤ c.phase → c.saidFault = true → exec (.phaseError m) s = .next (errors.withSideState sd
        (.sale p (ctx.withCounters m { c with phase := 8 })))))

/-- R3: the decoder's four cases in QUAD mode, its two in SINGLE mode, and its first observation; a yield is the
pulse or the phase error of the commands above. (Rests in part on the model's own choices of log 25.) -/
def Obligations.ObservationsYieldAfterFourSteps : Prop :=
  ∀ (s : State) (m : Meter) (seen : LineState), s.Live →
    let saw := fun pos => s.withChannel m { s.channel m with reference := some seen, cyclePos := pos }
    ((s.channel m).reference = none → exec (.pulserObservation m seen) s = .next (saw 0)) ∧
    (∀ r, (s.channel m).reference = some r →
      ((s.cfg.meters.get m).mode = .quad →
        (seen = r → exec (.pulserObservation m seen) s = .next (saw (s.channel m).cyclePos)) ∧
        (seen.a ≠ r.a → seen.b ≠ r.b →
          exec (.pulserObservation m seen) s = exec (.phaseError m) (saw 0)) ∧
        ((r, seen) ∈ [(⟨false, false⟩, ⟨true, false⟩), (⟨true, false⟩, ⟨true, true⟩), (⟨true, true⟩, ⟨false, true⟩),
            ((⟨false, true⟩ : LineState), (⟨false, false⟩ : LineState))] →
          ((s.channel m).cyclePos ≠ 3 →
            exec (.pulserObservation m seen) s = .next (saw ((s.channel m).cyclePos + 1))) ∧
          ((s.channel m).cyclePos = 3 →
            exec (.pulserObservation m seen) s = exec (.forwardPulse m) (saw 0))) ∧
        ((seen, r) ∈ [(⟨false, false⟩, ⟨true, false⟩), (⟨true, false⟩, ⟨true, true⟩), (⟨true, true⟩, ⟨false, true⟩),
            ((⟨false, true⟩ : LineState), (⟨false, false⟩ : LineState))] →
          ((s.channel m).cyclePos ≠ -3 →
            exec (.pulserObservation m seen) s = .next (saw ((s.channel m).cyclePos - 1))) ∧
          ((s.channel m).cyclePos = -3 →
            exec (.pulserObservation m seen) s = exec (.reversePulse m) (saw 0)))) ∧
      ((s.cfg.meters.get m).mode = .single →
        (seen.a = true → r.a = false →
          exec (.pulserObservation m seen) s = exec (.forwardPulse m) (saw 0)) ∧
        (seen.a = false ∨ r.a = true → exec (.pulserObservation m seen) s = .next (saw 0))))

/-! ## Sides (chapter 03) -/

/-- R37, R39, R55, R58: lifts and hangs by side state. (Rests in part on the model's own choices of log 5.) -/
def Obligations.NozzlesMoveTheSide : Prop :=
  ∀ (s : State) (h : Hose) (sd : Side), s.Live → s.psq.mode = .run → hoseSide s.cfg.hoses h = some sd →
    (s.lines.nozzle.get h = false →
      let up := ({ s with lines := { s.lines with nozzle := s.lines.nozzle.set h true } }).withLifted sd
        (s.lifted sd ++ [h])
      (s.sideState sd = .idle →
        exec (.nozzleLift h) s = .next (raise (.call sd) (up.withSideState sd .calling))) ∧
      (s.sideState sd = .calling ∨ (∃ r, s.sideState sd = .closed r) ∨ (∃ p ctx, s.sideState sd = .sale p ctx) →
        exec (.nozzleLift h) s = .next up) ∧
      (∀ a, s.sideState sd = .authorized a → exec (.nozzleLift h) s = .next (testStart sd up)) ∧
      exec (.nozzleHang h) s = .next s) ∧
    (s.lines.nozzle.get h = true →
      let rest := (s.lifted sd).filter (· ≠ h)
      let down := ({ s with lines := { s.lines with nozzle := s.lines.nozzle.set h false } }).withLifted sd rest
      (s.sideState sd = .calling → exec (.nozzleHang h) s =
        .next (if rest = [] then down.withSideState sd .idle else down)) ∧
      (∀ a, s.sideState sd = .authorized a → exec (.nozzleHang h) s = .next (testStart sd down)) ∧
      ((∃ r, s.sideState sd = .closed r) ∨ (∃ p ctx, s.sideState sd = .sale p ctx ∧ ctx.hose ≠ h) →
        exec (.nozzleHang h) s = .next down) ∧
      (∀ p ctx, s.sideState sd = .sale p ctx → ctx.hose = h → (∀ e, p ≠ .stopped e) →
        exec (.nozzleHang h) s = .next (down.withSideState sd (.sale
          (.stopped ⟨.nozzleHung, none, ctx.figures.volume, some (s.now + s.cfg.timers.settle)⟩)
            { ctx with hangSeen := true }))) ∧
      (∀ e ctx, s.sideState sd = .sale (.stopped e) ctx → ctx.hose = h →
        (ctx.hangSeen = false → exec (.nozzleHang h) s = .next (down.withSideState sd (.sale
          (.stopped { e with settle := some (s.now + s.cfg.timers.settle) }) { ctx with hangSeen := true }))) ∧
        (ctx.hangSeen = true → exec (.nozzleHang h) s = .next down)) ∧
      exec (.nozzleLift h) s = .next s)

/-- R42, R47, R50, R51: the expiry of the authorization, zero, no-flow and suspend timers, each in the state it
runs in. (Rests in part on the model's own choices of logs 2, 5.) -/
def Obligations.SideTimersEndTheirStates : Prop :=
  ∀ (s : State) (sd : Side), s.Live →
    (∀ a d, s.sideState sd = .authorized a → a.timer = some d →
      (s.lifted sd = [] → exec (.authTimer sd) s =
        .next ((raise .authExpired { s with now := max s.now d }).withSideState sd .idle)) ∧
      (s.lifted sd ≠ [] → exec (.authTimer sd) s =
        .next (raise (.call sd) ((raise .authExpired { s with now := max s.now d }).withSideState sd .calling)))) ∧
    (∀ a, s.sideState sd = .authorized a → a.timer = none → exec (.authTimer sd) s = .next s) ∧
    (∀ d ctx, s.sideState sd = .sale (.starting d) ctx →
      let late := { s with now := max s.now d }
      let settle := if ctx.hangSeen then some (late.now + s.cfg.timers.settle) else none
      (ctx.zeroVerified = false → exec (.zeroTimer sd) s = .next (late.withSideState sd
        (.sale (.stopped ⟨.displayFault, none, ctx.figures.volume, settle⟩) ctx))) ∧
      (ctx.zeroVerified = true → exec (.zeroTimer sd) s = .next (late.withSideState sd
        (match classifyFigures ctx.limit ctx.figures with
          | .clear => .sale (.fuelling (late.now + 1000 * s.cfg.timers.noFlow)) ctx
          | .slow => .sale (.slowing (late.now + 1000 * s.cfg.timers.noFlow)) ctx
          | .limit => .sale (.stopped ⟨.limitReached, none, ctx.figures.volume, settle⟩) ctx
          | .saturated => .sale (.stopped ⟨.saturated, none, ctx.figures.volume, settle⟩) ctx)))) ∧
    (∀ d ctx, s.sideState sd = .sale (.fuelling d) ctx ∨ s.sideState sd = .sale (.slowing d) ctx →
      exec (.noFlow sd) s = .next ({ s with now := max s.now d }.withSideState sd
        (.sale (.stopped ⟨.noFlow, none, ctx.figures.volume,
          if ctx.hangSeen then some (max s.now d + s.cfg.timers.settle) else none⟩) ctx))) ∧
    (∀ d ctx, s.sideState sd = .sale (.suspended d) ctx →
      exec (.suspendTimeout sd) s = .next ({ s with now := max s.now d }.withSideState sd
        (.sale (.stopped ⟨.suspendTimeout, none, ctx.figures.volume,
          if ctx.hangSeen then some (max s.now d + s.cfg.timers.settle) else none⟩) ctx)))

/-- R15, R59, R85 to R89, R91, R93: the settle timer completes the sale in one event: the whole record, stack,
journal, hose totals, pulse totals and counter together unless nothing was delivered, the last ended sale, the
completion event, the stray counts, and the side's next state. (Rests in part on the model's own choices of logs 2,
5.) -/
def Obligations.CompletionStacksOneRecord : Prop :=
  ∀ (s : State) (sd : Side) (e : Ended) (ctx : Sale), s.sideState sd = .sale (.stopped e) ctx →
    (s.Live → ∀ d, e.settle = some d →
      exec (.settleTimer sd) s = .next (finish (completeSale sd { s with now := max s.now d }))) ∧
    (s.Live → e.settle = none → exec (.settleTimer sd) s = .next s) ∧
    (let t := completeSale sd s
      let r : SaleRecord :=
        { seq := s.sru.seq
          saleId := ctx.saleId
          side := sd
          hose := ctx.hose
          position := ctx.position
          grade := ctx.latch.grade
          level := ctx.latch.level
          price := ctx.latch.price
          generation := ctx.latch.generation
          limit := ctx.limit
          volume := ctx.figures.volume
          amount := ctx.figures.amount
          high := ctx.primaryCt.high
          reverse := ctx.primaryCt.reverse
          secondary := match ctx.secondary with
            | none => none
            | some (_, c) => some (c.high, c.reverse)
          overrun := ctx.figures.volume - e.volumeClosed
          endReason := e.reason
          faultMeter := e.faultMeter
          saturated := ctx.figures.saturated
          scale := ctx.figures.scale
          duration := min ((s.now - ctx.figures.start) / 1000) 65535 }
      t.raised (.done sd) = true ∧
      (t.side sd).lastSale = ctx.saleId ∧
      (ctx.figures.volume = 0 ∧ ctx.figures.amount = 0 →
        (t.side sd).lastOutcome = .noDelivery ∧ t.sru = s.sru ∧ t.stack = s.stack) ∧
      (ctx.figures.volume ≠ 0 ∨ ctx.figures.amount ≠ 0 →
        (t.side sd).lastOutcome = .stacked ∧
        t.stack = s.stack.set sd (s.stack.get sd ++ [r]) ∧
        t.sru.journal = (if s.sru.journal.length < 16 then s.sru.journal
          else removeOldestPaid s.sru.journal) ++ [⟨r, false⟩] ∧
        t.sru.seq = (if 4294967295 ≤ s.sru.seq then 1 else s.sru.seq + 1) ∧
        t.sru.hoses = s.sru.hoses.set ctx.hose
          ⟨((s.sru.hoses.get ctx.hose).volume +
              (if ctx.figures.scale.dv = 2 then ctx.figures.volume * 10 else ctx.figures.volume)) % 1000000000000,
            ((s.sru.hoses.get ctx.hose).amount + ctx.figures.amount) % 100000000000,
            ((s.sru.hoses.get ctx.hose).count + 1) % 4294967296⟩ ∧
        ((∀ n c, ctx.secondary = some (n, c) → n ≠ ctx.primary) → ∀ m, t.sru.pulses.get m =
          (if m = ctx.primary then (s.sru.pulses.get m + ctx.primaryCt.high) % 1000000000000
          else match ctx.secondary with
            | none => s.sru.pulses.get m
            | some (n, c) => if m = n then (s.sru.pulses.get m + c.high) % 1000000000000
              else s.sru.pulses.get m)) ∧
        .metrology ∈ t.nvs.queue) ∧
      (∀ m, owningSide s.cfg.hoses m = some sd →
        t.channel m = { s.channel m with stray := 0, strayTold := false }) ∧
      (∀ m, owningSide s.cfg.hoses m ≠ some sd → t.channel m = s.channel m) ∧
      t.sideState sd = (match e.reason.latched, ctx.closureAfter with
        | some q, _ => .closed q
        | none, some q => .closed q
        | none, none => if s.lifted sd = [] then .idle else .calling) ∧
      t.side sd.other = s.side sd.other ∧ t.lifted sd = s.lifted sd ∧ t.ptu = s.ptu ∧ t.riu = s.riu ∧
      t.lines = s.lines ∧ t.now = s.now)

/-- R44, R64: the release of the drive-rail-good line stops every sale with SUPPLY_FAULT and renews the reason
of an authorization; when it is asserted again every AUTHORIZED side tests its start condition. (Rests in part
on the model's own choices of log 5.) -/
def Obligations.TheDriveRailStopsSales : Prop :=
  (∀ s : State, s.Live →
    (s.lines.railGood = true →
      exec .driveRailDown s = .next (railFault .b (railFault .a
        { s with lines := { s.lines with railGood := false } }))) ∧
    (s.lines.railGood = false → exec .driveRailDown s = .next s ∧
      exec .driveRailUp s = .next (testStart .b (testStart .a
        { s with lines := { s.lines with railGood := true } }))) ∧
    (s.lines.railGood = true → exec .driveRailUp s = .next s)) ∧
  (∀ (s : State) (sd : Side), s.lines.railGood = false →
    (s.sideState sd = .idle ∨ s.sideState sd = .calling ∨ (∃ r, s.sideState sd = .closed r) ∨
      (∃ e ctx, s.sideState sd = .sale (.stopped e) ctx) → railFault sd s = s) ∧
    (∀ p ctx, s.sideState sd = .sale p ctx → (∀ e, p ≠ .stopped e) →
      railFault sd s = s.withSideState sd (.sale (.stopped ⟨.supplyFault, none, ctx.figures.volume,
        if ctx.hangSeen then some (s.now + s.cfg.timers.settle) else none⟩) ctx)) ∧
    (∀ a, s.sideState sd = .authorized a → ∃ b, railFault sd s = s.withSideState sd
      (.authorized { a with blocked := b }) ∧
      ((s.lifted sd).find? (allowedHose s.cfg.hoses sd a.allowed) = none → b = .none) ∧
      (∀ h r, (s.lifted sd).find? (allowedHose s.cfg.hoses sd a.allowed) = some h →
        s.cfg.hoses.get h = some r →
        (s.ptu.active.entry r.grade a.level = 0 ∨ 99999 < s.ptu.active.entry r.grade a.level →
          b = .priceInvalid) ∧
        (1 ≤ s.ptu.active.entry r.grade a.level → s.ptu.active.entry r.grade a.level ≤ 99999 →
          b = .railDown)))) ∧
  EndReason.supplyFault.latched = none

/-! ## Power, store and night (chapters 10 and 11) -/

/-- R45, R65, R177, R194, R195, R196, R192: the power warning and its release in each mode. In RUN each sale that
delivered something joins its stack and the journal as one whole record, under consecutive sequence numbers in an order
that is free (log 13), and METROLOGY is the next write. (Rests in part on the model's own choices of logs 5, 13.) -/
def Obligations.ThePowerWarningCompletesSales : Prop :=
  ∀ s : State, s.Live →
    let warned : State := { s with
      lines := { s.lines with warning := true }, nvs := { s.nvs with queue := urgentQueue s.nvs.queue } }
    (s.lines.warning = false → s.psq.mode = .run →
      ∃ t, exec .powerWarning s = .next t ∧ t.lines = { s.lines with warning := true } ∧ t.DrivesNothing ∧
        (∀ sd, (t.sideState sd).sale? = none) ∧
        (∀ sd ctx, (s.sideState sd).sale? = some ctx → (t.side sd).lastSale = ctx.saleId ∧
          t.raised (.done sd) = true ∧ t.raised .powerFailEnd = true) ∧
        (∀ sd, (s.sideState sd).sale? = none → t.stack.get sd = s.stack.get sd ∧
          (t.side sd).lastSale = (s.side sd).lastSale) ∧
        (∀ sd, s.sideState sd = .idle ∨ s.sideState sd = .calling ∨ (∃ r, s.sideState sd = .closed r) →
          t.side sd = s.side sd) ∧
        (∀ sd a, s.sideState sd = .authorized a → ∃ b, t.sideState sd = .authorized { a with blocked := b } ∧
          ((s.lifted sd).find? (allowedHose s.cfg.hoses sd a.allowed) = none → b = .none) ∧
          (∀ h r, (s.lifted sd).find? (allowedHose s.cfg.hoses sd a.allowed) = some h →
            s.cfg.hoses.get h = some r →
            (s.ptu.active.entry r.grade a.level = 0 ∨ 99999 < s.ptu.active.entry r.grade a.level →
              b = .priceInvalid) ∧
            (1 ≤ s.ptu.active.entry r.grade a.level → s.ptu.active.entry r.grade a.level ≤ 99999 →
              b = .railDown))) ∧
        (∀ sd p ctx, s.sideState sd = .sale p ctx → s.delivers sd = false →
          (t.side sd).lastOutcome = .noDelivery ∧ t.stack.get sd = s.stack.get sd) ∧
        (∃ first : Side, ∀ sd p ctx, s.sideState sd = .sale p ctx → s.delivers sd = true →
          let seq := if sd = first ∨ s.delivers sd.other = false then s.sru.seq
            else if 4294967295 ≤ s.sru.seq then 1 else s.sru.seq + 1
          let r := s.recordOf sd seq (p.endAtWarning ctx) ctx
          (t.side sd).lastOutcome = .stacked ∧ t.stack.get sd = s.stack.get sd ++ [r] ∧
          ⟨r, false⟩ ∈ t.sru.journal ∧
          (t.nvs.queue.head? = some .metrology ∨ (s.nvs.job = none ∧
            ∃ n x due, t.nvs.job = some ⟨.metrology n x, due⟩ ∧ x.content = t.sru))) ∧
        t.psq = s.psq ∧ t.ptu = s.ptu ∧ t.riu = s.riu ∧ t.now = s.now) ∧
    (s.lines.warning = false →
      s.psq.mode ∈ [.poweringUp .load, .poweringUp .apply, .poweringUp .wait, .night, .failsafe] →
      exec .powerWarning s = .next warned) ∧
    (s.lines.warning = false →
      (∃ sd, s.psq.mode = .poweringUp (.supplies sd)) ∨ (∃ b, s.psq.mode = .poweringUp (.displays b)) ∨
        s.psq.mode = .poweringUp .readers →
      ∃ t, exec .powerWarning s = .next t ∧ t.psq.displayDemand = false ∧ t.lbc.slot = none ∧
        t.psq.restarts = s.psq.restarts + 1 ∧
        t.psq.mode = (if s.psq.restarts + 1 < 3 then .poweringUp .wait else .failsafe) ∧
        (s.psq.restarts + 1 < 3 → t.psq.stageTimer = some (s.now + 2000)) ∧
        (∀ sd, (s.reader sd).state = .tampered → t.reader sd = s.reader sd) ∧
        (∀ sd, (s.reader sd).state ≠ .tampered → (t.reader sd).state = .off .power) ∧
        t.psq.wakeTimer = s.psq.wakeTimer ∧ t.psq.cause = s.psq.cause ∧ t.sli.events = s.sli.events ∧
        t.cfg = s.cfg ∧ t.ptu = s.ptu ∧ t.sru = s.sru ∧ t.stack = s.stack ∧ t.mci = s.mci ∧ t.now = s.now) ∧
    (s.lines.warning = true →
      exec .powerWarning s = .next s ∧
      (s.psq.mode = .run → exec .powerWarningRelease s = .next (testStart .b (testStart .a
        { s with lines := { s.lines with warning := false } }))) ∧
      (s.psq.mode = .poweringUp .apply → exec .powerWarningRelease s = .next { s with
        lines := { s.lines with warning := false }
        psq := { s.psq with
          mode := .poweringUp (.supplies .a), stageTimer := some (s.now + 200), displayDemand := true } })) ∧
    (s.lines.warning = false → exec .powerWarningRelease s = .next s)

/-- R14, R66, R114, R141, R155, R158, R174, R177, R181, R182, R197: the values after a cold power-on, at State.reset
and after POWER_ON; the supply lost in the middle of a write leaves that block, or that METROLOGY slot, bad and the
others as they were. (Rests in part on the model's own choices of logs 6, 7, 11.) -/
def Obligations.PowerOnHasTheColdValues : Prop :=
  (∀ t : State, t = State.reset ∨ (∃ s : State, s.powered = false ∧ exec .powerOn s = .next t) →
    t.powered = true ∧
    t.psq.mode = .poweringUp .load ∧ t.psq.cause = .powerOn ∧ t.psq.restarts = 0 ∧
    t.psq.night = none ∧ t.psq.wakeTimer = none ∧ t.psq.confirmTimer = none ∧ t.psq.overflowMark = false ∧
    t.sli.rx = .waitQuiet ∧ t.sli.tx = .idle ∧ t.sli.errors = 0 ∧ t.sli.overflow = false ∧
    t.sli.frameErrors = 0 ∧ t.sli.modeRejects = 0 ∧ t.sli.events = 0 ∧
    t.nvs.queue = [] ∧ t.nvs.job = none ∧ t.nvs.fail = ⟨0, 0, 0⟩ ∧
    (∀ sd, (t.sideState sd).busy = false ∧ (t.side sd).lastSale = 0 ∧ (t.side sd).lastOutcome = .none) ∧
    (∀ sd, t.reader sd = ⟨.off .power, 0, [], [], none, .stopped, none, 0, 0, 0⟩) ∧
    (∀ m, t.displayModule m = ⟨false, none⟩) ∧ t.lbc.slot = none ∧
    (∀ m, t.channel m = ⟨none, 0, 0, false, 0, 0⟩)) ∧
  (∀ s : State, ∃ t, exec .powerOn s = .next t) ∧
  (∀ s : State, s.powered = true →
    (s.nvs.job = none → exec .supplyLost s = .next { s with powered := false }) ∧
    (∀ c d, s.nvs.job = some ⟨.config c, d⟩ →
      exec .supplyLost s = .next { s with powered := false, nvs := { s.nvs with config := none, job := none } }) ∧
    (∀ c d, s.nvs.job = some ⟨.prices c, d⟩ →
      exec .supplyLost s = .next { s with powered := false, nvs := { s.nvs with prices := none, job := none } }) ∧
    (∀ c d, s.nvs.job = some ⟨.metrology .m0 c, d⟩ →
      exec .supplyLost s = .next { s with powered := false, nvs := { s.nvs with slot0 := none, job := none } }) ∧
    (∀ c d, s.nvs.job = some ⟨.metrology .m1 c, d⟩ →
      exec .supplyLost s = .next { s with powered := false, nvs := { s.nvs with slot1 := none, job := none } })) ∧
  (∀ s : State, s.powered = false → ∃ t, exec .powerOn s = .next t ∧ t.nvs.config = s.nvs.config ∧
    t.nvs.prices = s.nvs.prices ∧ t.nvs.slot0 = s.nvs.slot0 ∧ t.nvs.slot1 = s.nvs.slot1 ∧ t.lines = s.lines)

/-- R83, R84, R98, R99, R172, R179, R180, R191: the read attempts of LOAD, what a good and a bad block bring, and the
repair writes; the end of LOAD with the newer good METROLOGY slot or none, the APPLY of a scheduled table, and
SUPPLIES unless the warning holds it back; and the newer of two slots, for stamps in 1..4294967295. (Rests in part on
the model's own choices of logs 2, 37, 39.) -/
def Obligations.LoadReadsTheFourBlocks : Prop :=
  (∀ (s : State) (fresh g0 : Bool) (n d : Nat), s.powered = true → s.psq.mode = .poweringUp .load →
    s.psq.night = none → s.psq.restart = .none → s.nvs.job = none →
    (∀ b, s.nvs.load = .reading fresh b n g0 d → n < 4 →
      exec (.readAttempt false) s = .next { s with
        now := max s.now d
        nvs := { s.nvs with load := .reading fresh b (n + 1) g0 (max s.now d + readTime b) } }) ∧
    (∀ c, s.nvs.load = .reading fresh .config n g0 d → s.nvs.config = some c →
      ∃ t, exec (.readAttempt true) s = .next t ∧ t.cfg = c ∧
        ((∀ r more, s.sli.tx ≠ .sending r more) → t.sli.line = ⟨c.address, c.group, c.speed⟩ ∧
          t.sli.rx = (if c.speed = s.sli.line.speed then s.sli.rx else .waitQuiet)) ∧
        (∀ r more, s.sli.tx = .sending r more → t.sli.line = s.sli.line ∧ t.sli.rx = s.sli.rx) ∧
        t.nvs.queue = s.nvs.queue ∧
        t.nvs.load = .reading fresh .prices 1 g0 (max s.now d + 1) ∧ t.sli.events = s.sli.events) ∧
    (s.nvs.load = .reading fresh .config 4 g0 d →
      ∃ t, exec (.readAttempt false) s = .next t ∧ t.cfg = Cfg.default ∧ t.raised .nvFault = true ∧
        .config ∈ t.nvs.queue ∧ (∀ sd, t.sideState sd = .closed .nvFault) ∧
        t.nvs.load = .reading fresh .prices 1 g0 (max s.now d + 1)) ∧
    (∀ p, s.nvs.load = .reading fresh .prices n g0 d → s.nvs.prices = some p →
      ∃ t, exec (.readAttempt true) s = .next t ∧ t.ptu = p ∧ t.nvs.queue = s.nvs.queue ∧
        t.nvs.load = .reading fresh .m0 1 g0 (max s.now d + 4) ∧ t.sides = s.sides) ∧
    (s.nvs.load = .reading fresh .prices 4 g0 d →
      ∃ t, exec (.readAttempt false) s = .next t ∧ t.ptu = ⟨.zero, 0, none, false⟩ ∧ t.raised .nvFault = true ∧
        .prices ∈ t.nvs.queue ∧ t.nvs.load = .reading fresh .m0 1 g0 (max s.now d + 4) ∧ t.sides = s.sides) ∧
    (∀ x, s.nvs.load = .reading fresh .m0 n g0 d → s.nvs.slot0 = some x →
      exec (.readAttempt true) s = .next { s with
        now := max s.now d, nvs := { s.nvs with load := .reading fresh .m1 1 true (max s.now d + 4) } }) ∧
    (s.nvs.load = .reading fresh .m0 4 g0 d →
      exec (.readAttempt false) s = .next { s with
        now := max s.now d
        sli := { s.sli with events := s.sli.events ||| Event.nvFault.bit }
        nvs := { s.nvs with load := .reading fresh .m1 1 false (max s.now d + 4) } }) ∧
    (∀ good : Bool, s.nvs.load = .reading fresh .m1 n g0 d → s.ptu.generation ≤ 65535 → s.SalesOk →
      (good = true ∧ s.nvs.slot1 ≠ none) ∨ (good = false ∧ n = 4) →
      ∃ t, exec (.readAttempt good) s = .next t ∧ t.nvs.load = .none ∧
        (good = false → t.raised .nvFault = true) ∧
        (∀ m, t.channel m = { s.channel m with
          reference := none, cyclePos := 0, stray := 0, strayTold := false }) ∧
        (∀ k x, newerSlot (if g0 then s.nvs.slot0 else none) (if good then s.nvs.slot1 else none) = some (k, x) →
          t.nvs.current = some (k, x.stamp) ∧ t.nvs.condition = .clear ∧ t.sru = x.content ∧
          (∀ sd, t.stack.get sd = rebuiltStack x.content.journal sd) ∧ t.psq.found = s.psq.found ∧
          t.cfg = s.cfg ∧ t.sides = s.sides) ∧
        (newerSlot (if g0 then s.nvs.slot0 else none) (if good then s.nvs.slot1 else none) = none →
          t.nvs.current = none ∧ t.nvs.condition = .lost ∧ t.sru = Metrology.lost ∧ t.stack = ⟨[], []⟩ ∧
          (∀ sd, t.sideState sd = .closed .nvFault ∧ t.cfg.sideOpen.get sd = false)) ∧
        (s.ptu.pending = false ∨ s.ptu.staged = none → t.ptu = s.ptu) ∧
        (∀ table, s.ptu.pending = true → s.ptu.staged = some table →
          t.ptu = ⟨table, if table = s.ptu.active then s.ptu.generation
            else if s.ptu.generation = 65535 then 1 else s.ptu.generation + 1, none, false⟩ ∧
          (table ≠ s.ptu.active → t.raised .priceApplied = true) ∧
          (.prices ∈ t.nvs.queue ∨ t.nvs.job.map WriteJob.content = some (.prices t.ptu))) ∧
        (s.lines.warning = true → t.psq.mode = .poweringUp .apply) ∧
        (s.lines.warning = false → t.psq.mode = .poweringUp (.supplies .a) ∧ t.psq.displayDemand = true ∧
          t.psq.stageTimer = some (max s.now d + 200)))) ∧
  (∀ (x y : Stamped), 1 ≤ x.stamp → x.stamp ≤ 4294967295 → 1 ≤ y.stamp → y.stamp ≤ 4294967295 →
    newerSlot none none = none ∧ newerSlot (some x) none = some (.m0, x) ∧
    newerSlot none (some y) = some (.m1, y) ∧
    newerSlot (some x) (some y) =
      (if x.stamp = y.stamp then some (.m0, x)
      else if x.stamp = y.stamp + 1 ∨ (x.stamp = 1 ∧ y.stamp = 4294967295) then some (.m0, x)
      else if y.stamp = x.stamp + 1 ∨ (y.stamp = 1 ∧ x.stamp = 4294967295) then some (.m1, y)
      else if y.stamp < x.stamp then some (.m0, x)
      else some (.m1, y)))

/-- R115, R140, R154, R190, R192, R193, R194, R66: the stages after LOAD; READY with the sides, the closures found, the
event set and the timers by cause; and the WAIT after an abort. (Rests in part on the model's own choices of logs 2,
31.) -/
def Obligations.TheSequenceComesUpInStages : Prop :=
  ∀ (s : State) (d : Nat), s.Live → s.psq.stageTimer = some d → s.psq.restart = .none → s.psq.night = none →
    (s.psq.mode = .poweringUp (.supplies .a) →
      exec .supplyStep s = .next (withStage (.supplies .b) (some (max s.now d + 200))
        (supplyReader .a { s with now := max s.now d }))) ∧
    (s.psq.mode = .poweringUp (.supplies .b) →
      exec .supplyStep s = .next (startRounds (withStage (.displays true) (some (max s.now d + 1000))
        (supplyReader .b { s with now := max s.now d })))) ∧
    (∀ sd t, t = supplyReader sd s →
      (s.lines.tamper.get sd = true → (t.reader sd).state = .tampered) ∧
      (s.lines.tamper.get sd = false → (t.reader sd).state = .probing ∧ (t.reader sd).probe = none)) ∧
    (s.psq.mode = .poweringUp (.displays true) →
      exec .displayTestEnd s = .next { s with
        now := max s.now d
        psq := { s.psq with mode := .poweringUp (.displays false), stageTimer := some (max s.now d + 500) } }) ∧
    (s.psq.mode = .poweringUp (.displays false) → (∃ sd, (s.reader sd).state = .probing) →
      ∃ t, exec .displaysEnd s = .next t ∧ t.psq.mode = .poweringUp .readers ∧
        (∀ sd, (s.reader sd).state = .probing →
          (t.reader sd) = { s.reader sd with probe := some (max s.now d + 2000) }) ∧
        (∀ sd, (t.psq.found.get sd).display = (!(s.lbc.modules.sale.get sd).present ||
          !(s.lbc.modules.panel.get sd).present)) ∧ t.cfg = s.cfg ∧ t.sli = s.sli) ∧
    (s.psq.mode = .poweringUp (.displays false) → (∀ sd, (s.reader sd).state ≠ .probing) →
      ∃ t, exec .displaysEnd s = .next t ∧ t.psq.mode = .run ∧ t.psq.restarts = 0 ∧
        t.raised .powerUpDone = true ∧
        (∀ sd, (s.psq.found.get sd).config = false → (s.psq.found.get sd).metrology = false →
          (s.lbc.modules.sale.get sd).present = true → (s.lbc.modules.panel.get sd).present = true →
          t.sideState sd = (if s.cfg.sideOpen.get sd then (if s.lifted sd = [] then .idle else .calling)
            else .closed .management)) ∧
        (∀ sd, (s.psq.found.get sd).config = true ∨ (s.psq.found.get sd).metrology = true →
          t.sideState sd = .closed .nvFault ∧ t.cfg.sideOpen.get sd = false) ∧
        (∀ sd, (s.psq.found.get sd).config = false → (s.psq.found.get sd).metrology = false →
          (s.lbc.modules.sale.get sd).present = false ∨ (s.lbc.modules.panel.get sd).present = false →
          t.sideState sd = .closed .displayFault ∧ t.cfg.sideOpen.get sd = false) ∧
        (s.psq.cause = .powerOn ∨ s.psq.cause = .restart → ∀ e, e ≠ .call .a → e ≠ .call .b → e ≠ .powerUpDone →
          t.raised e = (persisting s).getLsbD e.number) ∧
        (s.psq.cause ≠ .powerOn → s.psq.cause ≠ .restart → ∀ e, s.raised e = true → t.raised e = true) ∧
        (s.psq.cause = .fallback → t.raised .wakeError = true) ∧
        t.psq.confirmTimer = (match s.psq.cause with
          | .filter => some (max s.now d + 1000 * s.cfg.timers.confirm)
          | .fallback => some (max s.now d + 1000 * s.cfg.timers.confirm)
          | _ => s.psq.confirmTimer) ∧
        t.psq.wakeTimer = (match s.psq.cause with
          | .nozzle => none
          | _ => s.psq.wakeTimer)) ∧
    (s.psq.mode = .poweringUp .wait →
      ∃ t, exec .waitTimer s = .next t ∧ t.psq.mode = .poweringUp .load ∧ t.psq.cause = s.psq.cause ∧
        t.psq.restarts = s.psq.restarts ∧ t.psq.wakeTimer = s.psq.wakeTimer ∧ t.sli.errors = 0 ∧
        t.sli.events = s.sli.events ∧ (∀ m, t.displayModule m = ⟨false, none⟩) ∧
        (∀ sd, (t.sideState sd).busy = false ∧ (t.reader sd).err = 0) ∧ t.cfg = s.cfg ∧ t.ptu = s.ptu ∧
        t.sru = s.sru)

/-- R172, R174, R175, R176, R84: a verified write is retained and clears its failure count, a METROLOGY one makes its
slot current and ends the condition; a failed one raises NV_FAULT, counts, and is queued again, and leaves CONFIG and
PRICES as last verified and a METROLOGY slot bad. (Rests in part on the model's own choices of logs 2, 11, 42.) -/
def Obligations.WritesAreVerifiedOrTriedAgain : Prop :=
  ∀ (s : State) (c : WriteContent) (d : Nat), s.powered = true → s.nvs.job = some ⟨c, d⟩ → s.nvs.load = .none →
    (∃ t, exec (.writeComplete true) s = .next (finish t) ∧ t.nvs.job = none ∧ t.nvs.queue = s.nvs.queue ∧
      t.nvs.fail.get c.kind = 0 ∧
      (∀ v, c = .config v → t.nvs = { s.nvs with job := none, config := some v, fail := t.nvs.fail }) ∧
      (∀ v, c = .prices v → t.nvs = { s.nvs with job := none, prices := some v, fail := t.nvs.fail }) ∧
      (∀ v, c = .metrology .m0 v → t.nvs = { s.nvs with
        job := none, slot0 := some v, fail := t.nvs.fail, current := some (.m0, v.stamp), condition := .clear }) ∧
      (∀ v, c = .metrology .m1 v → t.nvs = { s.nvs with
        job := none, slot1 := some v, fail := t.nvs.fail, current := some (.m1, v.stamp), condition := .clear }) ∧
      t = { s with now := max s.now d, nvs := t.nvs }) ∧
    (s.psq.night = none → s.psq.restart ≠ .draining → s.nvs.fail.get c.kind < 2 →
      ∃ t, exec (.writeComplete false) s = .next (beginWrite t) ∧ t.nvs.job = none ∧ c.kind ∈ t.nvs.queue ∧
        t.nvs.fail = s.nvs.fail.set (s.nvs.fail.get c.kind + 1) c.kind ∧ t.raised .nvFault = true ∧
        t.nvs.current = s.nvs.current ∧ t.nvs.condition = s.nvs.condition ∧
        t.nvs.config = s.nvs.config ∧ t.nvs.prices = s.nvs.prices ∧
        t.nvs.slot0 = (match c with
          | .metrology .m0 _ => none
          | _ => s.nvs.slot0) ∧
        t.nvs.slot1 = (match c with
          | .metrology .m1 _ => none
          | _ => s.nvs.slot1) ∧
        t.sides = s.sides ∧ t.cfg = s.cfg ∧ t.ptu = s.ptu ∧ t.sru = s.sru ∧ t.stack = s.stack ∧
        t.now = max s.now d) ∧
    (s.psq.night = none → s.psq.restart ≠ .draining → c.kind = .metrology → s.nvs.fail.metrology = 2 →
      ∃ t, exec (.writeComplete false) s = .next (beginWrite t) ∧ t.nvs.condition = .write ∧
        t.nvs.fail.metrology = 3 ∧ .metrology ∈ t.nvs.queue ∧
        (∀ sd, s.sideState sd = .idle ∨ s.sideState sd = .calling ∨ (∃ a, s.sideState sd = .authorized a) →
          t.sideState sd = .closed .nvFault) ∧
        (∀ sd p ctx, s.sideState sd = .sale p ctx →
          t.sideState sd = .sale p { ctx with closureAfter := some (ctx.closureAfter.getD .nvFault) }))

/-- R154, R157, R187 to R191: the four wakes of NIGHT, a nozzle already out at the night entry, what in NIGHT does not
wake, the match of the wake filter, the confirm timer, and the unicast request that confirms a wake. (Rests in part on
the model's own choices of logs 2, 4, 5 and 39: that the meter channels stand at the wake as they were, `t.mci = s.mci`
in `State.WokenFrom`, is log 39, since R191 gives no moment within LOAD to the stray counts and the references.) -/
def Obligations.WakesAndReturnsToNight : Prop :=
  (∀ s : State, s.Live →
    (∀ d, s.psq.wakeTimer = some d →
      (s.psq.mode ≠ .night → exec .wakeTimer s = .next { s with
        now := max s.now d, psq := { s.psq with wakeTimer := none } }) ∧
      (s.psq.mode = .night → s.psq.restart = .none → s.psq.night = none →
        ∃ t, exec .wakeTimer s = .next t ∧ t.WokenFrom s .timer ∧ t.psq.wakeTimer = none ∧
          t.sli.events = s.sli.events ∧ t.sli.frameErrors = s.sli.frameErrors ∧
          (∀ sd, t.lifted sd = s.lifted sd) ∧ t.now = max s.now d)) ∧
    (s.psq.mode = .night → s.psq.restart = .none → s.psq.night = none →
      ((∃ sd, s.cfg.wake.nozzle.get sd = true ∧ s.lifted sd ≠ []) →
        ∃ t, exec .nightNozzleWake s = .next t ∧ t.WokenFrom s .nozzle ∧ t.psq.wakeTimer = s.psq.wakeTimer ∧
          t.sli.events = s.sli.events ∧ (∀ sd, t.lifted sd = s.lifted sd)) ∧
      (∀ h sd, hoseSide s.cfg.hoses h = some sd → s.lines.nozzle.get h = false → (s.sideState sd).busy = false →
        ∃ t, exec (.nozzleLift h) s = .next t ∧ t.lifted sd = s.lifted sd ++ [h] ∧
          t.lifted sd.other = s.lifted sd.other ∧
          t.lines = { s.lines with nozzle := s.lines.nozzle.set h true } ∧
          (s.cfg.wake.nozzle.get sd = true → t.WokenFrom s .nozzle ∧ t.psq.wakeTimer = s.psq.wakeTimer) ∧
          (s.cfg.wake.nozzle.get sd = false → t.psq = s.psq)) ∧
      (s.sli.tx = .idle → s.sli.rx = .hunt →
        (s.cfg.wake.armed = false ∨ s.psq.overflowMark = true →
          ∃ t, exec (.siteCharacter (.byte 0xD5)) s = .next t ∧ t.WokenFrom s .fallback ∧
            t.psq.wakeTimer = s.psq.wakeTimer ∧ t.sli.events = s.sli.events ∧
            (∀ sd, t.lifted sd = s.lifted sd)) ∧
        (s.cfg.wake.armed = true → s.psq.overflowMark = false →
          exec (.siteCharacter (.byte 0xD5)) s = .next (s.withSli { s.sli with rx := .frame [] }) ∧
          (∀ (address port : Byte) payload, payload.length ≤ 120 →
            (port.toNat < 128 → filterMatches s.cfg.wake address port payload = true →
              ∃ t, exec (.siteFrame address port payload (crc16 (siteBody address port payload))) s = .next t ∧
                t.WokenFrom s .filter ∧ t.psq.wakeTimer = s.psq.wakeTimer ∧ t.sli.events = s.sli.events ∧
                t.sli.tx = .idle ∧ (∀ sd, t.lifted sd = s.lifted sd)) ∧
            (128 ≤ port.toNat ∨ filterMatches s.cfg.wake address port payload = false →
              ∃ t, exec (.siteFrame address port payload (crc16 (siteBody address port payload))) s = .next t ∧
                t.psq = s.psq ∧ t.sli.tx = .idle ∧ t.sides = s.sides ∧ t.ptu = s.ptu ∧ t.sru = s.sru ∧
                t.stack = s.stack ∧ t.cfg = s.cfg ∧ t.nvs = s.nvs))))) ∧
    ((∀ sd, s.cfg.wake.nozzle.get sd = false ∨ s.lifted sd = []) → exec .nightNozzleWake s = .next s) ∧
    (∀ d, s.psq.confirmTimer = some d → s.psq.restart = .none → storeIdle s = true →
      exec .confirmTimer s = .next (enterNight ⟨none, true⟩ { s with
        now := max s.now d
        sli := { s.sli with events := s.sli.events ||| Event.wakeError.bit }
        psq := { s.psq with confirmTimer := none, night := some ⟨none, true⟩ } })) ∧
    (∀ d, s.psq.confirmTimer = some d → s.psq.restart = .none → storeIdle s = false →
      exec .confirmTimer s = .next { s with
        now := max s.now d
        sli := { s.sli with events := s.sli.events ||| Event.wakeError.bit }
        psq := { s.psq with confirmTimer := none, night := some ⟨none, true⟩ } })) ∧
  (∀ (m : AddrMode) (s : State),
    (m = .unicast → s.psq.mode = .run → s.psq.confirmTimer ≠ none →
      confirmWake m s = { s with psq := { s.psq with confirmTimer := none, wakeTimer := none } }) ∧
    (m ≠ .unicast ∨ s.psq.mode ≠ .run ∨ s.psq.confirmTimer = none → confirmWake m s = s)) ∧
  (∀ (w : Wake) (address port : Byte) (payload : List Byte),
    filterMatches w address port payload = true ↔
      (address &&& w.address.mask = w.address.value &&& w.address.mask) ∧
      (∀ n, w.port = some n → n = port.toNat % 4) ∧ (∀ n, w.length = some n → n = payload.length) ∧
      (∀ (k : Nat) (f : Masked),
        (k, f) ∈ [(0, w.code), (1, w.data.p1), (2, w.data.p2), (3, w.data.p3), (4, w.data.p4)] →
        (∀ b, payload[k]? = some b → b &&& f.mask = f.value &&& f.mask) ∧
        (payload[k]? = none → f.mask = 0)))
end

