-- ==== Sys2Proof/Laws/State.lean ====
section
/-! SUPPORT. One lemma for each field of State under each named update, and for the small collections. -/

namespace Sys2Proof

/-! ## Collections -/

@[simp] theorem PerSide.get_set_same {α : Type} (t : PerSide α) (sd : Side) (v : α) : (t.set sd v).get sd = v := by
  cases sd <;> rfl

@[simp] theorem PerSide.get_set_other {α : Type} (t : PerSide α) (sd : Side) (v : α) :
    (t.set sd v).get sd.other = t.get sd.other := by
  cases sd <;> rfl

theorem PerSide.get_set_ne {α : Type} (t : PerSide α) {sd sd' : Side} (v : α) (h : sd' ≠ sd) :
    (t.set sd v).get sd' = t.get sd' := by
  cases sd <;> cases sd' <;> simp_all [PerSide.set, PerSide.get]

theorem PerSide.get_set {α : Type} (t : PerSide α) (sd sd' : Side) (v : α) :
    (t.set sd v).get sd' = if sd' = sd then v else t.get sd' := by
  cases sd <;> cases sd' <;> rfl

@[simp] theorem PerSide.set_set {α : Type} (t : PerSide α) (sd : Side) (v w : α) :
    (t.set sd v).set sd w = t.set sd w := by
  cases sd <;> rfl

@[simp] theorem PerSide.set_get_same {α : Type} (t : PerSide α) (sd : Side) : t.set sd (t.get sd) = t := by
  cases sd <;> rfl

theorem PerMeter.get_set {α : Type} (t : PerMeter α) (a b : Meter) (v : α) :
    (t.set a v).get b = if b = a then v else t.get b := by
  cases a <;> cases b <;> rfl

@[simp] theorem PerMeter.get_mapAll {α β : Type} (f : Meter → α → β) (t : PerMeter α) (m : Meter) :
    (t.mapAll f).get m = f m (t.get m) := by
  cases m <;> rfl

theorem PerHose.get_set {α : Type} (t : PerHose α) (a b : Hose) (v : α) :
    (t.set a v).get b = if b = a then v else t.get b := by
  cases a <;> cases b <;> rfl

theorem PerLevel.get_set {α : Type} (t : PerLevel α) (a b : Level) (v : α) :
    (t.set a v).get b = if b = a then v else t.get b := by
  cases a <;> cases b <;> rfl

theorem PerGrade.get_set {α : Type} (t : PerGrade α) (a b : Grade) (v : α) :
    (t.set a v).get b = if b = a then v else t.get b := by
  cases a <;> cases b <;> rfl

end Sys2Proof

namespace Sys2Proof.Machine

open Sys2Proof

/-! ## Fields under updates -/

@[simp] theorem State.withSide_pending (s : State) (sd : Side) (r : SideRec) : (s.withSide sd r).pending = s.pending := rfl
@[simp] theorem State.withSide_freeCount (s : State) (sd : Side) (r : SideRec) : (s.withSide sd r).freeCount = s.freeCount := rfl
@[simp] theorem State.withSide_now (s : State) (sd : Side) (r : SideRec) : (s.withSide sd r).now = s.now := rfl
@[simp] theorem State.withSide_powered (s : State) (sd : Side) (r : SideRec) : (s.withSide sd r).powered = s.powered := rfl
@[simp] theorem State.withSide_lines (s : State) (sd : Side) (r : SideRec) : (s.withSide sd r).lines = s.lines := rfl
@[simp] theorem State.withSide_cfg (s : State) (sd : Side) (r : SideRec) : (s.withSide sd r).cfg = s.cfg := rfl
@[simp] theorem State.withSide_mci (s : State) (sd : Side) (r : SideRec) : (s.withSide sd r).mci = s.mci := rfl
@[simp] theorem State.withSide_sides (s : State) (sd : Side) (r : SideRec) : (s.withSide sd r).sides = s.sides.set sd r := rfl
@[simp] theorem State.withSide_ptu (s : State) (sd : Side) (r : SideRec) : (s.withSide sd r).ptu = s.ptu := rfl
@[simp] theorem State.withSide_sru (s : State) (sd : Side) (r : SideRec) : (s.withSide sd r).sru = s.sru := rfl
@[simp] theorem State.withSide_stack (s : State) (sd : Side) (r : SideRec) : (s.withSide sd r).stack = s.stack := rfl
@[simp] theorem State.withSide_lbc (s : State) (sd : Side) (r : SideRec) : (s.withSide sd r).lbc = s.lbc := rfl
@[simp] theorem State.withSide_riu (s : State) (sd : Side) (r : SideRec) : (s.withSide sd r).riu = s.riu := rfl
@[simp] theorem State.withSide_sli (s : State) (sd : Side) (r : SideRec) : (s.withSide sd r).sli = s.sli := rfl
@[simp] theorem State.withSide_nvs (s : State) (sd : Side) (r : SideRec) : (s.withSide sd r).nvs = s.nvs := rfl
@[simp] theorem State.withSide_psq (s : State) (sd : Side) (r : SideRec) : (s.withSide sd r).psq = s.psq := rfl

@[simp] theorem State.withSideState_pending (s : State) (sd : Side) (st : SideState) : (s.withSideState sd st).pending = s.pending := rfl
@[simp] theorem State.withSideState_freeCount (s : State) (sd : Side) (st : SideState) : (s.withSideState sd st).freeCount = s.freeCount := rfl
@[simp] theorem State.withSideState_now (s : State) (sd : Side) (st : SideState) : (s.withSideState sd st).now = s.now := rfl
@[simp] theorem State.withSideState_powered (s : State) (sd : Side) (st : SideState) : (s.withSideState sd st).powered = s.powered := rfl
@[simp] theorem State.withSideState_lines (s : State) (sd : Side) (st : SideState) : (s.withSideState sd st).lines = s.lines := rfl
@[simp] theorem State.withSideState_cfg (s : State) (sd : Side) (st : SideState) : (s.withSideState sd st).cfg = s.cfg := rfl
@[simp] theorem State.withSideState_mci (s : State) (sd : Side) (st : SideState) : (s.withSideState sd st).mci = s.mci := rfl
@[simp] theorem State.withSideState_sides (s : State) (sd : Side) (st : SideState) : (s.withSideState sd st).sides = s.sides.set sd { s.side sd with state := st } := rfl
@[simp] theorem State.withSideState_ptu (s : State) (sd : Side) (st : SideState) : (s.withSideState sd st).ptu = s.ptu := rfl
@[simp] theorem State.withSideState_sru (s : State) (sd : Side) (st : SideState) : (s.withSideState sd st).sru = s.sru := rfl
@[simp] theorem State.withSideState_stack (s : State) (sd : Side) (st : SideState) : (s.withSideState sd st).stack = s.stack := rfl
@[simp] theorem State.withSideState_lbc (s : State) (sd : Side) (st : SideState) : (s.withSideState sd st).lbc = s.lbc := rfl
@[simp] theorem State.withSideState_riu (s : State) (sd : Side) (st : SideState) : (s.withSideState sd st).riu = s.riu := rfl
@[simp] theorem State.withSideState_sli (s : State) (sd : Side) (st : SideState) : (s.withSideState sd st).sli = s.sli := rfl
@[simp] theorem State.withSideState_nvs (s : State) (sd : Side) (st : SideState) : (s.withSideState sd st).nvs = s.nvs := rfl
@[simp] theorem State.withSideState_psq (s : State) (sd : Side) (st : SideState) : (s.withSideState sd st).psq = s.psq := rfl

@[simp] theorem State.withLifted_pending (s : State) (sd : Side) (l : List Hose) : (s.withLifted sd l).pending = s.pending := rfl
@[simp] theorem State.withLifted_freeCount (s : State) (sd : Side) (l : List Hose) : (s.withLifted sd l).freeCount = s.freeCount := rfl
@[simp] theorem State.withLifted_now (s : State) (sd : Side) (l : List Hose) : (s.withLifted sd l).now = s.now := rfl
@[simp] theorem State.withLifted_powered (s : State) (sd : Side) (l : List Hose) : (s.withLifted sd l).powered = s.powered := rfl
@[simp] theorem State.withLifted_lines (s : State) (sd : Side) (l : List Hose) : (s.withLifted sd l).lines = s.lines := rfl
@[simp] theorem State.withLifted_cfg (s : State) (sd : Side) (l : List Hose) : (s.withLifted sd l).cfg = s.cfg := rfl
@[simp] theorem State.withLifted_mci (s : State) (sd : Side) (l : List Hose) : (s.withLifted sd l).mci = s.mci := rfl
@[simp] theorem State.withLifted_sides (s : State) (sd : Side) (l : List Hose) : (s.withLifted sd l).sides = s.sides.set sd { s.side sd with lifted := l } := rfl
@[simp] theorem State.withLifted_ptu (s : State) (sd : Side) (l : List Hose) : (s.withLifted sd l).ptu = s.ptu := rfl
@[simp] theorem State.withLifted_sru (s : State) (sd : Side) (l : List Hose) : (s.withLifted sd l).sru = s.sru := rfl
@[simp] theorem State.withLifted_stack (s : State) (sd : Side) (l : List Hose) : (s.withLifted sd l).stack = s.stack := rfl
@[simp] theorem State.withLifted_lbc (s : State) (sd : Side) (l : List Hose) : (s.withLifted sd l).lbc = s.lbc := rfl
@[simp] theorem State.withLifted_riu (s : State) (sd : Side) (l : List Hose) : (s.withLifted sd l).riu = s.riu := rfl
@[simp] theorem State.withLifted_sli (s : State) (sd : Side) (l : List Hose) : (s.withLifted sd l).sli = s.sli := rfl
@[simp] theorem State.withLifted_nvs (s : State) (sd : Side) (l : List Hose) : (s.withLifted sd l).nvs = s.nvs := rfl
@[simp] theorem State.withLifted_psq (s : State) (sd : Side) (l : List Hose) : (s.withLifted sd l).psq = s.psq := rfl

@[simp] theorem State.withChannel_pending (s : State) (m : Meter) (c : Channel) : (s.withChannel m c).pending = s.pending := rfl
@[simp] theorem State.withChannel_freeCount (s : State) (m : Meter) (c : Channel) : (s.withChannel m c).freeCount = s.freeCount := rfl
@[simp] theorem State.withChannel_now (s : State) (m : Meter) (c : Channel) : (s.withChannel m c).now = s.now := rfl
@[simp] theorem State.withChannel_powered (s : State) (m : Meter) (c : Channel) : (s.withChannel m c).powered = s.powered := rfl
@[simp] theorem State.withChannel_lines (s : State) (m : Meter) (c : Channel) : (s.withChannel m c).lines = s.lines := rfl
@[simp] theorem State.withChannel_cfg (s : State) (m : Meter) (c : Channel) : (s.withChannel m c).cfg = s.cfg := rfl
@[simp] theorem State.withChannel_mci (s : State) (m : Meter) (c : Channel) : (s.withChannel m c).mci = s.mci.set m c := rfl
@[simp] theorem State.withChannel_sides (s : State) (m : Meter) (c : Channel) : (s.withChannel m c).sides = s.sides := rfl
@[simp] theorem State.withChannel_ptu (s : State) (m : Meter) (c : Channel) : (s.withChannel m c).ptu = s.ptu := rfl
@[simp] theorem State.withChannel_sru (s : State) (m : Meter) (c : Channel) : (s.withChannel m c).sru = s.sru := rfl
@[simp] theorem State.withChannel_stack (s : State) (m : Meter) (c : Channel) : (s.withChannel m c).stack = s.stack := rfl
@[simp] theorem State.withChannel_lbc (s : State) (m : Meter) (c : Channel) : (s.withChannel m c).lbc = s.lbc := rfl
@[simp] theorem State.withChannel_riu (s : State) (m : Meter) (c : Channel) : (s.withChannel m c).riu = s.riu := rfl
@[simp] theorem State.withChannel_sli (s : State) (m : Meter) (c : Channel) : (s.withChannel m c).sli = s.sli := rfl
@[simp] theorem State.withChannel_nvs (s : State) (m : Meter) (c : Channel) : (s.withChannel m c).nvs = s.nvs := rfl
@[simp] theorem State.withChannel_psq (s : State) (m : Meter) (c : Channel) : (s.withChannel m c).psq = s.psq := rfl

@[simp] theorem State.withReader_pending (s : State) (sd : Side) (r : ReaderRec) : (s.withReader sd r).pending = s.pending := rfl
@[simp] theorem State.withReader_freeCount (s : State) (sd : Side) (r : ReaderRec) : (s.withReader sd r).freeCount = s.freeCount := rfl
@[simp] theorem State.withReader_now (s : State) (sd : Side) (r : ReaderRec) : (s.withReader sd r).now = s.now := rfl
@[simp] theorem State.withReader_powered (s : State) (sd : Side) (r : ReaderRec) : (s.withReader sd r).powered = s.powered := rfl
@[simp] theorem State.withReader_lines (s : State) (sd : Side) (r : ReaderRec) : (s.withReader sd r).lines = s.lines := rfl
@[simp] theorem State.withReader_cfg (s : State) (sd : Side) (r : ReaderRec) : (s.withReader sd r).cfg = s.cfg := rfl
@[simp] theorem State.withReader_mci (s : State) (sd : Side) (r : ReaderRec) : (s.withReader sd r).mci = s.mci := rfl
@[simp] theorem State.withReader_sides (s : State) (sd : Side) (r : ReaderRec) : (s.withReader sd r).sides = s.sides := rfl
@[simp] theorem State.withReader_ptu (s : State) (sd : Side) (r : ReaderRec) : (s.withReader sd r).ptu = s.ptu := rfl
@[simp] theorem State.withReader_sru (s : State) (sd : Side) (r : ReaderRec) : (s.withReader sd r).sru = s.sru := rfl
@[simp] theorem State.withReader_stack (s : State) (sd : Side) (r : ReaderRec) : (s.withReader sd r).stack = s.stack := rfl
@[simp] theorem State.withReader_lbc (s : State) (sd : Side) (r : ReaderRec) : (s.withReader sd r).lbc = s.lbc := rfl
@[simp] theorem State.withReader_riu (s : State) (sd : Side) (r : ReaderRec) : (s.withReader sd r).riu = s.riu.set sd r := rfl
@[simp] theorem State.withReader_sli (s : State) (sd : Side) (r : ReaderRec) : (s.withReader sd r).sli = s.sli := rfl
@[simp] theorem State.withReader_nvs (s : State) (sd : Side) (r : ReaderRec) : (s.withReader sd r).nvs = s.nvs := rfl
@[simp] theorem State.withReader_psq (s : State) (sd : Side) (r : ReaderRec) : (s.withReader sd r).psq = s.psq := rfl

@[simp] theorem State.withCfg_pending (s : State) (c : Cfg) : (s.withCfg c).pending = s.pending := rfl
@[simp] theorem State.withCfg_freeCount (s : State) (c : Cfg) : (s.withCfg c).freeCount = s.freeCount := rfl
@[simp] theorem State.withCfg_now (s : State) (c : Cfg) : (s.withCfg c).now = s.now := rfl
@[simp] theorem State.withCfg_powered (s : State) (c : Cfg) : (s.withCfg c).powered = s.powered := rfl
@[simp] theorem State.withCfg_lines (s : State) (c : Cfg) : (s.withCfg c).lines = s.lines := rfl
@[simp] theorem State.withCfg_cfg (s : State) (c : Cfg) : (s.withCfg c).cfg = c := rfl
@[simp] theorem State.withCfg_mci (s : State) (c : Cfg) : (s.withCfg c).mci = s.mci := rfl
@[simp] theorem State.withCfg_sides (s : State) (c : Cfg) : (s.withCfg c).sides = s.sides := rfl
@[simp] theorem State.withCfg_ptu (s : State) (c : Cfg) : (s.withCfg c).ptu = s.ptu := rfl
@[simp] theorem State.withCfg_sru (s : State) (c : Cfg) : (s.withCfg c).sru = s.sru := rfl
@[simp] theorem State.withCfg_stack (s : State) (c : Cfg) : (s.withCfg c).stack = s.stack := rfl
@[simp] theorem State.withCfg_lbc (s : State) (c : Cfg) : (s.withCfg c).lbc = s.lbc := rfl
@[simp] theorem State.withCfg_riu (s : State) (c : Cfg) : (s.withCfg c).riu = s.riu := rfl
@[simp] theorem State.withCfg_sli (s : State) (c : Cfg) : (s.withCfg c).sli = s.sli := rfl
@[simp] theorem State.withCfg_nvs (s : State) (c : Cfg) : (s.withCfg c).nvs = s.nvs := rfl
@[simp] theorem State.withCfg_psq (s : State) (c : Cfg) : (s.withCfg c).psq = s.psq := rfl

@[simp] theorem State.withLbc_pending (s : State) (l : Lbc) : (s.withLbc l).pending = s.pending := rfl
@[simp] theorem State.withLbc_freeCount (s : State) (l : Lbc) : (s.withLbc l).freeCount = s.freeCount := rfl
@[simp] theorem State.withLbc_now (s : State) (l : Lbc) : (s.withLbc l).now = s.now := rfl
@[simp] theorem State.withLbc_powered (s : State) (l : Lbc) : (s.withLbc l).powered = s.powered := rfl
@[simp] theorem State.withLbc_lines (s : State) (l : Lbc) : (s.withLbc l).lines = s.lines := rfl
@[simp] theorem State.withLbc_cfg (s : State) (l : Lbc) : (s.withLbc l).cfg = s.cfg := rfl
@[simp] theorem State.withLbc_mci (s : State) (l : Lbc) : (s.withLbc l).mci = s.mci := rfl
@[simp] theorem State.withLbc_sides (s : State) (l : Lbc) : (s.withLbc l).sides = s.sides := rfl
@[simp] theorem State.withLbc_ptu (s : State) (l : Lbc) : (s.withLbc l).ptu = s.ptu := rfl
@[simp] theorem State.withLbc_sru (s : State) (l : Lbc) : (s.withLbc l).sru = s.sru := rfl
@[simp] theorem State.withLbc_stack (s : State) (l : Lbc) : (s.withLbc l).stack = s.stack := rfl
@[simp] theorem State.withLbc_lbc (s : State) (l : Lbc) : (s.withLbc l).lbc = l := rfl
@[simp] theorem State.withLbc_riu (s : State) (l : Lbc) : (s.withLbc l).riu = s.riu := rfl
@[simp] theorem State.withLbc_sli (s : State) (l : Lbc) : (s.withLbc l).sli = s.sli := rfl
@[simp] theorem State.withLbc_nvs (s : State) (l : Lbc) : (s.withLbc l).nvs = s.nvs := rfl
@[simp] theorem State.withLbc_psq (s : State) (l : Lbc) : (s.withLbc l).psq = s.psq := rfl

@[simp] theorem State.withSli_pending (s : State) (l : Sli) : (s.withSli l).pending = s.pending := rfl
@[simp] theorem State.withSli_freeCount (s : State) (l : Sli) : (s.withSli l).freeCount = s.freeCount := rfl
@[simp] theorem State.withSli_now (s : State) (l : Sli) : (s.withSli l).now = s.now := rfl
@[simp] theorem State.withSli_powered (s : State) (l : Sli) : (s.withSli l).powered = s.powered := rfl
@[simp] theorem State.withSli_lines (s : State) (l : Sli) : (s.withSli l).lines = s.lines := rfl
@[simp] theorem State.withSli_cfg (s : State) (l : Sli) : (s.withSli l).cfg = s.cfg := rfl
@[simp] theorem State.withSli_mci (s : State) (l : Sli) : (s.withSli l).mci = s.mci := rfl
@[simp] theorem State.withSli_sides (s : State) (l : Sli) : (s.withSli l).sides = s.sides := rfl
@[simp] theorem State.withSli_ptu (s : State) (l : Sli) : (s.withSli l).ptu = s.ptu := rfl
@[simp] theorem State.withSli_sru (s : State) (l : Sli) : (s.withSli l).sru = s.sru := rfl
@[simp] theorem State.withSli_stack (s : State) (l : Sli) : (s.withSli l).stack = s.stack := rfl
@[simp] theorem State.withSli_lbc (s : State) (l : Sli) : (s.withSli l).lbc = s.lbc := rfl
@[simp] theorem State.withSli_riu (s : State) (l : Sli) : (s.withSli l).riu = s.riu := rfl
@[simp] theorem State.withSli_sli (s : State) (l : Sli) : (s.withSli l).sli = l := rfl
@[simp] theorem State.withSli_nvs (s : State) (l : Sli) : (s.withSli l).nvs = s.nvs := rfl
@[simp] theorem State.withSli_psq (s : State) (l : Sli) : (s.withSli l).psq = s.psq := rfl

@[simp] theorem State.withNvs_pending (s : State) (n : Nvs) : (s.withNvs n).pending = s.pending := rfl
@[simp] theorem State.withNvs_freeCount (s : State) (n : Nvs) : (s.withNvs n).freeCount = s.freeCount := rfl
@[simp] theorem State.withNvs_now (s : State) (n : Nvs) : (s.withNvs n).now = s.now := rfl
@[simp] theorem State.withNvs_powered (s : State) (n : Nvs) : (s.withNvs n).powered = s.powered := rfl
@[simp] theorem State.withNvs_lines (s : State) (n : Nvs) : (s.withNvs n).lines = s.lines := rfl
@[simp] theorem State.withNvs_cfg (s : State) (n : Nvs) : (s.withNvs n).cfg = s.cfg := rfl
@[simp] theorem State.withNvs_mci (s : State) (n : Nvs) : (s.withNvs n).mci = s.mci := rfl
@[simp] theorem State.withNvs_sides (s : State) (n : Nvs) : (s.withNvs n).sides = s.sides := rfl
@[simp] theorem State.withNvs_ptu (s : State) (n : Nvs) : (s.withNvs n).ptu = s.ptu := rfl
@[simp] theorem State.withNvs_sru (s : State) (n : Nvs) : (s.withNvs n).sru = s.sru := rfl
@[simp] theorem State.withNvs_stack (s : State) (n : Nvs) : (s.withNvs n).stack = s.stack := rfl
@[simp] theorem State.withNvs_lbc (s : State) (n : Nvs) : (s.withNvs n).lbc = s.lbc := rfl
@[simp] theorem State.withNvs_riu (s : State) (n : Nvs) : (s.withNvs n).riu = s.riu := rfl
@[simp] theorem State.withNvs_sli (s : State) (n : Nvs) : (s.withNvs n).sli = s.sli := rfl
@[simp] theorem State.withNvs_nvs (s : State) (n : Nvs) : (s.withNvs n).nvs = n := rfl
@[simp] theorem State.withNvs_psq (s : State) (n : Nvs) : (s.withNvs n).psq = s.psq := rfl

@[simp] theorem State.withPsq_pending (s : State) (p : Psq) : (s.withPsq p).pending = s.pending := rfl
@[simp] theorem State.withPsq_freeCount (s : State) (p : Psq) : (s.withPsq p).freeCount = s.freeCount := rfl
@[simp] theorem State.withPsq_now (s : State) (p : Psq) : (s.withPsq p).now = s.now := rfl
@[simp] theorem State.withPsq_powered (s : State) (p : Psq) : (s.withPsq p).powered = s.powered := rfl
@[simp] theorem State.withPsq_lines (s : State) (p : Psq) : (s.withPsq p).lines = s.lines := rfl
@[simp] theorem State.withPsq_cfg (s : State) (p : Psq) : (s.withPsq p).cfg = s.cfg := rfl
@[simp] theorem State.withPsq_mci (s : State) (p : Psq) : (s.withPsq p).mci = s.mci := rfl
@[simp] theorem State.withPsq_sides (s : State) (p : Psq) : (s.withPsq p).sides = s.sides := rfl
@[simp] theorem State.withPsq_ptu (s : State) (p : Psq) : (s.withPsq p).ptu = s.ptu := rfl
@[simp] theorem State.withPsq_sru (s : State) (p : Psq) : (s.withPsq p).sru = s.sru := rfl
@[simp] theorem State.withPsq_stack (s : State) (p : Psq) : (s.withPsq p).stack = s.stack := rfl
@[simp] theorem State.withPsq_lbc (s : State) (p : Psq) : (s.withPsq p).lbc = s.lbc := rfl
@[simp] theorem State.withPsq_riu (s : State) (p : Psq) : (s.withPsq p).riu = s.riu := rfl
@[simp] theorem State.withPsq_sli (s : State) (p : Psq) : (s.withPsq p).sli = s.sli := rfl
@[simp] theorem State.withPsq_nvs (s : State) (p : Psq) : (s.withPsq p).nvs = s.nvs := rfl
@[simp] theorem State.withPsq_psq (s : State) (p : Psq) : (s.withPsq p).psq = p := rfl

@[simp] theorem State.withLines_pending (s : State) (l : Lines) : (s.withLines l).pending = s.pending := rfl
@[simp] theorem State.withLines_freeCount (s : State) (l : Lines) : (s.withLines l).freeCount = s.freeCount := rfl
@[simp] theorem State.withLines_now (s : State) (l : Lines) : (s.withLines l).now = s.now := rfl
@[simp] theorem State.withLines_powered (s : State) (l : Lines) : (s.withLines l).powered = s.powered := rfl
@[simp] theorem State.withLines_lines (s : State) (l : Lines) : (s.withLines l).lines = l := rfl
@[simp] theorem State.withLines_cfg (s : State) (l : Lines) : (s.withLines l).cfg = s.cfg := rfl
@[simp] theorem State.withLines_mci (s : State) (l : Lines) : (s.withLines l).mci = s.mci := rfl
@[simp] theorem State.withLines_sides (s : State) (l : Lines) : (s.withLines l).sides = s.sides := rfl
@[simp] theorem State.withLines_ptu (s : State) (l : Lines) : (s.withLines l).ptu = s.ptu := rfl
@[simp] theorem State.withLines_sru (s : State) (l : Lines) : (s.withLines l).sru = s.sru := rfl
@[simp] theorem State.withLines_stack (s : State) (l : Lines) : (s.withLines l).stack = s.stack := rfl
@[simp] theorem State.withLines_lbc (s : State) (l : Lines) : (s.withLines l).lbc = s.lbc := rfl
@[simp] theorem State.withLines_riu (s : State) (l : Lines) : (s.withLines l).riu = s.riu := rfl
@[simp] theorem State.withLines_sli (s : State) (l : Lines) : (s.withLines l).sli = s.sli := rfl
@[simp] theorem State.withLines_nvs (s : State) (l : Lines) : (s.withLines l).nvs = s.nvs := rfl
@[simp] theorem State.withLines_psq (s : State) (l : Lines) : (s.withLines l).psq = s.psq := rfl

@[simp] theorem State.withEvents_pending (s : State) (ev : BitVec 16) : (s.withEvents ev).pending = s.pending := rfl
@[simp] theorem State.withEvents_freeCount (s : State) (ev : BitVec 16) : (s.withEvents ev).freeCount = s.freeCount := rfl
@[simp] theorem State.withEvents_now (s : State) (ev : BitVec 16) : (s.withEvents ev).now = s.now := rfl
@[simp] theorem State.withEvents_powered (s : State) (ev : BitVec 16) : (s.withEvents ev).powered = s.powered := rfl
@[simp] theorem State.withEvents_lines (s : State) (ev : BitVec 16) : (s.withEvents ev).lines = s.lines := rfl
@[simp] theorem State.withEvents_cfg (s : State) (ev : BitVec 16) : (s.withEvents ev).cfg = s.cfg := rfl
@[simp] theorem State.withEvents_mci (s : State) (ev : BitVec 16) : (s.withEvents ev).mci = s.mci := rfl
@[simp] theorem State.withEvents_sides (s : State) (ev : BitVec 16) : (s.withEvents ev).sides = s.sides := rfl
@[simp] theorem State.withEvents_ptu (s : State) (ev : BitVec 16) : (s.withEvents ev).ptu = s.ptu := rfl
@[simp] theorem State.withEvents_sru (s : State) (ev : BitVec 16) : (s.withEvents ev).sru = s.sru := rfl
@[simp] theorem State.withEvents_stack (s : State) (ev : BitVec 16) : (s.withEvents ev).stack = s.stack := rfl
@[simp] theorem State.withEvents_lbc (s : State) (ev : BitVec 16) : (s.withEvents ev).lbc = s.lbc := rfl
@[simp] theorem State.withEvents_riu (s : State) (ev : BitVec 16) : (s.withEvents ev).riu = s.riu := rfl
@[simp] theorem State.withEvents_sli (s : State) (ev : BitVec 16) : (s.withEvents ev).sli = { s.sli with events := ev } := rfl
@[simp] theorem State.withEvents_nvs (s : State) (ev : BitVec 16) : (s.withEvents ev).nvs = s.nvs := rfl
@[simp] theorem State.withEvents_psq (s : State) (ev : BitVec 16) : (s.withEvents ev).psq = s.psq := rfl

@[simp] theorem State.withPtu_pending (s : State) (p : Prices) : (s.withPtu p).pending = s.pending := rfl
@[simp] theorem State.withPtu_freeCount (s : State) (p : Prices) : (s.withPtu p).freeCount = s.freeCount := rfl
@[simp] theorem State.withPtu_now (s : State) (p : Prices) : (s.withPtu p).now = s.now := rfl
@[simp] theorem State.withPtu_powered (s : State) (p : Prices) : (s.withPtu p).powered = s.powered := rfl
@[simp] theorem State.withPtu_lines (s : State) (p : Prices) : (s.withPtu p).lines = s.lines := rfl
@[simp] theorem State.withPtu_cfg (s : State) (p : Prices) : (s.withPtu p).cfg = s.cfg := rfl
@[simp] theorem State.withPtu_mci (s : State) (p : Prices) : (s.withPtu p).mci = s.mci := rfl
@[simp] theorem State.withPtu_sides (s : State) (p : Prices) : (s.withPtu p).sides = s.sides := rfl
@[simp] theorem State.withPtu_ptu (s : State) (p : Prices) : (s.withPtu p).ptu = p := rfl
@[simp] theorem State.withPtu_sru (s : State) (p : Prices) : (s.withPtu p).sru = s.sru := rfl
@[simp] theorem State.withPtu_stack (s : State) (p : Prices) : (s.withPtu p).stack = s.stack := rfl
@[simp] theorem State.withPtu_lbc (s : State) (p : Prices) : (s.withPtu p).lbc = s.lbc := rfl
@[simp] theorem State.withPtu_riu (s : State) (p : Prices) : (s.withPtu p).riu = s.riu := rfl
@[simp] theorem State.withPtu_sli (s : State) (p : Prices) : (s.withPtu p).sli = s.sli := rfl
@[simp] theorem State.withPtu_nvs (s : State) (p : Prices) : (s.withPtu p).nvs = s.nvs := rfl
@[simp] theorem State.withPtu_psq (s : State) (p : Prices) : (s.withPtu p).psq = s.psq := rfl

@[simp] theorem State.drawn_pending (s : State) : (s.drawn).pending = s.pending := rfl
@[simp] theorem State.drawn_freeCount (s : State) : (s.drawn).freeCount = s.freeCount + 1 := rfl
@[simp] theorem State.drawn_now (s : State) : (s.drawn).now = s.now := rfl
@[simp] theorem State.drawn_powered (s : State) : (s.drawn).powered = s.powered := rfl
@[simp] theorem State.drawn_lines (s : State) : (s.drawn).lines = s.lines := rfl
@[simp] theorem State.drawn_cfg (s : State) : (s.drawn).cfg = s.cfg := rfl
@[simp] theorem State.drawn_mci (s : State) : (s.drawn).mci = s.mci := rfl
@[simp] theorem State.drawn_sides (s : State) : (s.drawn).sides = s.sides := rfl
@[simp] theorem State.drawn_ptu (s : State) : (s.drawn).ptu = s.ptu := rfl
@[simp] theorem State.drawn_sru (s : State) : (s.drawn).sru = s.sru := rfl
@[simp] theorem State.drawn_stack (s : State) : (s.drawn).stack = s.stack := rfl
@[simp] theorem State.drawn_lbc (s : State) : (s.drawn).lbc = s.lbc := rfl
@[simp] theorem State.drawn_riu (s : State) : (s.drawn).riu = s.riu := rfl
@[simp] theorem State.drawn_sli (s : State) : (s.drawn).sli = s.sli := rfl
@[simp] theorem State.drawn_nvs (s : State) : (s.drawn).nvs = s.nvs := rfl
@[simp] theorem State.drawn_psq (s : State) : (s.drawn).psq = s.psq := rfl

@[simp] theorem State.expireAt_pending (s : State) (d : Nat) : (s.expireAt d).pending = s.pending := rfl
@[simp] theorem State.expireAt_freeCount (s : State) (d : Nat) : (s.expireAt d).freeCount = s.freeCount := rfl
@[simp] theorem State.expireAt_now (s : State) (d : Nat) : (s.expireAt d).now = max s.now d := rfl
@[simp] theorem State.expireAt_powered (s : State) (d : Nat) : (s.expireAt d).powered = s.powered := rfl
@[simp] theorem State.expireAt_lines (s : State) (d : Nat) : (s.expireAt d).lines = s.lines := rfl
@[simp] theorem State.expireAt_cfg (s : State) (d : Nat) : (s.expireAt d).cfg = s.cfg := rfl
@[simp] theorem State.expireAt_mci (s : State) (d : Nat) : (s.expireAt d).mci = s.mci := rfl
@[simp] theorem State.expireAt_sides (s : State) (d : Nat) : (s.expireAt d).sides = s.sides := rfl
@[simp] theorem State.expireAt_ptu (s : State) (d : Nat) : (s.expireAt d).ptu = s.ptu := rfl
@[simp] theorem State.expireAt_sru (s : State) (d : Nat) : (s.expireAt d).sru = s.sru := rfl
@[simp] theorem State.expireAt_stack (s : State) (d : Nat) : (s.expireAt d).stack = s.stack := rfl
@[simp] theorem State.expireAt_lbc (s : State) (d : Nat) : (s.expireAt d).lbc = s.lbc := rfl
@[simp] theorem State.expireAt_riu (s : State) (d : Nat) : (s.expireAt d).riu = s.riu := rfl
@[simp] theorem State.expireAt_sli (s : State) (d : Nat) : (s.expireAt d).sli = s.sli := rfl
@[simp] theorem State.expireAt_nvs (s : State) (d : Nat) : (s.expireAt d).nvs = s.nvs := rfl
@[simp] theorem State.expireAt_psq (s : State) (d : Nat) : (s.expireAt d).psq = s.psq := rfl

/-! ## Reads under writes -/

@[simp] theorem State.side_withSide (s : State) (sd : Side) (r : SideRec) : (s.withSide sd r).side sd = r := by
  simp [State.side]

@[simp] theorem State.sideState_withSideState (s : State) (sd : Side) (st : SideState) :
    (s.withSideState sd st).sideState sd = st := by
  simp [State.sideState, State.side]

theorem State.sideState_withSideState_other (s : State) {sd sd' : Side} (st : SideState) (h : sd' ≠ sd) :
    (s.withSideState sd st).sideState sd' = s.sideState sd' := by
  simp [State.sideState, State.side, PerSide.get_set_ne _ _ h]

@[simp] theorem State.lifted_withSideState (s : State) (sd sd' : Side) (st : SideState) :
    (s.withSideState sd st).lifted sd' = s.lifted sd' := by
  simp only [State.lifted, State.side, State.withSideState_sides, PerSide.get_set]
  split
  · subst sd'; rfl
  · rfl

@[simp] theorem State.sideState_withLifted (s : State) (sd sd' : Side) (l : List Hose) :
    (s.withLifted sd l).sideState sd' = s.sideState sd' := by
  simp only [State.sideState, State.side, State.withLifted_sides, PerSide.get_set]
  split
  · subst sd'; rfl
  · rfl

@[simp] theorem State.lifted_withLifted (s : State) (sd : Side) (l : List Hose) :
    (s.withLifted sd l).lifted sd = l := by
  simp [State.lifted, State.side]

@[simp] theorem State.reader_withReader (s : State) (sd : Side) (r : ReaderRec) :
    (s.withReader sd r).reader sd = r := by
  simp [State.reader]

theorem State.reader_withReader_other (s : State) {sd sd' : Side} (r : ReaderRec) (h : sd' ≠ sd) :
    (s.withReader sd r).reader sd' = s.reader sd' := by
  simp [State.reader, PerSide.get_set_ne _ _ h]

@[simp] theorem State.channel_withChannel (s : State) (m : Meter) (c : Channel) :
    (s.withChannel m c).channel m = c := by
  simp [State.channel, PerMeter.get_set]

/-! ## The channel -/

@[simp] theorem Channel.strayReset_reference (c : Channel) :
    (c.strayReset).reference = c.reference := rfl
@[simp] theorem Channel.strayReset_cyclePos (c : Channel) :
    (c.strayReset).cyclePos = c.cyclePos := rfl
@[simp] theorem Channel.strayReset_stray (c : Channel) :
    (c.strayReset).stray = 0 := rfl
@[simp] theorem Channel.strayReset_strayTold (c : Channel) :
    (c.strayReset).strayTold = false := rfl
@[simp] theorem Channel.strayReset_phaseTotal (c : Channel) :
    (c.strayReset).phaseTotal = c.phaseTotal := rfl
@[simp] theorem Channel.strayReset_strayTotal (c : Channel) :
    (c.strayReset).strayTotal = c.strayTotal := rfl
@[simp] theorem Channel.loaded_reference (c : Channel) :
    (c.loaded).reference = none := rfl
@[simp] theorem Channel.loaded_cyclePos (c : Channel) :
    (c.loaded).cyclePos = 0 := rfl
@[simp] theorem Channel.loaded_stray (c : Channel) :
    (c.loaded).stray = 0 := rfl
@[simp] theorem Channel.loaded_strayTold (c : Channel) :
    (c.loaded).strayTold = false := rfl
@[simp] theorem Channel.loaded_phaseTotal (c : Channel) :
    (c.loaded).phaseTotal = c.phaseTotal := rfl
@[simp] theorem Channel.loaded_strayTotal (c : Channel) :
    (c.loaded).strayTotal = c.strayTotal := rfl
@[simp] theorem countStray_reference (told : Bool) (c : Channel) :
    (countStray told c).reference = c.reference := rfl
@[simp] theorem countStray_cyclePos (told : Bool) (c : Channel) :
    (countStray told c).cyclePos = c.cyclePos := rfl
@[simp] theorem countStray_stray (told : Bool) (c : Channel) :
    (countStray told c).stray = min (c.stray + 1) 65535 := rfl
@[simp] theorem countStray_strayTold (told : Bool) (c : Channel) :
    (countStray told c).strayTold = (c.strayTold || told) := rfl
@[simp] theorem countStray_phaseTotal (told : Bool) (c : Channel) :
    (countStray told c).phaseTotal = c.phaseTotal := rfl
@[simp] theorem countStray_strayTotal (told : Bool) (c : Channel) :
    (countStray told c).strayTotal = wrap32 (c.strayTotal + 1) := rfl

end Sys2Proof.Machine
end

