-- ==== Sys2Proof/Laws/Frames.lean ====
section
/-! SUPPORT. For each shared operation and each event, the fields of State it leaves as they are. -/

namespace Sys2Proof.Machine

open Sys2Proof

set_option linter.all false

@[simp] theorem raise_frame (e : Event) (s : State) :
    (raise e s).pending = s.pending ∧ (raise e s).freeCount = s.freeCount ∧ (raise e s).now = s.now ∧
    (raise e s).powered = s.powered ∧ (raise e s).lines = s.lines ∧ (raise e s).cfg = s.cfg ∧
    (raise e s).mci = s.mci ∧ (raise e s).sides = s.sides ∧ (raise e s).ptu = s.ptu ∧ (raise e s).sru = s.sru ∧
    (raise e s).stack = s.stack ∧ (raise e s).lbc = s.lbc ∧ (raise e s).riu = s.riu ∧ (raise e s).nvs = s.nvs ∧
    (raise e s).psq = s.psq := by simp [raise]
@[simp] theorem clearEvents_frame (mask : BitVec 16) (s : State) :
    (clearEvents mask s).pending = s.pending ∧ (clearEvents mask s).freeCount = s.freeCount ∧
    (clearEvents mask s).now = s.now ∧ (clearEvents mask s).powered = s.powered ∧
    (clearEvents mask s).lines = s.lines ∧ (clearEvents mask s).cfg = s.cfg ∧
    (clearEvents mask s).mci = s.mci ∧ (clearEvents mask s).sides = s.sides ∧
    (clearEvents mask s).ptu = s.ptu ∧ (clearEvents mask s).sru = s.sru ∧
    (clearEvents mask s).stack = s.stack ∧ (clearEvents mask s).lbc = s.lbc ∧
    (clearEvents mask s).riu = s.riu ∧ (clearEvents mask s).nvs = s.nvs ∧ (clearEvents mask s).psq = s.psq := by simp [clearEvents]
@[simp] theorem requestWrite_frame (k : Kind) (s : State) :
    (requestWrite k s).pending = s.pending ∧ (requestWrite k s).freeCount = s.freeCount ∧
    (requestWrite k s).now = s.now ∧ (requestWrite k s).powered = s.powered ∧
    (requestWrite k s).lines = s.lines ∧ (requestWrite k s).cfg = s.cfg ∧ (requestWrite k s).mci = s.mci ∧
    (requestWrite k s).sides = s.sides ∧ (requestWrite k s).ptu = s.ptu ∧ (requestWrite k s).sru = s.sru ∧
    (requestWrite k s).stack = s.stack ∧ (requestWrite k s).lbc = s.lbc ∧ (requestWrite k s).riu = s.riu ∧
    (requestWrite k s).sli = s.sli ∧ (requestWrite k s).psq = s.psq := by simp [requestWrite]
@[simp] theorem beginWrite_frame (s : State) :
    (beginWrite s).pending = s.pending ∧ (beginWrite s).freeCount = s.freeCount ∧ (beginWrite s).now = s.now ∧
    (beginWrite s).powered = s.powered ∧ (beginWrite s).lines = s.lines ∧ (beginWrite s).cfg = s.cfg ∧
    (beginWrite s).mci = s.mci ∧ (beginWrite s).sides = s.sides ∧ (beginWrite s).ptu = s.ptu ∧
    (beginWrite s).sru = s.sru ∧ (beginWrite s).stack = s.stack ∧ (beginWrite s).lbc = s.lbc ∧
    (beginWrite s).riu = s.riu ∧ (beginWrite s).sli = s.sli ∧ (beginWrite s).psq = s.psq := by simp only [beginWrite]; (repeat' split) <;> simp
@[simp] theorem resetStrays_frame (sd : Side) (s : State) :
    (resetStrays sd s).pending = s.pending ∧ (resetStrays sd s).freeCount = s.freeCount ∧
    (resetStrays sd s).now = s.now ∧ (resetStrays sd s).powered = s.powered ∧
    (resetStrays sd s).lines = s.lines ∧ (resetStrays sd s).cfg = s.cfg ∧ (resetStrays sd s).sides = s.sides ∧
    (resetStrays sd s).ptu = s.ptu ∧ (resetStrays sd s).sru = s.sru ∧ (resetStrays sd s).stack = s.stack ∧
    (resetStrays sd s).lbc = s.lbc ∧ (resetStrays sd s).riu = s.riu ∧ (resetStrays sd s).sli = s.sli ∧
    (resetStrays sd s).nvs = s.nvs ∧ (resetStrays sd s).psq = s.psq := by simp [resetStrays]
@[simp] theorem handPanel_frame (sd : Side) (s : State) :
    (handPanel sd s).pending = s.pending ∧ (handPanel sd s).freeCount = s.freeCount ∧
    (handPanel sd s).now = s.now ∧ (handPanel sd s).powered = s.powered ∧ (handPanel sd s).lines = s.lines ∧
    (handPanel sd s).cfg = s.cfg ∧ (handPanel sd s).mci = s.mci ∧ (handPanel sd s).sides = s.sides ∧
    (handPanel sd s).ptu = s.ptu ∧ (handPanel sd s).sru = s.sru ∧ (handPanel sd s).stack = s.stack ∧
    (handPanel sd s).riu = s.riu ∧ (handPanel sd s).sli = s.sli ∧ (handPanel sd s).nvs = s.nvs ∧
    (handPanel sd s).psq = s.psq := by simp [handPanel]
@[simp] theorem handPanels_frame (s : State) :
    (handPanels s).pending = s.pending ∧ (handPanels s).freeCount = s.freeCount ∧ (handPanels s).now = s.now ∧
    (handPanels s).powered = s.powered ∧ (handPanels s).lines = s.lines ∧ (handPanels s).cfg = s.cfg ∧
    (handPanels s).mci = s.mci ∧ (handPanels s).sides = s.sides ∧ (handPanels s).ptu = s.ptu ∧
    (handPanels s).sru = s.sru ∧ (handPanels s).stack = s.stack ∧ (handPanels s).riu = s.riu ∧
    (handPanels s).sli = s.sli ∧ (handPanels s).nvs = s.nvs ∧ (handPanels s).psq = s.psq := by simp [handPanels]
@[simp] theorem stackRecord_frame (sd : Side) (ctx : Sale) (r : SaleRecord) (s : State) :
    (stackRecord sd ctx r s).pending = s.pending ∧ (stackRecord sd ctx r s).freeCount = s.freeCount ∧
    (stackRecord sd ctx r s).now = s.now ∧ (stackRecord sd ctx r s).powered = s.powered ∧
    (stackRecord sd ctx r s).lines = s.lines ∧ (stackRecord sd ctx r s).cfg = s.cfg ∧
    (stackRecord sd ctx r s).mci = s.mci ∧ (stackRecord sd ctx r s).sides = s.sides ∧
    (stackRecord sd ctx r s).ptu = s.ptu ∧ (stackRecord sd ctx r s).lbc = s.lbc ∧
    (stackRecord sd ctx r s).riu = s.riu ∧ (stackRecord sd ctx r s).sli = s.sli ∧
    (stackRecord sd ctx r s).psq = s.psq := by simp [stackRecord]
@[simp] theorem enterCalling_frame (sd : Side) (s : State) :
    (enterCalling sd s).pending = s.pending ∧ (enterCalling sd s).freeCount = s.freeCount ∧
    (enterCalling sd s).now = s.now ∧ (enterCalling sd s).powered = s.powered ∧
    (enterCalling sd s).lines = s.lines ∧ (enterCalling sd s).cfg = s.cfg ∧ (enterCalling sd s).mci = s.mci ∧
    (enterCalling sd s).ptu = s.ptu ∧ (enterCalling sd s).sru = s.sru ∧ (enterCalling sd s).stack = s.stack ∧
    (enterCalling sd s).lbc = s.lbc ∧ (enterCalling sd s).riu = s.riu ∧ (enterCalling sd s).nvs = s.nvs ∧
    (enterCalling sd s).psq = s.psq := by simp [enterCalling]
@[simp] theorem enterOpen_frame (sd : Side) (s : State) :
    (enterOpen sd s).pending = s.pending ∧ (enterOpen sd s).freeCount = s.freeCount ∧
    (enterOpen sd s).now = s.now ∧ (enterOpen sd s).powered = s.powered ∧ (enterOpen sd s).lines = s.lines ∧
    (enterOpen sd s).cfg = s.cfg ∧ (enterOpen sd s).mci = s.mci ∧ (enterOpen sd s).ptu = s.ptu ∧
    (enterOpen sd s).sru = s.sru ∧ (enterOpen sd s).stack = s.stack ∧ (enterOpen sd s).lbc = s.lbc ∧
    (enterOpen sd s).riu = s.riu ∧ (enterOpen sd s).nvs = s.nvs ∧ (enterOpen sd s).psq = s.psq := by simp only [enterOpen]; (repeat' split) <;> simp
@[simp] theorem followLifted_frame (sd : Side) (s : State) :
    (followLifted sd s).pending = s.pending ∧ (followLifted sd s).freeCount = s.freeCount ∧
    (followLifted sd s).now = s.now ∧ (followLifted sd s).powered = s.powered ∧
    (followLifted sd s).lines = s.lines ∧ (followLifted sd s).cfg = s.cfg ∧ (followLifted sd s).mci = s.mci ∧
    (followLifted sd s).ptu = s.ptu ∧ (followLifted sd s).sru = s.sru ∧ (followLifted sd s).stack = s.stack ∧
    (followLifted sd s).lbc = s.lbc ∧ (followLifted sd s).riu = s.riu ∧ (followLifted sd s).nvs = s.nvs ∧
    (followLifted sd s).psq = s.psq := by simp only [followLifted]; (repeat' split) <;> simp
@[simp] theorem clearSideOpen_frame (sd : Side) (s : State) :
    (clearSideOpen sd s).pending = s.pending ∧ (clearSideOpen sd s).freeCount = s.freeCount ∧
    (clearSideOpen sd s).now = s.now ∧ (clearSideOpen sd s).powered = s.powered ∧
    (clearSideOpen sd s).lines = s.lines ∧ (clearSideOpen sd s).mci = s.mci ∧
    (clearSideOpen sd s).sides = s.sides ∧ (clearSideOpen sd s).ptu = s.ptu ∧
    (clearSideOpen sd s).sru = s.sru ∧ (clearSideOpen sd s).stack = s.stack ∧
    (clearSideOpen sd s).lbc = s.lbc ∧ (clearSideOpen sd s).riu = s.riu ∧ (clearSideOpen sd s).sli = s.sli ∧
    (clearSideOpen sd s).psq = s.psq := by simp only [clearSideOpen]; (repeat' split) <;> simp
@[simp] theorem enterClosed_frame (sd : Side) (reason : ClosedReason) (s : State) :
    (enterClosed sd reason s).pending = s.pending ∧ (enterClosed sd reason s).freeCount = s.freeCount ∧
    (enterClosed sd reason s).now = s.now ∧ (enterClosed sd reason s).powered = s.powered ∧
    (enterClosed sd reason s).lines = s.lines ∧ (enterClosed sd reason s).mci = s.mci ∧
    (enterClosed sd reason s).ptu = s.ptu ∧ (enterClosed sd reason s).sru = s.sru ∧
    (enterClosed sd reason s).stack = s.stack ∧ (enterClosed sd reason s).riu = s.riu ∧
    (enterClosed sd reason s).psq = s.psq := by simp only [enterClosed]; (repeat' split) <;> simp
@[simp] theorem enterStarting_frame (sd : Side) (a : Auth) (h : Hose) (r : HoseRec) (price : Nat) (s : State) :
    (enterStarting sd a h r price s).pending = s.pending ∧
    (enterStarting sd a h r price s).freeCount = s.freeCount ∧ (enterStarting sd a h r price s).now = s.now ∧
    (enterStarting sd a h r price s).powered = s.powered ∧ (enterStarting sd a h r price s).lines = s.lines ∧
    (enterStarting sd a h r price s).cfg = s.cfg ∧ (enterStarting sd a h r price s).mci = s.mci ∧
    (enterStarting sd a h r price s).ptu = s.ptu ∧ (enterStarting sd a h r price s).sru = s.sru ∧
    (enterStarting sd a h r price s).stack = s.stack ∧ (enterStarting sd a h r price s).sli = s.sli ∧
    (enterStarting sd a h r price s).nvs = s.nvs ∧ (enterStarting sd a h r price s).psq = s.psq := by simp [enterStarting]
@[simp] theorem testStart_frame (sd : Side) (s : State) :
    (testStart sd s).pending = s.pending ∧ (testStart sd s).freeCount = s.freeCount ∧
    (testStart sd s).now = s.now ∧ (testStart sd s).powered = s.powered ∧ (testStart sd s).lines = s.lines ∧
    (testStart sd s).cfg = s.cfg ∧ (testStart sd s).mci = s.mci ∧ (testStart sd s).ptu = s.ptu ∧
    (testStart sd s).sru = s.sru ∧ (testStart sd s).stack = s.stack ∧ (testStart sd s).sli = s.sli ∧
    (testStart sd s).nvs = s.nvs ∧ (testStart sd s).psq = s.psq := by simp only [testStart]; (repeat' split) <;> simp
@[simp] theorem renewBlocked_frame (sd : Side) (s : State) :
    (renewBlocked sd s).pending = s.pending ∧ (renewBlocked sd s).freeCount = s.freeCount ∧
    (renewBlocked sd s).now = s.now ∧ (renewBlocked sd s).powered = s.powered ∧
    (renewBlocked sd s).lines = s.lines ∧ (renewBlocked sd s).cfg = s.cfg ∧ (renewBlocked sd s).mci = s.mci ∧
    (renewBlocked sd s).ptu = s.ptu ∧ (renewBlocked sd s).sru = s.sru ∧ (renewBlocked sd s).stack = s.stack ∧
    (renewBlocked sd s).lbc = s.lbc ∧ (renewBlocked sd s).riu = s.riu ∧ (renewBlocked sd s).sli = s.sli ∧
    (renewBlocked sd s).nvs = s.nvs ∧ (renewBlocked sd s).psq = s.psq := by simp only [renewBlocked]; (repeat' split) <;> simp
@[simp] theorem stopSale_frame (sd : Side) (reason : EndReason) (fault : Option Meter) (s : State) :
    (stopSale sd reason fault s).pending = s.pending ∧ (stopSale sd reason fault s).freeCount = s.freeCount ∧
    (stopSale sd reason fault s).now = s.now ∧ (stopSale sd reason fault s).powered = s.powered ∧
    (stopSale sd reason fault s).lines = s.lines ∧ (stopSale sd reason fault s).cfg = s.cfg ∧
    (stopSale sd reason fault s).mci = s.mci ∧ (stopSale sd reason fault s).ptu = s.ptu ∧
    (stopSale sd reason fault s).sru = s.sru ∧ (stopSale sd reason fault s).stack = s.stack ∧
    (stopSale sd reason fault s).lbc = s.lbc ∧ (stopSale sd reason fault s).riu = s.riu ∧
    (stopSale sd reason fault s).sli = s.sli ∧ (stopSale sd reason fault s).nvs = s.nvs ∧
    (stopSale sd reason fault s).psq = s.psq := by simp only [stopSale]; (repeat' split) <;> simp
@[simp] theorem afterCompletion_frame (sd : Side) (e : Ended) (ctx : Sale) (s : State) :
    (afterCompletion sd e ctx s).pending = s.pending ∧ (afterCompletion sd e ctx s).freeCount = s.freeCount ∧
    (afterCompletion sd e ctx s).now = s.now ∧ (afterCompletion sd e ctx s).powered = s.powered ∧
    (afterCompletion sd e ctx s).lines = s.lines ∧ (afterCompletion sd e ctx s).mci = s.mci ∧
    (afterCompletion sd e ctx s).ptu = s.ptu ∧ (afterCompletion sd e ctx s).sru = s.sru ∧
    (afterCompletion sd e ctx s).stack = s.stack ∧ (afterCompletion sd e ctx s).riu = s.riu ∧
    (afterCompletion sd e ctx s).psq = s.psq := by simp only [afterCompletion]; (repeat' split) <;> simp
@[simp] theorem recordSale_frame (sd : Side) (e : Ended) (ctx : Sale) (s : State) :
    (recordSale sd e ctx s).pending = s.pending ∧ (recordSale sd e ctx s).freeCount = s.freeCount ∧
    (recordSale sd e ctx s).now = s.now ∧ (recordSale sd e ctx s).powered = s.powered ∧
    (recordSale sd e ctx s).lines = s.lines ∧ (recordSale sd e ctx s).cfg = s.cfg ∧
    (recordSale sd e ctx s).mci = s.mci ∧ (recordSale sd e ctx s).ptu = s.ptu ∧
    (recordSale sd e ctx s).lbc = s.lbc ∧ (recordSale sd e ctx s).riu = s.riu ∧
    (recordSale sd e ctx s).sli = s.sli ∧ (recordSale sd e ctx s).psq = s.psq := by simp only [recordSale]; (repeat' split) <;> simp
@[simp] theorem completeSale_frame (sd : Side) (s : State) :
    (completeSale sd s).pending = s.pending ∧ (completeSale sd s).freeCount = s.freeCount ∧
    (completeSale sd s).now = s.now ∧ (completeSale sd s).powered = s.powered ∧
    (completeSale sd s).lines = s.lines ∧ (completeSale sd s).ptu = s.ptu ∧ (completeSale sd s).riu = s.riu ∧
    (completeSale sd s).psq = s.psq := by simp only [completeSale]; (repeat' split) <;> simp
@[simp] theorem actOnResult_frame (sd : Side) (result : TestResult) (s : State) :
    (actOnResult sd result s).pending = s.pending ∧ (actOnResult sd result s).freeCount = s.freeCount ∧
    (actOnResult sd result s).now = s.now ∧ (actOnResult sd result s).powered = s.powered ∧
    (actOnResult sd result s).lines = s.lines ∧ (actOnResult sd result s).cfg = s.cfg ∧
    (actOnResult sd result s).mci = s.mci ∧ (actOnResult sd result s).ptu = s.ptu ∧
    (actOnResult sd result s).sru = s.sru ∧ (actOnResult sd result s).stack = s.stack ∧
    (actOnResult sd result s).lbc = s.lbc ∧ (actOnResult sd result s).riu = s.riu ∧
    (actOnResult sd result s).sli = s.sli ∧ (actOnResult sd result s).nvs = s.nvs ∧
    (actOnResult sd result s).psq = s.psq := by simp only [actOnResult]; (repeat' split) <;> simp
@[simp] theorem takeReport_frame (sd : Side) (kind : MeterReport) (m : Meter) (s : State) :
    (takeReport sd kind m s).pending = s.pending ∧ (takeReport sd kind m s).freeCount = s.freeCount ∧
    (takeReport sd kind m s).now = s.now ∧ (takeReport sd kind m s).powered = s.powered ∧
    (takeReport sd kind m s).lines = s.lines ∧ (takeReport sd kind m s).cfg = s.cfg ∧
    (takeReport sd kind m s).mci = s.mci ∧ (takeReport sd kind m s).ptu = s.ptu ∧
    (takeReport sd kind m s).sru = s.sru ∧ (takeReport sd kind m s).stack = s.stack ∧
    (takeReport sd kind m s).lbc = s.lbc ∧ (takeReport sd kind m s).riu = s.riu ∧
    (takeReport sd kind m s).sli = s.sli ∧ (takeReport sd kind m s).nvs = s.nvs ∧
    (takeReport sd kind m s).psq = s.psq := by simp only [takeReport]; (repeat' split) <;> simp
@[simp] theorem takeStray_frame (sd : Side) (m : Meter) (s : State) :
    (takeStray sd m s).pending = s.pending ∧ (takeStray sd m s).freeCount = s.freeCount ∧
    (takeStray sd m s).now = s.now ∧ (takeStray sd m s).powered = s.powered ∧
    (takeStray sd m s).lines = s.lines ∧ (takeStray sd m s).mci = s.mci ∧ (takeStray sd m s).ptu = s.ptu ∧
    (takeStray sd m s).sru = s.sru ∧ (takeStray sd m s).stack = s.stack ∧ (takeStray sd m s).riu = s.riu ∧
    (takeStray sd m s).psq = s.psq := by simp only [takeStray]; (repeat' split) <;> simp
@[simp] theorem takeLoss_frame (sd : Side) (s : State) :
    (takeLoss sd s).pending = s.pending ∧ (takeLoss sd s).freeCount = s.freeCount ∧
    (takeLoss sd s).now = s.now ∧ (takeLoss sd s).powered = s.powered ∧ (takeLoss sd s).lines = s.lines ∧
    (takeLoss sd s).mci = s.mci ∧ (takeLoss sd s).ptu = s.ptu ∧ (takeLoss sd s).sru = s.sru ∧
    (takeLoss sd s).stack = s.stack ∧ (takeLoss sd s).riu = s.riu ∧ (takeLoss sd s).psq = s.psq := by simp only [takeLoss]; (repeat' split) <;> simp
@[simp] theorem takeStoreFailure_frame (sd : Side) (s : State) :
    (takeStoreFailure sd s).pending = s.pending ∧ (takeStoreFailure sd s).freeCount = s.freeCount ∧
    (takeStoreFailure sd s).now = s.now ∧ (takeStoreFailure sd s).powered = s.powered ∧
    (takeStoreFailure sd s).lines = s.lines ∧ (takeStoreFailure sd s).mci = s.mci ∧
    (takeStoreFailure sd s).ptu = s.ptu ∧ (takeStoreFailure sd s).sru = s.sru ∧
    (takeStoreFailure sd s).stack = s.stack ∧ (takeStoreFailure sd s).riu = s.riu ∧
    (takeStoreFailure sd s).psq = s.psq := by simp only [takeStoreFailure]; (repeat' split) <;> simp
@[simp] theorem stopSide_frame (sd : Side) (s : State) :
    (stopSide sd s).pending = s.pending ∧ (stopSide sd s).freeCount = s.freeCount ∧
    (stopSide sd s).now = s.now ∧ (stopSide sd s).powered = s.powered ∧ (stopSide sd s).lines = s.lines ∧
    (stopSide sd s).cfg = s.cfg ∧ (stopSide sd s).mci = s.mci ∧ (stopSide sd s).ptu = s.ptu ∧
    (stopSide sd s).sru = s.sru ∧ (stopSide sd s).stack = s.stack ∧ (stopSide sd s).lbc = s.lbc ∧
    (stopSide sd s).riu = s.riu ∧ (stopSide sd s).nvs = s.nvs ∧ (stopSide sd s).psq = s.psq := by simp only [stopSide]; (repeat' split) <;> simp
@[simp] theorem closeSide_frame (sd : Side) (s : State) :
    (closeSide sd s).pending = s.pending ∧ (closeSide sd s).freeCount = s.freeCount ∧
    (closeSide sd s).now = s.now ∧ (closeSide sd s).powered = s.powered ∧ (closeSide sd s).lines = s.lines ∧
    (closeSide sd s).mci = s.mci ∧ (closeSide sd s).ptu = s.ptu ∧ (closeSide sd s).sru = s.sru ∧
    (closeSide sd s).stack = s.stack ∧ (closeSide sd s).riu = s.riu ∧ (closeSide sd s).psq = s.psq := by simp only [closeSide]; (repeat' split) <;> simp
@[simp] theorem powerFailSide_frame (sd : Side) (s : State) :
    (powerFailSide sd s).pending = s.pending ∧ (powerFailSide sd s).freeCount = s.freeCount ∧
    (powerFailSide sd s).now = s.now ∧ (powerFailSide sd s).powered = s.powered ∧
    (powerFailSide sd s).lines = s.lines ∧ (powerFailSide sd s).ptu = s.ptu ∧
    (powerFailSide sd s).riu = s.riu ∧ (powerFailSide sd s).psq = s.psq := by simp [powerFailSide]
@[simp] theorem abandonReaderSlot_frame (sd : Side) (s : State) :
    (abandonReaderSlot sd s).pending = s.pending ∧ (abandonReaderSlot sd s).freeCount = s.freeCount ∧
    (abandonReaderSlot sd s).now = s.now ∧ (abandonReaderSlot sd s).powered = s.powered ∧
    (abandonReaderSlot sd s).lines = s.lines ∧ (abandonReaderSlot sd s).cfg = s.cfg ∧
    (abandonReaderSlot sd s).mci = s.mci ∧ (abandonReaderSlot sd s).sides = s.sides ∧
    (abandonReaderSlot sd s).ptu = s.ptu ∧ (abandonReaderSlot sd s).sru = s.sru ∧
    (abandonReaderSlot sd s).stack = s.stack ∧ (abandonReaderSlot sd s).riu = s.riu ∧
    (abandonReaderSlot sd s).sli = s.sli ∧ (abandonReaderSlot sd s).nvs = s.nvs ∧
    (abandonReaderSlot sd s).psq = s.psq := by simp only [abandonReaderSlot]; (repeat' split) <;> simp
@[simp] theorem cutReader_frame (sd : Side) (st : ReaderState) (hold : HoldTimer) (report : Bool) (s : State) :
    (cutReader sd st hold report s).pending = s.pending ∧
    (cutReader sd st hold report s).freeCount = s.freeCount ∧ (cutReader sd st hold report s).now = s.now ∧
    (cutReader sd st hold report s).powered = s.powered ∧ (cutReader sd st hold report s).lines = s.lines ∧
    (cutReader sd st hold report s).cfg = s.cfg ∧ (cutReader sd st hold report s).mci = s.mci ∧
    (cutReader sd st hold report s).sides = s.sides ∧ (cutReader sd st hold report s).ptu = s.ptu ∧
    (cutReader sd st hold report s).sru = s.sru ∧ (cutReader sd st hold report s).stack = s.stack ∧
    (cutReader sd st hold report s).nvs = s.nvs ∧ (cutReader sd st hold report s).psq = s.psq := by simp only [cutReader]; (repeat' split) <;> simp
@[simp] theorem enterOff_frame (sd : Side) (reason : OffReason) (s : State) :
    (enterOff sd reason s).pending = s.pending ∧ (enterOff sd reason s).freeCount = s.freeCount ∧
    (enterOff sd reason s).now = s.now ∧ (enterOff sd reason s).powered = s.powered ∧
    (enterOff sd reason s).lines = s.lines ∧ (enterOff sd reason s).cfg = s.cfg ∧
    (enterOff sd reason s).mci = s.mci ∧ (enterOff sd reason s).sides = s.sides ∧
    (enterOff sd reason s).ptu = s.ptu ∧ (enterOff sd reason s).sru = s.sru ∧
    (enterOff sd reason s).stack = s.stack ∧ (enterOff sd reason s).nvs = s.nvs ∧
    (enterOff sd reason s).psq = s.psq := by simp [enterOff]
@[simp] theorem enterQuarantined_frame (sd : Side) (s : State) :
    (enterQuarantined sd s).pending = s.pending ∧ (enterQuarantined sd s).freeCount = s.freeCount ∧
    (enterQuarantined sd s).now = s.now ∧ (enterQuarantined sd s).powered = s.powered ∧
    (enterQuarantined sd s).lines = s.lines ∧ (enterQuarantined sd s).cfg = s.cfg ∧
    (enterQuarantined sd s).mci = s.mci ∧ (enterQuarantined sd s).sides = s.sides ∧
    (enterQuarantined sd s).ptu = s.ptu ∧ (enterQuarantined sd s).sru = s.sru ∧
    (enterQuarantined sd s).stack = s.stack ∧ (enterQuarantined sd s).nvs = s.nvs ∧
    (enterQuarantined sd s).psq = s.psq := by simp [enterQuarantined]
@[simp] theorem enterTampered_frame (sd : Side) (s : State) :
    (enterTampered sd s).pending = s.pending ∧ (enterTampered sd s).freeCount = s.freeCount ∧
    (enterTampered sd s).now = s.now ∧ (enterTampered sd s).powered = s.powered ∧
    (enterTampered sd s).lines = s.lines ∧ (enterTampered sd s).cfg = s.cfg ∧
    (enterTampered sd s).mci = s.mci ∧ (enterTampered sd s).sides = s.sides ∧
    (enterTampered sd s).ptu = s.ptu ∧ (enterTampered sd s).sru = s.sru ∧
    (enterTampered sd s).stack = s.stack ∧ (enterTampered sd s).nvs = s.nvs ∧ (enterTampered sd s).psq = s.psq := by simp only [enterTampered]; (repeat' split) <;> simp
@[simp] theorem powerOff_frame (sd : Side) (s : State) :
    (powerOff sd s).pending = s.pending ∧ (powerOff sd s).freeCount = s.freeCount ∧
    (powerOff sd s).now = s.now ∧ (powerOff sd s).powered = s.powered ∧ (powerOff sd s).lines = s.lines ∧
    (powerOff sd s).cfg = s.cfg ∧ (powerOff sd s).mci = s.mci ∧ (powerOff sd s).sides = s.sides ∧
    (powerOff sd s).ptu = s.ptu ∧ (powerOff sd s).sru = s.sru ∧ (powerOff sd s).stack = s.stack ∧
    (powerOff sd s).nvs = s.nvs ∧ (powerOff sd s).psq = s.psq := by simp only [powerOff]; (repeat' split) <;> simp
@[simp] theorem powerOffReaders_frame (s : State) :
    (powerOffReaders s).pending = s.pending ∧ (powerOffReaders s).freeCount = s.freeCount ∧
    (powerOffReaders s).now = s.now ∧ (powerOffReaders s).powered = s.powered ∧
    (powerOffReaders s).lines = s.lines ∧ (powerOffReaders s).cfg = s.cfg ∧ (powerOffReaders s).mci = s.mci ∧
    (powerOffReaders s).sides = s.sides ∧ (powerOffReaders s).ptu = s.ptu ∧ (powerOffReaders s).sru = s.sru ∧
    (powerOffReaders s).stack = s.stack ∧ (powerOffReaders s).nvs = s.nvs ∧ (powerOffReaders s).psq = s.psq := by simp [powerOffReaders]
@[simp] theorem countReaderError_frame (sd : Side) (s : State) :
    (countReaderError sd s).pending = s.pending ∧ (countReaderError sd s).freeCount = s.freeCount ∧
    (countReaderError sd s).now = s.now ∧ (countReaderError sd s).powered = s.powered ∧
    (countReaderError sd s).lines = s.lines ∧ (countReaderError sd s).cfg = s.cfg ∧
    (countReaderError sd s).mci = s.mci ∧ (countReaderError sd s).sides = s.sides ∧
    (countReaderError sd s).ptu = s.ptu ∧ (countReaderError sd s).sru = s.sru ∧
    (countReaderError sd s).stack = s.stack ∧ (countReaderError sd s).nvs = s.nvs ∧
    (countReaderError sd s).psq = s.psq := by simp only [countReaderError]; (repeat' split) <;> simp
@[simp] theorem countReaderGood_frame (sd : Side) (s : State) :
    (countReaderGood sd s).pending = s.pending ∧ (countReaderGood sd s).freeCount = s.freeCount ∧
    (countReaderGood sd s).now = s.now ∧ (countReaderGood sd s).powered = s.powered ∧
    (countReaderGood sd s).lines = s.lines ∧ (countReaderGood sd s).cfg = s.cfg ∧
    (countReaderGood sd s).mci = s.mci ∧ (countReaderGood sd s).sides = s.sides ∧
    (countReaderGood sd s).ptu = s.ptu ∧ (countReaderGood sd s).sru = s.sru ∧
    (countReaderGood sd s).stack = s.stack ∧ (countReaderGood sd s).lbc = s.lbc ∧
    (countReaderGood sd s).sli = s.sli ∧ (countReaderGood sd s).nvs = s.nvs ∧ (countReaderGood sd s).psq = s.psq := by simp [countReaderGood]
@[simp] theorem countDrop_frame (sd : Side) (s : State) :
    (countDrop sd s).pending = s.pending ∧ (countDrop sd s).freeCount = s.freeCount ∧
    (countDrop sd s).now = s.now ∧ (countDrop sd s).powered = s.powered ∧ (countDrop sd s).lines = s.lines ∧
    (countDrop sd s).cfg = s.cfg ∧ (countDrop sd s).mci = s.mci ∧ (countDrop sd s).sides = s.sides ∧
    (countDrop sd s).ptu = s.ptu ∧ (countDrop sd s).sru = s.sru ∧ (countDrop sd s).stack = s.stack ∧
    (countDrop sd s).lbc = s.lbc ∧ (countDrop sd s).sli = s.sli ∧ (countDrop sd s).nvs = s.nvs ∧
    (countDrop sd s).psq = s.psq := by simp [countDrop]
@[simp] theorem countViolation_frame (sd : Side) (s : State) :
    (countViolation sd s).pending = s.pending ∧ (countViolation sd s).freeCount = s.freeCount ∧
    (countViolation sd s).now = s.now ∧ (countViolation sd s).powered = s.powered ∧
    (countViolation sd s).lines = s.lines ∧ (countViolation sd s).cfg = s.cfg ∧
    (countViolation sd s).mci = s.mci ∧ (countViolation sd s).sides = s.sides ∧
    (countViolation sd s).ptu = s.ptu ∧ (countViolation sd s).sru = s.sru ∧
    (countViolation sd s).stack = s.stack ∧ (countViolation sd s).lbc = s.lbc ∧
    (countViolation sd s).sli = s.sli ∧ (countViolation sd s).nvs = s.nvs ∧ (countViolation sd s).psq = s.psq := by simp [countViolation]
@[simp] theorem supervise_frame (sd : Side) (payload : List Byte) (s : State) :
    (supervise sd payload s).pending = s.pending ∧ (supervise sd payload s).freeCount = s.freeCount ∧
    (supervise sd payload s).now = s.now ∧ (supervise sd payload s).powered = s.powered ∧
    (supervise sd payload s).lines = s.lines ∧ (supervise sd payload s).cfg = s.cfg ∧
    (supervise sd payload s).mci = s.mci ∧ (supervise sd payload s).sides = s.sides ∧
    (supervise sd payload s).ptu = s.ptu ∧ (supervise sd payload s).sru = s.sru ∧
    (supervise sd payload s).stack = s.stack ∧ (supervise sd payload s).nvs = s.nvs ∧
    (supervise sd payload s).psq = s.psq := by simp only [supervise]; (repeat' split) <;> simp
@[simp] theorem deliverReaderFrame_frame (sd : Side) (payload : List Byte) (s : State) :
    (deliverReaderFrame sd payload s).pending = s.pending ∧
    (deliverReaderFrame sd payload s).freeCount = s.freeCount ∧ (deliverReaderFrame sd payload s).now = s.now ∧
    (deliverReaderFrame sd payload s).powered = s.powered ∧ (deliverReaderFrame sd payload s).lines = s.lines ∧
    (deliverReaderFrame sd payload s).cfg = s.cfg ∧ (deliverReaderFrame sd payload s).mci = s.mci ∧
    (deliverReaderFrame sd payload s).sides = s.sides ∧ (deliverReaderFrame sd payload s).ptu = s.ptu ∧
    (deliverReaderFrame sd payload s).sru = s.sru ∧ (deliverReaderFrame sd payload s).stack = s.stack ∧
    (deliverReaderFrame sd payload s).nvs = s.nvs ∧ (deliverReaderFrame sd payload s).psq = s.psq := by simp only [deliverReaderFrame]; (repeat' split) <;> simp
@[simp] theorem takeAttachedAnswer_frame (sd : Side) (ans : Answer) (s : State) :
    (takeAttachedAnswer sd ans s).pending = s.pending ∧ (takeAttachedAnswer sd ans s).freeCount = s.freeCount ∧
    (takeAttachedAnswer sd ans s).now = s.now ∧ (takeAttachedAnswer sd ans s).powered = s.powered ∧
    (takeAttachedAnswer sd ans s).lines = s.lines ∧ (takeAttachedAnswer sd ans s).cfg = s.cfg ∧
    (takeAttachedAnswer sd ans s).mci = s.mci ∧ (takeAttachedAnswer sd ans s).sides = s.sides ∧
    (takeAttachedAnswer sd ans s).ptu = s.ptu ∧ (takeAttachedAnswer sd ans s).sru = s.sru ∧
    (takeAttachedAnswer sd ans s).stack = s.stack ∧ (takeAttachedAnswer sd ans s).nvs = s.nvs ∧
    (takeAttachedAnswer sd ans s).psq = s.psq := by simp only [takeAttachedAnswer]; (repeat' split) <;> simp
@[simp] theorem attachReader_frame (sd : Side) (s : State) :
    (attachReader sd s).pending = s.pending ∧ (attachReader sd s).freeCount = s.freeCount ∧
    (attachReader sd s).now = s.now ∧ (attachReader sd s).powered = s.powered ∧
    (attachReader sd s).lines = s.lines ∧ (attachReader sd s).cfg = s.cfg ∧ (attachReader sd s).mci = s.mci ∧
    (attachReader sd s).sides = s.sides ∧ (attachReader sd s).ptu = s.ptu ∧ (attachReader sd s).sru = s.sru ∧
    (attachReader sd s).stack = s.stack ∧ (attachReader sd s).lbc = s.lbc ∧ (attachReader sd s).sli = s.sli ∧
    (attachReader sd s).nvs = s.nvs ∧ (attachReader sd s).psq = s.psq := by simp [attachReader]
@[simp] theorem takeProbeAnswer_frame (sd : Side) (ans : Answer) (s : State) :
    (takeProbeAnswer sd ans s).pending = s.pending ∧ (takeProbeAnswer sd ans s).freeCount = s.freeCount ∧
    (takeProbeAnswer sd ans s).now = s.now ∧ (takeProbeAnswer sd ans s).powered = s.powered ∧
    (takeProbeAnswer sd ans s).lines = s.lines ∧ (takeProbeAnswer sd ans s).cfg = s.cfg ∧
    (takeProbeAnswer sd ans s).mci = s.mci ∧ (takeProbeAnswer sd ans s).sides = s.sides ∧
    (takeProbeAnswer sd ans s).ptu = s.ptu ∧ (takeProbeAnswer sd ans s).sru = s.sru ∧
    (takeProbeAnswer sd ans s).stack = s.stack ∧ (takeProbeAnswer sd ans s).nvs = s.nvs ∧
    (takeProbeAnswer sd ans s).psq = s.psq := by simp only [takeProbeAnswer]; (repeat' split) <;> simp
@[simp] theorem takeReaderAnswer_frame (sd : Side) (ans : Answer) (s : State) :
    (takeReaderAnswer sd ans s).pending = s.pending ∧ (takeReaderAnswer sd ans s).freeCount = s.freeCount ∧
    (takeReaderAnswer sd ans s).now = s.now ∧ (takeReaderAnswer sd ans s).powered = s.powered ∧
    (takeReaderAnswer sd ans s).lines = s.lines ∧ (takeReaderAnswer sd ans s).cfg = s.cfg ∧
    (takeReaderAnswer sd ans s).mci = s.mci ∧ (takeReaderAnswer sd ans s).sides = s.sides ∧
    (takeReaderAnswer sd ans s).ptu = s.ptu ∧ (takeReaderAnswer sd ans s).sru = s.sru ∧
    (takeReaderAnswer sd ans s).stack = s.stack ∧ (takeReaderAnswer sd ans s).nvs = s.nvs ∧
    (takeReaderAnswer sd ans s).psq = s.psq := by simp only [takeReaderAnswer]; (repeat' split) <;> simp
@[simp] theorem beginDisplaySlot_frame (m : DisplayModule) (s : State) :
    (beginDisplaySlot m s).pending = s.pending ∧ (beginDisplaySlot m s).freeCount = s.freeCount ∧
    (beginDisplaySlot m s).now = s.now ∧ (beginDisplaySlot m s).powered = s.powered ∧
    (beginDisplaySlot m s).lines = s.lines ∧ (beginDisplaySlot m s).cfg = s.cfg ∧
    (beginDisplaySlot m s).mci = s.mci ∧ (beginDisplaySlot m s).sides = s.sides ∧
    (beginDisplaySlot m s).ptu = s.ptu ∧ (beginDisplaySlot m s).sru = s.sru ∧
    (beginDisplaySlot m s).stack = s.stack ∧ (beginDisplaySlot m s).riu = s.riu ∧
    (beginDisplaySlot m s).sli = s.sli ∧ (beginDisplaySlot m s).nvs = s.nvs ∧ (beginDisplaySlot m s).psq = s.psq := by simp [beginDisplaySlot]
@[simp] theorem readerSlot_frame (sd : Side) (payload : List Byte) (s : State) :
    (readerSlot sd payload s).pending = s.pending ∧ (readerSlot sd payload s).freeCount = s.freeCount ∧
    (readerSlot sd payload s).now = s.now ∧ (readerSlot sd payload s).powered = s.powered ∧
    (readerSlot sd payload s).lines = s.lines ∧ (readerSlot sd payload s).cfg = s.cfg ∧
    (readerSlot sd payload s).mci = s.mci ∧ (readerSlot sd payload s).sides = s.sides ∧
    (readerSlot sd payload s).ptu = s.ptu ∧ (readerSlot sd payload s).sru = s.sru ∧
    (readerSlot sd payload s).stack = s.stack ∧ (readerSlot sd payload s).riu = s.riu ∧
    (readerSlot sd payload s).sli = s.sli ∧ (readerSlot sd payload s).nvs = s.nvs ∧
    (readerSlot sd payload s).psq = s.psq := by simp [readerSlot]
theorem beginReaderSlot?_frame {sd : Side} {s t : State} (h : beginReaderSlot? sd s = some t) :
    t.pending = s.pending ∧ t.freeCount = s.freeCount ∧ t.now = s.now ∧ t.powered = s.powered ∧
    t.lines = s.lines ∧ t.cfg = s.cfg ∧ t.mci = s.mci ∧ t.sides = s.sides ∧ t.ptu = s.ptu ∧ t.sru = s.sru ∧
    t.stack = s.stack ∧ t.sli = s.sli ∧ t.nvs = s.nvs ∧ t.psq = s.psq := by
  unfold beginReaderSlot? at h
  split at h <;> simp at h <;> subst h <;> simp
@[simp] theorem beginSlotB_frame (s : State) :
    (beginSlotB s).pending = s.pending ∧ (beginSlotB s).freeCount = s.freeCount ∧ (beginSlotB s).now = s.now ∧
    (beginSlotB s).powered = s.powered ∧ (beginSlotB s).lines = s.lines ∧ (beginSlotB s).cfg = s.cfg ∧
    (beginSlotB s).mci = s.mci ∧ (beginSlotB s).sides = s.sides ∧ (beginSlotB s).ptu = s.ptu ∧
    (beginSlotB s).sru = s.sru ∧ (beginSlotB s).stack = s.stack ∧ (beginSlotB s).sli = s.sli ∧
    (beginSlotB s).nvs = s.nvs ∧ (beginSlotB s).psq = s.psq := by
  simp only [beginSlotB]
  cases h : beginReaderSlot? .b s with
  | none => simp
  | some t => simp [beginReaderSlot?_frame h]
@[simp] theorem beginSlot_frame (i : SlotId) (s : State) :
    (beginSlot i s).pending = s.pending ∧ (beginSlot i s).freeCount = s.freeCount ∧
    (beginSlot i s).now = s.now ∧ (beginSlot i s).powered = s.powered ∧ (beginSlot i s).lines = s.lines ∧
    (beginSlot i s).cfg = s.cfg ∧ (beginSlot i s).mci = s.mci ∧ (beginSlot i s).sides = s.sides ∧
    (beginSlot i s).ptu = s.ptu ∧ (beginSlot i s).sru = s.sru ∧ (beginSlot i s).stack = s.stack ∧
    (beginSlot i s).sli = s.sli ∧ (beginSlot i s).nvs = s.nvs ∧ (beginSlot i s).psq = s.psq := by
  cases i with
  | display m => simp [beginSlot]
  | reader sd =>
    cases sd with
    | b => simp [beginSlot]
    | a =>
      simp only [beginSlot]
      cases h : beginReaderSlot? .a s with
      | none => simp
      | some t => simp [beginReaderSlot?_frame h]
@[simp] theorem endSlot_frame (s : State) :
    (endSlot s).pending = s.pending ∧ (endSlot s).freeCount = s.freeCount ∧ (endSlot s).now = s.now ∧
    (endSlot s).powered = s.powered ∧ (endSlot s).lines = s.lines ∧ (endSlot s).cfg = s.cfg ∧
    (endSlot s).mci = s.mci ∧ (endSlot s).sides = s.sides ∧ (endSlot s).ptu = s.ptu ∧ (endSlot s).sru = s.sru ∧
    (endSlot s).stack = s.stack ∧ (endSlot s).sli = s.sli ∧ (endSlot s).nvs = s.nvs ∧ (endSlot s).psq = s.psq := by simp only [endSlot]; (repeat' split) <;> simp
@[simp] theorem startRounds_frame (s : State) :
    (startRounds s).pending = s.pending ∧ (startRounds s).freeCount = s.freeCount ∧
    (startRounds s).now = s.now ∧ (startRounds s).powered = s.powered ∧ (startRounds s).lines = s.lines ∧
    (startRounds s).cfg = s.cfg ∧ (startRounds s).mci = s.mci ∧ (startRounds s).sides = s.sides ∧
    (startRounds s).ptu = s.ptu ∧ (startRounds s).sru = s.sru ∧ (startRounds s).stack = s.stack ∧
    (startRounds s).riu = s.riu ∧ (startRounds s).sli = s.sli ∧ (startRounds s).nvs = s.nvs ∧
    (startRounds s).psq = s.psq := by
  and_intros <;> first | rfl | (simp only [startRounds]; (repeat' split) <;> simp)
@[simp] theorem stopDisplays_frame (s : State) :
    (stopDisplays s).pending = s.pending ∧ (stopDisplays s).freeCount = s.freeCount ∧
    (stopDisplays s).now = s.now ∧ (stopDisplays s).powered = s.powered ∧ (stopDisplays s).lines = s.lines ∧
    (stopDisplays s).cfg = s.cfg ∧ (stopDisplays s).mci = s.mci ∧ (stopDisplays s).sides = s.sides ∧
    (stopDisplays s).ptu = s.ptu ∧ (stopDisplays s).sru = s.sru ∧ (stopDisplays s).stack = s.stack ∧
    (stopDisplays s).riu = s.riu ∧ (stopDisplays s).sli = s.sli ∧ (stopDisplays s).nvs = s.nvs := by simp [stopDisplays]
@[simp] theorem markZeroVerified_frame (sd : Side) (s : State) :
    (markZeroVerified sd s).pending = s.pending ∧ (markZeroVerified sd s).freeCount = s.freeCount ∧
    (markZeroVerified sd s).now = s.now ∧ (markZeroVerified sd s).powered = s.powered ∧
    (markZeroVerified sd s).lines = s.lines ∧ (markZeroVerified sd s).cfg = s.cfg ∧
    (markZeroVerified sd s).mci = s.mci ∧ (markZeroVerified sd s).ptu = s.ptu ∧
    (markZeroVerified sd s).sru = s.sru ∧ (markZeroVerified sd s).stack = s.stack ∧
    (markZeroVerified sd s).lbc = s.lbc ∧ (markZeroVerified sd s).riu = s.riu ∧
    (markZeroVerified sd s).sli = s.sli ∧ (markZeroVerified sd s).nvs = s.nvs ∧
    (markZeroVerified sd s).psq = s.psq := by simp only [markZeroVerified]; (repeat' split) <;> simp
@[simp] theorem State.withDisplayModule_frame (s : State) (m : DisplayModule) (r : ModuleRec) :
    (State.withDisplayModule s m r).pending = s.pending ∧
    (State.withDisplayModule s m r).freeCount = s.freeCount ∧ (State.withDisplayModule s m r).now = s.now ∧
    (State.withDisplayModule s m r).powered = s.powered ∧ (State.withDisplayModule s m r).lines = s.lines ∧
    (State.withDisplayModule s m r).cfg = s.cfg ∧ (State.withDisplayModule s m r).mci = s.mci ∧
    (State.withDisplayModule s m r).sides = s.sides ∧ (State.withDisplayModule s m r).ptu = s.ptu ∧
    (State.withDisplayModule s m r).sru = s.sru ∧ (State.withDisplayModule s m r).stack = s.stack ∧
    (State.withDisplayModule s m r).riu = s.riu ∧ (State.withDisplayModule s m r).sli = s.sli ∧
    (State.withDisplayModule s m r).nvs = s.nvs ∧ (State.withDisplayModule s m r).psq = s.psq := by simp [State.withDisplayModule]
@[simp] theorem takeEcho_frame (m : DisplayModule) (sl : Slot) (ans : Answer) (s : State) :
    (takeEcho m sl ans s).pending = s.pending ∧ (takeEcho m sl ans s).freeCount = s.freeCount ∧
    (takeEcho m sl ans s).now = s.now ∧ (takeEcho m sl ans s).powered = s.powered ∧
    (takeEcho m sl ans s).lines = s.lines ∧ (takeEcho m sl ans s).cfg = s.cfg ∧
    (takeEcho m sl ans s).mci = s.mci ∧ (takeEcho m sl ans s).ptu = s.ptu ∧ (takeEcho m sl ans s).sru = s.sru ∧
    (takeEcho m sl ans s).stack = s.stack ∧ (takeEcho m sl ans s).riu = s.riu ∧
    (takeEcho m sl ans s).sli = s.sli ∧ (takeEcho m sl ans s).nvs = s.nvs ∧ (takeEcho m sl ans s).psq = s.psq := by simp only [takeEcho]; (repeat' split) <;> simp
@[simp] theorem takeAnswer_frame (sl : Slot) (ans : Answer) (s : State) :
    (takeAnswer sl ans s).pending = s.pending ∧ (takeAnswer sl ans s).freeCount = s.freeCount ∧
    (takeAnswer sl ans s).now = s.now ∧ (takeAnswer sl ans s).powered = s.powered ∧
    (takeAnswer sl ans s).lines = s.lines ∧ (takeAnswer sl ans s).cfg = s.cfg ∧
    (takeAnswer sl ans s).mci = s.mci ∧ (takeAnswer sl ans s).ptu = s.ptu ∧ (takeAnswer sl ans s).sru = s.sru ∧
    (takeAnswer sl ans s).stack = s.stack ∧ (takeAnswer sl ans s).nvs = s.nvs ∧
    (takeAnswer sl ans s).psq = s.psq := by simp only [takeAnswer]; (repeat' split) <;> simp
@[simp] theorem answerTaken_frame (s : State) :
    (answerTaken s).pending = s.pending ∧ (answerTaken s).freeCount = s.freeCount ∧
    (answerTaken s).now = s.now ∧ (answerTaken s).powered = s.powered ∧ (answerTaken s).lines = s.lines ∧
    (answerTaken s).cfg = s.cfg ∧ (answerTaken s).mci = s.mci ∧ (answerTaken s).sides = s.sides ∧
    (answerTaken s).ptu = s.ptu ∧ (answerTaken s).sru = s.sru ∧ (answerTaken s).stack = s.stack ∧
    (answerTaken s).riu = s.riu ∧ (answerTaken s).sli = s.sli ∧ (answerTaken s).nvs = s.nvs ∧
    (answerTaken s).psq = s.psq := by simp only [answerTaken]; (repeat' split) <;> simp
@[simp] theorem reachSides_frame (s : State) :
    (reachSides s).pending = s.pending ∧ (reachSides s).freeCount = s.freeCount ∧ (reachSides s).now = s.now ∧
    (reachSides s).powered = s.powered ∧ (reachSides s).lines = s.lines ∧ (reachSides s).cfg = s.cfg ∧
    (reachSides s).mci = s.mci ∧ (reachSides s).ptu = s.ptu ∧ (reachSides s).sru = s.sru ∧
    (reachSides s).stack = s.stack ∧ (reachSides s).sli = s.sli ∧ (reachSides s).nvs = s.nvs ∧
    (reachSides s).psq = s.psq := by simp [reachSides]
@[simp] theorem setActive_frame (t : PriceTable) (s : State) :
    (setActive t s).pending = s.pending ∧ (setActive t s).freeCount = s.freeCount ∧
    (setActive t s).now = s.now ∧ (setActive t s).powered = s.powered ∧ (setActive t s).lines = s.lines ∧
    (setActive t s).cfg = s.cfg ∧ (setActive t s).mci = s.mci ∧ (setActive t s).sru = s.sru ∧
    (setActive t s).stack = s.stack ∧ (setActive t s).psq = s.psq := by simp only [setActive]; (repeat' split) <;> simp
@[simp] theorem removeStaged_frame (s : State) :
    (removeStaged s).pending = s.pending ∧ (removeStaged s).freeCount = s.freeCount ∧
    (removeStaged s).now = s.now ∧ (removeStaged s).powered = s.powered ∧ (removeStaged s).lines = s.lines ∧
    (removeStaged s).cfg = s.cfg ∧ (removeStaged s).mci = s.mci ∧ (removeStaged s).sides = s.sides ∧
    (removeStaged s).sru = s.sru ∧ (removeStaged s).stack = s.stack ∧ (removeStaged s).lbc = s.lbc ∧
    (removeStaged s).riu = s.riu ∧ (removeStaged s).sli = s.sli ∧ (removeStaged s).psq = s.psq := by simp [removeStaged]
@[simp] theorem commitStaged_frame (t : PriceTable) (s : State) :
    (commitStaged t s).pending = s.pending ∧ (commitStaged t s).freeCount = s.freeCount ∧
    (commitStaged t s).now = s.now ∧ (commitStaged t s).powered = s.powered ∧
    (commitStaged t s).lines = s.lines ∧ (commitStaged t s).cfg = s.cfg ∧ (commitStaged t s).mci = s.mci ∧
    (commitStaged t s).sru = s.sru ∧ (commitStaged t s).stack = s.stack ∧ (commitStaged t s).psq = s.psq := by simp [commitStaged]
@[simp] theorem applyScheduled_frame (s : State) :
    (applyScheduled s).pending = s.pending ∧ (applyScheduled s).freeCount = s.freeCount ∧
    (applyScheduled s).now = s.now ∧ (applyScheduled s).powered = s.powered ∧
    (applyScheduled s).lines = s.lines ∧ (applyScheduled s).cfg = s.cfg ∧ (applyScheduled s).mci = s.mci ∧
    (applyScheduled s).sru = s.sru ∧ (applyScheduled s).stack = s.stack ∧ (applyScheduled s).psq = s.psq := by simp only [applyScheduled]; (repeat' split) <;> simp
@[simp] theorem beginReading_frame (fresh : Bool) (s : State) :
    (beginReading fresh s).pending = s.pending ∧ (beginReading fresh s).freeCount = s.freeCount ∧
    (beginReading fresh s).now = s.now ∧ (beginReading fresh s).powered = s.powered ∧
    (beginReading fresh s).lines = s.lines ∧ (beginReading fresh s).cfg = s.cfg ∧
    (beginReading fresh s).mci = s.mci ∧ (beginReading fresh s).sides = s.sides ∧
    (beginReading fresh s).ptu = s.ptu ∧ (beginReading fresh s).sru = s.sru ∧
    (beginReading fresh s).stack = s.stack ∧ (beginReading fresh s).lbc = s.lbc ∧
    (beginReading fresh s).riu = s.riu ∧ (beginReading fresh s).sli = s.sli ∧ (beginReading fresh s).psq = s.psq := by simp [beginReading]
@[simp] theorem beginLoad_frame (fresh : Bool) (s : State) :
    (beginLoad fresh s).pending = s.pending ∧ (beginLoad fresh s).freeCount = s.freeCount ∧
    (beginLoad fresh s).now = s.now ∧ (beginLoad fresh s).powered = s.powered ∧
    (beginLoad fresh s).lines = s.lines ∧ (beginLoad fresh s).cfg = s.cfg ∧ (beginLoad fresh s).mci = s.mci ∧
    (beginLoad fresh s).sides = s.sides ∧ (beginLoad fresh s).ptu = s.ptu ∧ (beginLoad fresh s).sru = s.sru ∧
    (beginLoad fresh s).stack = s.stack ∧ (beginLoad fresh s).lbc = s.lbc ∧ (beginLoad fresh s).riu = s.riu ∧
    (beginLoad fresh s).sli = s.sli ∧ (beginLoad fresh s).psq = s.psq := by simp only [beginLoad]; (repeat' split) <;> simp
@[simp] theorem beginSequence_frame (cause : WakeCause) (fresh : Bool) (s : State) :
    (beginSequence cause fresh s).pending = s.pending ∧ (beginSequence cause fresh s).freeCount = s.freeCount ∧
    (beginSequence cause fresh s).now = s.now ∧ (beginSequence cause fresh s).powered = s.powered ∧
    (beginSequence cause fresh s).lines = s.lines ∧ (beginSequence cause fresh s).cfg = s.cfg ∧
    (beginSequence cause fresh s).ptu = s.ptu ∧ (beginSequence cause fresh s).sru = s.sru ∧
    (beginSequence cause fresh s).stack = s.stack := by simp [beginSequence]
@[simp] theorem wake_frame (cause : WakeCause) (s : State) :
    (wake cause s).pending = s.pending ∧ (wake cause s).freeCount = s.freeCount ∧ (wake cause s).now = s.now ∧
    (wake cause s).powered = s.powered ∧ (wake cause s).lines = s.lines ∧ (wake cause s).cfg = s.cfg ∧
    (wake cause s).ptu = s.ptu ∧ (wake cause s).sru = s.sru ∧ (wake cause s).stack = s.stack := by simp [wake]
@[simp] theorem cutBlock_frame (c : WriteContent) (n : Nvs) :
    (cutBlock c n).queue = n.queue ∧ (cutBlock c n).job = n.job ∧ (cutBlock c n).fail = n.fail ∧
    (cutBlock c n).current = n.current ∧ (cutBlock c n).condition = n.condition ∧
    (cutBlock c n).load = n.load := by simp only [cutBlock]; (repeat' split) <;> simp
@[simp] theorem failBlock_frame (c : WriteContent) (n : Nvs) :
    (failBlock c n).config = n.config ∧ (failBlock c n).prices = n.prices ∧
    (failBlock c n).queue = n.queue ∧ (failBlock c n).job = n.job ∧ (failBlock c n).fail = n.fail ∧
    (failBlock c n).current = n.current ∧ (failBlock c n).condition = n.condition ∧
    (failBlock c n).load = n.load := by simp only [failBlock]; (repeat' split) <;> simp
@[simp] theorem cut_frame (n : Nvs) :
    n.cut.queue = n.queue ∧ n.cut.job = none ∧ n.cut.fail = n.fail ∧ n.cut.current = n.current ∧
    n.cut.condition = n.condition ∧ n.cut.load = n.load := by
  cases n with | mk _ _ _ _ _ job => cases job <;> simp [Nvs.cut]
@[simp] theorem loseSupply_frame (s : State) :
    (loseSupply s).pending = s.pending ∧ (loseSupply s).freeCount = s.freeCount ∧
    (loseSupply s).now = s.now ∧ (loseSupply s).lines = s.lines ∧
    (loseSupply s).cfg = s.cfg ∧ (loseSupply s).mci = s.mci ∧ (loseSupply s).sides = s.sides ∧
    (loseSupply s).ptu = s.ptu ∧ (loseSupply s).sru = s.sru ∧ (loseSupply s).stack = s.stack ∧
    (loseSupply s).lbc = s.lbc ∧ (loseSupply s).riu = s.riu ∧ (loseSupply s).sli = s.sli ∧
    (loseSupply s).psq = s.psq ∧ (loseSupply s).powered = false := by simp [loseSupply]
@[simp] theorem showFound_frame (sd : Side) (s : State) :
    (showFound sd s).pending = s.pending ∧ (showFound sd s).freeCount = s.freeCount ∧
    (showFound sd s).now = s.now ∧ (showFound sd s).powered = s.powered ∧ (showFound sd s).lines = s.lines ∧
    (showFound sd s).cfg = s.cfg ∧ (showFound sd s).mci = s.mci ∧ (showFound sd s).ptu = s.ptu ∧
    (showFound sd s).sru = s.sru ∧ (showFound sd s).stack = s.stack ∧ (showFound sd s).lbc = s.lbc ∧
    (showFound sd s).riu = s.riu ∧ (showFound sd s).sli = s.sli ∧ (showFound sd s).nvs = s.nvs ∧
    (showFound sd s).psq = s.psq := by simp [showFound]
@[simp] theorem showFoundBoth_frame (s : State) :
    (showFoundBoth s).pending = s.pending ∧ (showFoundBoth s).freeCount = s.freeCount ∧
    (showFoundBoth s).now = s.now ∧ (showFoundBoth s).powered = s.powered ∧ (showFoundBoth s).lines = s.lines ∧
    (showFoundBoth s).cfg = s.cfg ∧ (showFoundBoth s).mci = s.mci ∧ (showFoundBoth s).ptu = s.ptu ∧
    (showFoundBoth s).sru = s.sru ∧ (showFoundBoth s).stack = s.stack ∧ (showFoundBoth s).lbc = s.lbc ∧
    (showFoundBoth s).riu = s.riu ∧ (showFoundBoth s).sli = s.sli ∧ (showFoundBoth s).nvs = s.nvs ∧
    (showFoundBoth s).psq = s.psq := by simp [showFoundBoth]
@[simp] theorem withStage_frame (st : Stage) (timer : Option Nat) (s : State) :
    (withStage st timer s).pending = s.pending ∧ (withStage st timer s).freeCount = s.freeCount ∧
    (withStage st timer s).now = s.now ∧ (withStage st timer s).powered = s.powered ∧
    (withStage st timer s).lines = s.lines ∧ (withStage st timer s).cfg = s.cfg ∧
    (withStage st timer s).mci = s.mci ∧ (withStage st timer s).sides = s.sides ∧
    (withStage st timer s).ptu = s.ptu ∧ (withStage st timer s).sru = s.sru ∧
    (withStage st timer s).stack = s.stack ∧ (withStage st timer s).lbc = s.lbc ∧
    (withStage st timer s).riu = s.riu ∧ (withStage st timer s).sli = s.sli ∧ (withStage st timer s).nvs = s.nvs := by simp [withStage]
@[simp] theorem enterSupplies_frame (s : State) :
    (enterSupplies s).pending = s.pending ∧ (enterSupplies s).freeCount = s.freeCount ∧
    (enterSupplies s).now = s.now ∧ (enterSupplies s).powered = s.powered ∧ (enterSupplies s).lines = s.lines ∧
    (enterSupplies s).cfg = s.cfg ∧ (enterSupplies s).mci = s.mci ∧ (enterSupplies s).sides = s.sides ∧
    (enterSupplies s).ptu = s.ptu ∧ (enterSupplies s).sru = s.sru ∧ (enterSupplies s).stack = s.stack ∧
    (enterSupplies s).lbc = s.lbc ∧ (enterSupplies s).riu = s.riu ∧ (enterSupplies s).sli = s.sli ∧
    (enterSupplies s).nvs = s.nvs := by simp [enterSupplies]
@[simp] theorem enterApply_frame (s : State) :
    (enterApply s).pending = s.pending ∧ (enterApply s).freeCount = s.freeCount ∧ (enterApply s).now = s.now ∧
    (enterApply s).powered = s.powered ∧ (enterApply s).lines = s.lines ∧ (enterApply s).cfg = s.cfg ∧
    (enterApply s).mci = s.mci ∧ (enterApply s).sru = s.sru ∧ (enterApply s).stack = s.stack := by simp only [enterApply]; (repeat' split) <;> simp
@[simp] theorem supplyReader_frame (sd : Side) (s : State) :
    (supplyReader sd s).pending = s.pending ∧ (supplyReader sd s).freeCount = s.freeCount ∧
    (supplyReader sd s).now = s.now ∧ (supplyReader sd s).powered = s.powered ∧
    (supplyReader sd s).lines = s.lines ∧ (supplyReader sd s).cfg = s.cfg ∧ (supplyReader sd s).mci = s.mci ∧
    (supplyReader sd s).sides = s.sides ∧ (supplyReader sd s).ptu = s.ptu ∧ (supplyReader sd s).sru = s.sru ∧
    (supplyReader sd s).stack = s.stack ∧ (supplyReader sd s).nvs = s.nvs ∧ (supplyReader sd s).psq = s.psq := by simp only [supplyReader]; (repeat' split) <;> simp
@[simp] theorem supplyStep_frame (s : State) :
    (supplyStep s).pending = s.pending ∧ (supplyStep s).freeCount = s.freeCount ∧
    (supplyStep s).powered = s.powered ∧ (supplyStep s).lines = s.lines ∧ (supplyStep s).cfg = s.cfg ∧
    (supplyStep s).mci = s.mci ∧ (supplyStep s).sides = s.sides ∧ (supplyStep s).ptu = s.ptu ∧
    (supplyStep s).sru = s.sru ∧ (supplyStep s).stack = s.stack ∧ (supplyStep s).nvs = s.nvs := by simp only [supplyStep]; (repeat' split) <;> simp
@[simp] theorem displayTestEnd_frame (s : State) :
    (displayTestEnd s).pending = s.pending ∧ (displayTestEnd s).freeCount = s.freeCount ∧
    (displayTestEnd s).powered = s.powered ∧ (displayTestEnd s).lines = s.lines ∧
    (displayTestEnd s).cfg = s.cfg ∧ (displayTestEnd s).mci = s.mci ∧ (displayTestEnd s).sides = s.sides ∧
    (displayTestEnd s).ptu = s.ptu ∧ (displayTestEnd s).sru = s.sru ∧ (displayTestEnd s).stack = s.stack ∧
    (displayTestEnd s).lbc = s.lbc ∧ (displayTestEnd s).riu = s.riu ∧ (displayTestEnd s).sli = s.sli ∧
    (displayTestEnd s).nvs = s.nvs := by simp only [displayTestEnd]; (repeat' split) <;> simp
@[simp] theorem recordDisplays_frame (sd : Side) (s : State) :
    (recordDisplays sd s).pending = s.pending ∧ (recordDisplays sd s).freeCount = s.freeCount ∧
    (recordDisplays sd s).now = s.now ∧ (recordDisplays sd s).powered = s.powered ∧
    (recordDisplays sd s).lines = s.lines ∧ (recordDisplays sd s).cfg = s.cfg ∧
    (recordDisplays sd s).mci = s.mci ∧ (recordDisplays sd s).sides = s.sides ∧
    (recordDisplays sd s).ptu = s.ptu ∧ (recordDisplays sd s).sru = s.sru ∧
    (recordDisplays sd s).stack = s.stack ∧ (recordDisplays sd s).lbc = s.lbc ∧
    (recordDisplays sd s).riu = s.riu ∧ (recordDisplays sd s).sli = s.sli ∧ (recordDisplays sd s).nvs = s.nvs := by simp [recordDisplays]
@[simp] theorem startProbe_frame (sd : Side) (s : State) :
    (startProbe sd s).pending = s.pending ∧ (startProbe sd s).freeCount = s.freeCount ∧
    (startProbe sd s).now = s.now ∧ (startProbe sd s).powered = s.powered ∧ (startProbe sd s).lines = s.lines ∧
    (startProbe sd s).cfg = s.cfg ∧ (startProbe sd s).mci = s.mci ∧ (startProbe sd s).sides = s.sides ∧
    (startProbe sd s).ptu = s.ptu ∧ (startProbe sd s).sru = s.sru ∧ (startProbe sd s).stack = s.stack ∧
    (startProbe sd s).lbc = s.lbc ∧ (startProbe sd s).sli = s.sli ∧ (startProbe sd s).nvs = s.nvs ∧
    (startProbe sd s).psq = s.psq := by simp only [startProbe]; (repeat' split) <;> simp
@[simp] theorem sideAtReady_frame (sd : Side) (s : State) :
    (sideAtReady sd s).pending = s.pending ∧ (sideAtReady sd s).freeCount = s.freeCount ∧
    (sideAtReady sd s).now = s.now ∧ (sideAtReady sd s).powered = s.powered ∧
    (sideAtReady sd s).lines = s.lines ∧ (sideAtReady sd s).mci = s.mci ∧ (sideAtReady sd s).ptu = s.ptu ∧
    (sideAtReady sd s).sru = s.sru ∧ (sideAtReady sd s).stack = s.stack ∧ (sideAtReady sd s).riu = s.riu ∧
    (sideAtReady sd s).psq = s.psq := by simp only [sideAtReady]; (repeat' split) <;> simp
@[simp] theorem reportLost_frame (m : DisplayModule) (s : State) :
    (reportLost m s).pending = s.pending ∧ (reportLost m s).freeCount = s.freeCount ∧
    (reportLost m s).now = s.now ∧ (reportLost m s).powered = s.powered ∧ (reportLost m s).lines = s.lines ∧
    (reportLost m s).mci = s.mci ∧ (reportLost m s).ptu = s.ptu ∧ (reportLost m s).sru = s.sru ∧
    (reportLost m s).stack = s.stack ∧ (reportLost m s).riu = s.riu ∧ (reportLost m s).psq = s.psq := by simp only [reportLost]; (repeat' split) <;> simp
@[simp] theorem reportLostAll_frame (s : State) :
    (reportLostAll s).pending = s.pending ∧ (reportLostAll s).freeCount = s.freeCount ∧
    (reportLostAll s).now = s.now ∧ (reportLostAll s).powered = s.powered ∧ (reportLostAll s).lines = s.lines ∧
    (reportLostAll s).mci = s.mci ∧ (reportLostAll s).ptu = s.ptu ∧ (reportLostAll s).sru = s.sru ∧
    (reportLostAll s).stack = s.stack ∧ (reportLostAll s).riu = s.riu ∧ (reportLostAll s).psq = s.psq := by simp [reportLostAll]
@[simp] theorem eventsAtReady_frame (s : State) :
    (eventsAtReady s).pending = s.pending ∧ (eventsAtReady s).freeCount = s.freeCount ∧
    (eventsAtReady s).now = s.now ∧ (eventsAtReady s).powered = s.powered ∧ (eventsAtReady s).lines = s.lines ∧
    (eventsAtReady s).cfg = s.cfg ∧ (eventsAtReady s).mci = s.mci ∧ (eventsAtReady s).sides = s.sides ∧
    (eventsAtReady s).ptu = s.ptu ∧ (eventsAtReady s).sru = s.sru ∧ (eventsAtReady s).stack = s.stack ∧
    (eventsAtReady s).lbc = s.lbc ∧ (eventsAtReady s).riu = s.riu ∧ (eventsAtReady s).nvs = s.nvs ∧
    (eventsAtReady s).psq = s.psq := by simp only [eventsAtReady]; (repeat' split) <;> simp
@[simp] theorem timersAtReady_frame (s : State) :
    (timersAtReady s).pending = s.pending ∧ (timersAtReady s).freeCount = s.freeCount ∧
    (timersAtReady s).now = s.now ∧ (timersAtReady s).powered = s.powered ∧ (timersAtReady s).lines = s.lines ∧
    (timersAtReady s).cfg = s.cfg ∧ (timersAtReady s).mci = s.mci ∧ (timersAtReady s).sides = s.sides ∧
    (timersAtReady s).ptu = s.ptu ∧ (timersAtReady s).sru = s.sru ∧ (timersAtReady s).stack = s.stack ∧
    (timersAtReady s).lbc = s.lbc ∧ (timersAtReady s).riu = s.riu ∧ (timersAtReady s).sli = s.sli ∧
    (timersAtReady s).nvs = s.nvs := by simp only [timersAtReady]; (repeat' split) <;> simp
@[simp] theorem ready_frame (s : State) :
    (ready s).pending = s.pending ∧ (ready s).freeCount = s.freeCount ∧ (ready s).now = s.now ∧
    (ready s).powered = s.powered ∧ (ready s).lines = s.lines ∧ (ready s).mci = s.mci ∧ (ready s).ptu = s.ptu ∧
    (ready s).sru = s.sru ∧ (ready s).stack = s.stack ∧ (ready s).riu = s.riu := by simp [ready]
@[simp] theorem readyCheck_frame (s : State) :
    (readyCheck s).pending = s.pending ∧ (readyCheck s).freeCount = s.freeCount ∧ (readyCheck s).now = s.now ∧
    (readyCheck s).powered = s.powered ∧ (readyCheck s).lines = s.lines ∧ (readyCheck s).mci = s.mci ∧
    (readyCheck s).ptu = s.ptu ∧ (readyCheck s).sru = s.sru ∧ (readyCheck s).stack = s.stack ∧
    (readyCheck s).riu = s.riu := by simp only [readyCheck]; (repeat' split) <;> simp
@[simp] theorem displaysEnd_frame (s : State) :
    (displaysEnd s).pending = s.pending ∧ (displaysEnd s).freeCount = s.freeCount ∧
    (displaysEnd s).powered = s.powered ∧ (displaysEnd s).lines = s.lines ∧ (displaysEnd s).mci = s.mci ∧
    (displaysEnd s).ptu = s.ptu ∧ (displaysEnd s).sru = s.sru ∧ (displaysEnd s).stack = s.stack := by simp only [displaysEnd]; (repeat' split) <;> simp
@[simp] theorem buildLifted_frame (s : State) :
    (buildLifted s).pending = s.pending ∧ (buildLifted s).freeCount = s.freeCount ∧
    (buildLifted s).now = s.now ∧ (buildLifted s).powered = s.powered ∧ (buildLifted s).lines = s.lines ∧
    (buildLifted s).cfg = s.cfg ∧ (buildLifted s).mci = s.mci ∧ (buildLifted s).ptu = s.ptu ∧
    (buildLifted s).sru = s.sru ∧ (buildLifted s).stack = s.stack ∧ (buildLifted s).lbc = s.lbc ∧
    (buildLifted s).riu = s.riu ∧ (buildLifted s).sli = s.sli ∧ (buildLifted s).nvs = s.nvs ∧
    (buildLifted s).psq = s.psq := by simp [buildLifted]
@[simp] theorem boundCounters_frame (s : State) :
    (boundCounters s).pending = s.pending ∧ (boundCounters s).freeCount = s.freeCount ∧
    (boundCounters s).now = s.now ∧ (boundCounters s).powered = s.powered ∧ (boundCounters s).lines = s.lines ∧
    (boundCounters s).cfg = s.cfg ∧ (boundCounters s).mci = s.mci ∧ (boundCounters s).sides = s.sides ∧
    (boundCounters s).ptu = s.ptu ∧ (boundCounters s).sru = s.sru ∧ (boundCounters s).stack = s.stack ∧
    (boundCounters s).lbc = s.lbc ∧ (boundCounters s).nvs = s.nvs ∧ (boundCounters s).psq = s.psq := by simp [boundCounters]
@[simp] theorem syncLine_frame (s : State) :
    (syncLine s).pending = s.pending ∧ (syncLine s).freeCount = s.freeCount ∧ (syncLine s).now = s.now ∧
    (syncLine s).powered = s.powered ∧ (syncLine s).lines = s.lines ∧ (syncLine s).cfg = s.cfg ∧
    (syncLine s).mci = s.mci ∧ (syncLine s).sides = s.sides ∧ (syncLine s).ptu = s.ptu ∧
    (syncLine s).sru = s.sru ∧ (syncLine s).stack = s.stack ∧ (syncLine s).lbc = s.lbc ∧
    (syncLine s).riu = s.riu ∧ (syncLine s).nvs = s.nvs ∧ (syncLine s).psq = s.psq := by simp only [syncLine]; split <;> simp
@[simp] theorem quietAfterReply_frame (s : State) :
    (quietAfterReply s).pending = s.pending ∧ (quietAfterReply s).freeCount = s.freeCount ∧
    (quietAfterReply s).now = s.now ∧ (quietAfterReply s).powered = s.powered ∧
    (quietAfterReply s).lines = s.lines ∧ (quietAfterReply s).cfg = s.cfg ∧ (quietAfterReply s).mci = s.mci ∧
    (quietAfterReply s).sides = s.sides ∧ (quietAfterReply s).ptu = s.ptu ∧ (quietAfterReply s).sru = s.sru ∧
    (quietAfterReply s).stack = s.stack ∧ (quietAfterReply s).lbc = s.lbc ∧ (quietAfterReply s).riu = s.riu ∧
    (quietAfterReply s).nvs = s.nvs ∧ (quietAfterReply s).psq = s.psq := by
  simp only [quietAfterReply]; split <;> simp
@[simp] theorem takeConfig_frame (fresh : Bool) (c : Cfg) (s : State) :
    (takeConfig fresh c s).pending = s.pending ∧ (takeConfig fresh c s).freeCount = s.freeCount ∧
    (takeConfig fresh c s).now = s.now ∧ (takeConfig fresh c s).powered = s.powered ∧
    (takeConfig fresh c s).lines = s.lines ∧ (takeConfig fresh c s).mci = s.mci ∧
    (takeConfig fresh c s).ptu = s.ptu ∧ (takeConfig fresh c s).sru = s.sru ∧
    (takeConfig fresh c s).stack = s.stack ∧ (takeConfig fresh c s).lbc = s.lbc ∧
    (takeConfig fresh c s).nvs = s.nvs ∧ (takeConfig fresh c s).psq = s.psq := by simp only [takeConfig]; (repeat' split) <;> simp
@[simp] theorem loadConfig_frame (fresh : Bool) (found : Option Cfg) (s : State) :
    (loadConfig fresh found s).pending = s.pending ∧ (loadConfig fresh found s).freeCount = s.freeCount ∧
    (loadConfig fresh found s).now = s.now ∧ (loadConfig fresh found s).powered = s.powered ∧
    (loadConfig fresh found s).lines = s.lines ∧ (loadConfig fresh found s).mci = s.mci ∧
    (loadConfig fresh found s).ptu = s.ptu ∧ (loadConfig fresh found s).sru = s.sru ∧
    (loadConfig fresh found s).stack = s.stack ∧ (loadConfig fresh found s).lbc = s.lbc := by simp only [loadConfig]; (repeat' split) <;> simp
@[simp] theorem loadPrices_frame (found : Option Prices) (s : State) :
    (loadPrices found s).pending = s.pending ∧ (loadPrices found s).freeCount = s.freeCount ∧
    (loadPrices found s).now = s.now ∧ (loadPrices found s).powered = s.powered ∧
    (loadPrices found s).lines = s.lines ∧ (loadPrices found s).cfg = s.cfg ∧
    (loadPrices found s).mci = s.mci ∧ (loadPrices found s).sides = s.sides ∧
    (loadPrices found s).sru = s.sru ∧ (loadPrices found s).stack = s.stack ∧
    (loadPrices found s).riu = s.riu ∧ (loadPrices found s).psq = s.psq := by simp only [loadPrices]; (repeat' split) <;> simp
@[simp] theorem takeMetrology_frame (m : Metrology) (s : State) :
    (takeMetrology m s).pending = s.pending ∧ (takeMetrology m s).freeCount = s.freeCount ∧
    (takeMetrology m s).now = s.now ∧ (takeMetrology m s).powered = s.powered ∧
    (takeMetrology m s).lines = s.lines ∧ (takeMetrology m s).cfg = s.cfg ∧ (takeMetrology m s).mci = s.mci ∧
    (takeMetrology m s).sides = s.sides ∧ (takeMetrology m s).ptu = s.ptu ∧ (takeMetrology m s).lbc = s.lbc ∧
    (takeMetrology m s).riu = s.riu ∧ (takeMetrology m s).sli = s.sli ∧ (takeMetrology m s).nvs = s.nvs ∧
    (takeMetrology m s).psq = s.psq := by simp [takeMetrology]
@[simp] theorem endLoad_frame (s : State) :
    (endLoad s).pending = s.pending ∧ (endLoad s).freeCount = s.freeCount ∧ (endLoad s).now = s.now ∧
    (endLoad s).powered = s.powered ∧ (endLoad s).lines = s.lines ∧ (endLoad s).cfg = s.cfg ∧
    (endLoad s).sru = s.sru ∧ (endLoad s).stack = s.stack := by simp [endLoad]
@[simp] theorem raiseIf_frame (bad : Bool) (e : Event) (s : State) :
    (raiseIf bad e s).pending = s.pending ∧ (raiseIf bad e s).freeCount = s.freeCount ∧
    (raiseIf bad e s).now = s.now ∧ (raiseIf bad e s).powered = s.powered ∧ (raiseIf bad e s).lines = s.lines ∧
    (raiseIf bad e s).cfg = s.cfg ∧ (raiseIf bad e s).mci = s.mci ∧ (raiseIf bad e s).sides = s.sides ∧
    (raiseIf bad e s).ptu = s.ptu ∧ (raiseIf bad e s).sru = s.sru ∧ (raiseIf bad e s).stack = s.stack ∧
    (raiseIf bad e s).lbc = s.lbc ∧ (raiseIf bad e s).riu = s.riu ∧ (raiseIf bad e s).nvs = s.nvs ∧
    (raiseIf bad e s).psq = s.psq := by simp only [raiseIf]; (repeat' split) <;> simp
@[simp] theorem readNext_frame (fresh : Bool) (b : Block) (attempt : Nat) (good0 : Bool) (s : State) :
    (readNext fresh b attempt good0 s).pending = s.pending ∧
    (readNext fresh b attempt good0 s).freeCount = s.freeCount ∧
    (readNext fresh b attempt good0 s).now = s.now ∧ (readNext fresh b attempt good0 s).powered = s.powered ∧
    (readNext fresh b attempt good0 s).lines = s.lines ∧ (readNext fresh b attempt good0 s).cfg = s.cfg ∧
    (readNext fresh b attempt good0 s).mci = s.mci ∧ (readNext fresh b attempt good0 s).sides = s.sides ∧
    (readNext fresh b attempt good0 s).ptu = s.ptu ∧ (readNext fresh b attempt good0 s).sru = s.sru ∧
    (readNext fresh b attempt good0 s).stack = s.stack ∧ (readNext fresh b attempt good0 s).lbc = s.lbc ∧
    (readNext fresh b attempt good0 s).riu = s.riu ∧ (readNext fresh b attempt good0 s).sli = s.sli ∧
    (readNext fresh b attempt good0 s).psq = s.psq := by simp [readNext]
@[simp] theorem loadMetrology_frame (chosen : Option (SlotNo × Stamped)) (s : State) :
    (loadMetrology chosen s).pending = s.pending ∧ (loadMetrology chosen s).freeCount = s.freeCount ∧
    (loadMetrology chosen s).now = s.now ∧ (loadMetrology chosen s).powered = s.powered ∧
    (loadMetrology chosen s).lines = s.lines ∧ (loadMetrology chosen s).mci = s.mci ∧
    (loadMetrology chosen s).ptu = s.ptu ∧ (loadMetrology chosen s).lbc = s.lbc ∧
    (loadMetrology chosen s).riu = s.riu ∧ (loadMetrology chosen s).sli = s.sli := by simp only [loadMetrology]; (repeat' split) <;> simp
@[simp] theorem blockRead_frame (fresh good : Bool) (b : Block) (good0 : Bool) (s : State) :
    (blockRead fresh good b good0 s).pending = s.pending ∧
    (blockRead fresh good b good0 s).freeCount = s.freeCount ∧ (blockRead fresh good b good0 s).now = s.now ∧
    (blockRead fresh good b good0 s).powered = s.powered ∧ (blockRead fresh good b good0 s).lines = s.lines := by simp only [blockRead]; (repeat' split) <;> simp
@[simp] theorem readAttempt_frame (crcMatches : Bool) (s : State) :
    (readAttempt crcMatches s).pending = s.pending ∧ (readAttempt crcMatches s).freeCount = s.freeCount ∧
    (readAttempt crcMatches s).powered = s.powered ∧ (readAttempt crcMatches s).lines = s.lines := by simp only [readAttempt]; (repeat' split) <;> simp
@[simp] theorem abortSequence_frame (s : State) :
    (abortSequence s).pending = s.pending ∧ (abortSequence s).freeCount = s.freeCount ∧
    (abortSequence s).now = s.now ∧ (abortSequence s).powered = s.powered ∧ (abortSequence s).lines = s.lines ∧
    (abortSequence s).cfg = s.cfg ∧ (abortSequence s).mci = s.mci ∧ (abortSequence s).ptu = s.ptu ∧
    (abortSequence s).sru = s.sru ∧ (abortSequence s).stack = s.stack ∧ (abortSequence s).nvs = s.nvs := by simp only [abortSequence]; (repeat' split) <;> simp
@[simp] theorem waitTimer_frame (s : State) :
    (waitTimer s).pending = s.pending ∧ (waitTimer s).freeCount = s.freeCount ∧
    (waitTimer s).powered = s.powered ∧ (waitTimer s).lines = s.lines ∧ (waitTimer s).cfg = s.cfg ∧
    (waitTimer s).ptu = s.ptu ∧ (waitTimer s).sru = s.sru ∧ (waitTimer s).stack = s.stack := by simp only [waitTimer]; (repeat' split) <;> simp
@[simp] theorem completeBoth_frame (s : State) :
    (completeBoth s).pending = s.pending ∧ (completeBoth s).now = s.now ∧
    (completeBoth s).powered = s.powered ∧ (completeBoth s).lines = s.lines ∧ (completeBoth s).ptu = s.ptu ∧
    (completeBoth s).riu = s.riu ∧ (completeBoth s).psq = s.psq := by simp only [completeBoth]; (repeat' split) <;> simp
@[simp] theorem warnSides_frame (s : State) :
    (warnSides s).pending = s.pending ∧ (warnSides s).now = s.now ∧ (warnSides s).powered = s.powered ∧
    (warnSides s).lines = s.lines ∧ (warnSides s).ptu = s.ptu ∧ (warnSides s).riu = s.riu ∧
    (warnSides s).psq = s.psq := by simp only [warnSides]; (repeat' split) <;> simp
@[simp] theorem powerWarning_frame (s : State) :
    (powerWarning s).pending = s.pending ∧ (powerWarning s).now = s.now ∧
    (powerWarning s).powered = s.powered ∧ (powerWarning s).ptu = s.ptu := by simp only [powerWarning]; (repeat' split) <;> simp
@[simp] theorem warningReleased_frame (s : State) :
    (warningReleased s).pending = s.pending ∧ (warningReleased s).freeCount = s.freeCount ∧
    (warningReleased s).now = s.now ∧ (warningReleased s).powered = s.powered ∧
    (warningReleased s).cfg = s.cfg ∧ (warningReleased s).mci = s.mci ∧ (warningReleased s).ptu = s.ptu ∧
    (warningReleased s).sru = s.sru ∧ (warningReleased s).stack = s.stack ∧ (warningReleased s).sli = s.sli ∧
    (warningReleased s).nvs = s.nvs := by simp only [warningReleased]; (repeat' split) <;> simp
@[simp] theorem enterNight_frame (r : NightRequest) (s : State) :
    (enterNight r s).pending = s.pending ∧ (enterNight r s).freeCount = s.freeCount ∧
    (enterNight r s).now = s.now ∧ (enterNight r s).powered = s.powered ∧ (enterNight r s).lines = s.lines ∧
    (enterNight r s).cfg = s.cfg ∧ (enterNight r s).mci = s.mci ∧ (enterNight r s).sides = s.sides ∧
    (enterNight r s).ptu = s.ptu ∧ (enterNight r s).sru = s.sru ∧ (enterNight r s).stack = s.stack ∧
    (enterNight r s).nvs = s.nvs := by simp [enterNight]
@[simp] theorem endDrain_frame (s : State) :
    (endDrain s).pending = s.pending ∧ (endDrain s).freeCount = s.freeCount ∧ (endDrain s).now = s.now ∧
    (endDrain s).powered = s.powered ∧ (endDrain s).lines = s.lines ∧ (endDrain s).cfg = s.cfg ∧
    (endDrain s).ptu = s.ptu ∧ (endDrain s).sru = s.sru ∧ (endDrain s).stack = s.stack := by simp only [endDrain]; (repeat' split) <;> simp
@[simp] theorem finish_frame (s : State) :
    (finish s).pending = s.pending ∧ (finish s).freeCount = s.freeCount ∧ (finish s).now = s.now ∧
    (finish s).powered = s.powered ∧ (finish s).lines = s.lines ∧ (finish s).cfg = s.cfg ∧
    (finish s).ptu = s.ptu ∧ (finish s).sru = s.sru ∧ (finish s).stack = s.stack := by simp only [finish]; (repeat' split) <;> simp
@[simp] theorem beginRestartDrain_frame (s : State) :
    (beginRestartDrain s).pending = s.pending ∧ (beginRestartDrain s).freeCount = s.freeCount ∧
    (beginRestartDrain s).now = s.now ∧ (beginRestartDrain s).powered = s.powered ∧
    (beginRestartDrain s).lines = s.lines ∧ (beginRestartDrain s).cfg = s.cfg ∧
    (beginRestartDrain s).mci = s.mci ∧ (beginRestartDrain s).sides = s.sides ∧
    (beginRestartDrain s).ptu = s.ptu ∧ (beginRestartDrain s).sru = s.sru ∧
    (beginRestartDrain s).stack = s.stack ∧ (beginRestartDrain s).nvs = s.nvs := by simp [beginRestartDrain]
@[simp] theorem replyEnded_frame (s : State) :
    (replyEnded s).pending = s.pending ∧ (replyEnded s).freeCount = s.freeCount ∧ (replyEnded s).now = s.now ∧
    (replyEnded s).powered = s.powered ∧ (replyEnded s).lines = s.lines ∧ (replyEnded s).cfg = s.cfg ∧
    (replyEnded s).mci = s.mci ∧ (replyEnded s).sides = s.sides ∧ (replyEnded s).ptu = s.ptu ∧
    (replyEnded s).sru = s.sru ∧ (replyEnded s).stack = s.stack ∧ (replyEnded s).nvs = s.nvs := by simp only [replyEnded]; (repeat' split) <;> simp
@[simp] theorem abandonReply_frame (s : State) :
    (abandonReply s).pending = s.pending ∧ (abandonReply s).freeCount = s.freeCount ∧
    (abandonReply s).now = s.now ∧ (abandonReply s).powered = s.powered ∧ (abandonReply s).lines = s.lines ∧
    (abandonReply s).cfg = s.cfg ∧ (abandonReply s).mci = s.mci ∧ (abandonReply s).sides = s.sides ∧
    (abandonReply s).ptu = s.ptu ∧ (abandonReply s).sru = s.sru ∧ (abandonReply s).stack = s.stack ∧
    (abandonReply s).nvs = s.nvs := by simp only [abandonReply]; (repeat' split) <;> simp
@[simp] theorem confirmExpired_frame (s : State) :
    (confirmExpired s).pending = s.pending ∧ (confirmExpired s).freeCount = s.freeCount ∧
    (confirmExpired s).powered = s.powered ∧ (confirmExpired s).lines = s.lines ∧
    (confirmExpired s).cfg = s.cfg ∧ (confirmExpired s).mci = s.mci ∧ (confirmExpired s).sides = s.sides ∧
    (confirmExpired s).ptu = s.ptu ∧ (confirmExpired s).sru = s.sru ∧ (confirmExpired s).stack = s.stack ∧
    (confirmExpired s).lbc = s.lbc ∧ (confirmExpired s).riu = s.riu ∧ (confirmExpired s).nvs = s.nvs := by simp only [confirmExpired]; (repeat' split) <;> simp
@[simp] theorem wakeExpired_frame (s : State) :
    (wakeExpired s).pending = s.pending ∧ (wakeExpired s).freeCount = s.freeCount ∧
    (wakeExpired s).powered = s.powered ∧ (wakeExpired s).lines = s.lines ∧ (wakeExpired s).cfg = s.cfg ∧
    (wakeExpired s).ptu = s.ptu ∧ (wakeExpired s).sru = s.sru ∧ (wakeExpired s).stack = s.stack := by simp only [wakeExpired]; (repeat' split) <;> simp
@[simp] theorem nightNozzleWake_frame (s : State) :
    (nightNozzleWake s).pending = s.pending ∧ (nightNozzleWake s).freeCount = s.freeCount ∧
    (nightNozzleWake s).now = s.now ∧ (nightNozzleWake s).powered = s.powered ∧
    (nightNozzleWake s).lines = s.lines ∧ (nightNozzleWake s).cfg = s.cfg ∧ (nightNozzleWake s).ptu = s.ptu ∧
    (nightNozzleWake s).sru = s.sru ∧ (nightNozzleWake s).stack = s.stack := by simp only [nightNozzleWake]; (repeat' split) <;> simp
@[simp] theorem writeVerified_frame (c : WriteContent) (s : State) :
    (writeVerified c s).pending = s.pending ∧ (writeVerified c s).freeCount = s.freeCount ∧
    (writeVerified c s).now = s.now ∧ (writeVerified c s).powered = s.powered ∧
    (writeVerified c s).lines = s.lines ∧ (writeVerified c s).cfg = s.cfg ∧ (writeVerified c s).mci = s.mci ∧
    (writeVerified c s).sides = s.sides ∧ (writeVerified c s).ptu = s.ptu ∧ (writeVerified c s).sru = s.sru ∧
    (writeVerified c s).stack = s.stack ∧ (writeVerified c s).lbc = s.lbc ∧ (writeVerified c s).riu = s.riu ∧
    (writeVerified c s).sli = s.sli ∧ (writeVerified c s).psq = s.psq := by simp only [writeVerified]; (repeat' split) <;> simp
@[simp] theorem thirdFailure_frame (s : State) :
    (thirdFailure s).pending = s.pending ∧ (thirdFailure s).freeCount = s.freeCount ∧
    (thirdFailure s).now = s.now ∧ (thirdFailure s).powered = s.powered ∧ (thirdFailure s).lines = s.lines ∧
    (thirdFailure s).mci = s.mci ∧ (thirdFailure s).ptu = s.ptu ∧ (thirdFailure s).sru = s.sru ∧
    (thirdFailure s).stack = s.stack ∧ (thirdFailure s).riu = s.riu ∧ (thirdFailure s).psq = s.psq := by simp [thirdFailure]
@[simp] theorem writeFailed_frame (c : WriteContent) (s : State) :
    (writeFailed c s).pending = s.pending ∧ (writeFailed c s).now = s.now ∧
    (writeFailed c s).powered = s.powered ∧ (writeFailed c s).lines = s.lines ∧ (writeFailed c s).ptu = s.ptu ∧
    (writeFailed c s).sru = s.sru ∧ (writeFailed c s).stack = s.stack := by simp only [writeFailed]; (repeat' split) <;> simp
@[simp] theorem resumeLoad_frame (s : State) :
    (resumeLoad s).pending = s.pending ∧ (resumeLoad s).freeCount = s.freeCount ∧ (resumeLoad s).now = s.now ∧
    (resumeLoad s).powered = s.powered ∧ (resumeLoad s).lines = s.lines ∧ (resumeLoad s).cfg = s.cfg ∧
    (resumeLoad s).mci = s.mci ∧ (resumeLoad s).sides = s.sides ∧ (resumeLoad s).ptu = s.ptu ∧
    (resumeLoad s).sru = s.sru ∧ (resumeLoad s).stack = s.stack ∧ (resumeLoad s).lbc = s.lbc ∧
    (resumeLoad s).riu = s.riu ∧ (resumeLoad s).sli = s.sli ∧ (resumeLoad s).psq = s.psq := by simp only [resumeLoad]; (repeat' split) <;> simp
@[simp] theorem writeComplete_frame (readBackEqual : Bool) (s : State) :
    (writeComplete readBackEqual s).pending = s.pending ∧ (writeComplete readBackEqual s).powered = s.powered ∧
    (writeComplete readBackEqual s).lines = s.lines ∧ (writeComplete readBackEqual s).ptu = s.ptu ∧
    (writeComplete readBackEqual s).sru = s.sru ∧ (writeComplete readBackEqual s).stack = s.stack := by simp only [writeComplete]; (repeat' split) <;> simp
@[simp] theorem countModeReject_frame (s : State) :
    (countModeReject s).pending = s.pending ∧ (countModeReject s).freeCount = s.freeCount ∧
    (countModeReject s).now = s.now ∧ (countModeReject s).powered = s.powered ∧
    (countModeReject s).lines = s.lines ∧ (countModeReject s).cfg = s.cfg ∧ (countModeReject s).mci = s.mci ∧
    (countModeReject s).sides = s.sides ∧ (countModeReject s).ptu = s.ptu ∧ (countModeReject s).sru = s.sru ∧
    (countModeReject s).stack = s.stack ∧ (countModeReject s).lbc = s.lbc ∧ (countModeReject s).riu = s.riu ∧
    (countModeReject s).nvs = s.nvs ∧ (countModeReject s).psq = s.psq := by simp [countModeReject]
@[simp] theorem confirmWake_frame (m : AddrMode) (s : State) :
    (confirmWake m s).pending = s.pending ∧ (confirmWake m s).freeCount = s.freeCount ∧
    (confirmWake m s).now = s.now ∧ (confirmWake m s).powered = s.powered ∧ (confirmWake m s).lines = s.lines ∧
    (confirmWake m s).cfg = s.cfg ∧ (confirmWake m s).mci = s.mci ∧ (confirmWake m s).sides = s.sides ∧
    (confirmWake m s).ptu = s.ptu ∧ (confirmWake m s).sru = s.sru ∧ (confirmWake m s).stack = s.stack ∧
    (confirmWake m s).lbc = s.lbc ∧ (confirmWake m s).riu = s.riu ∧ (confirmWake m s).sli = s.sli ∧
    (confirmWake m s).nvs = s.nvs := by simp only [confirmWake]; (repeat' split) <;> simp
@[simp] theorem acknowledge_frame (mask : BitVec 16) (s : State) :
    (acknowledge mask s).pending = s.pending ∧ (acknowledge mask s).freeCount = s.freeCount ∧
    (acknowledge mask s).now = s.now ∧ (acknowledge mask s).powered = s.powered ∧
    (acknowledge mask s).lines = s.lines ∧ (acknowledge mask s).cfg = s.cfg ∧
    (acknowledge mask s).mci = s.mci ∧ (acknowledge mask s).sides = s.sides ∧
    (acknowledge mask s).ptu = s.ptu ∧ (acknowledge mask s).sru = s.sru ∧
    (acknowledge mask s).stack = s.stack ∧ (acknowledge mask s).lbc = s.lbc ∧
    (acknowledge mask s).riu = s.riu ∧ (acknowledge mask s).sli = s.sli ∧ (acknowledge mask s).psq = s.psq := by simp only [acknowledge]; (repeat' split) <;> simp
@[simp] theorem takeNight_frame (m : AddrMode) (delay : Nat) (s : State) :
    (takeNight m delay s).pending = s.pending ∧ (takeNight m delay s).freeCount = s.freeCount ∧
    (takeNight m delay s).now = s.now ∧ (takeNight m delay s).powered = s.powered ∧
    (takeNight m delay s).lines = s.lines ∧ (takeNight m delay s).cfg = s.cfg ∧
    (takeNight m delay s).mci = s.mci ∧ (takeNight m delay s).sides = s.sides ∧
    (takeNight m delay s).ptu = s.ptu ∧ (takeNight m delay s).sru = s.sru ∧
    (takeNight m delay s).stack = s.stack ∧ (takeNight m delay s).lbc = s.lbc ∧
    (takeNight m delay s).riu = s.riu ∧ (takeNight m delay s).sli = s.sli ∧ (takeNight m delay s).nvs = s.nvs := by simp [takeNight]
@[simp] theorem actOnQuery_frame (sd : Side) (ctx : Sale) (s : State) :
    (actOnQuery sd ctx s).pending = s.pending ∧ (actOnQuery sd ctx s).freeCount = s.freeCount ∧
    (actOnQuery sd ctx s).now = s.now ∧ (actOnQuery sd ctx s).powered = s.powered ∧
    (actOnQuery sd ctx s).lines = s.lines ∧ (actOnQuery sd ctx s).cfg = s.cfg ∧
    (actOnQuery sd ctx s).mci = s.mci ∧ (actOnQuery sd ctx s).ptu = s.ptu ∧ (actOnQuery sd ctx s).sru = s.sru ∧
    (actOnQuery sd ctx s).stack = s.stack ∧ (actOnQuery sd ctx s).lbc = s.lbc ∧
    (actOnQuery sd ctx s).riu = s.riu ∧ (actOnQuery sd ctx s).sli = s.sli ∧ (actOnQuery sd ctx s).nvs = s.nvs ∧
    (actOnQuery sd ctx s).psq = s.psq := by simp only [actOnQuery]; (repeat' split) <;> simp
@[simp] theorem clearRecord_frame (sd : Side) (r : SaleRecord) (s : State) :
    (clearRecord sd r s).pending = s.pending ∧ (clearRecord sd r s).freeCount = s.freeCount ∧
    (clearRecord sd r s).now = s.now ∧ (clearRecord sd r s).powered = s.powered ∧
    (clearRecord sd r s).lines = s.lines ∧ (clearRecord sd r s).cfg = s.cfg ∧
    (clearRecord sd r s).mci = s.mci ∧ (clearRecord sd r s).sides = s.sides ∧
    (clearRecord sd r s).ptu = s.ptu ∧ (clearRecord sd r s).lbc = s.lbc ∧ (clearRecord sd r s).riu = s.riu ∧
    (clearRecord sd r s).sli = s.sli ∧ (clearRecord sd r s).psq = s.psq := by simp [clearRecord]
@[simp] theorem setStaged_frame (p : Prices) (s : State) :
    (setStaged p s).pending = s.pending ∧ (setStaged p s).freeCount = s.freeCount ∧
    (setStaged p s).now = s.now ∧ (setStaged p s).powered = s.powered ∧ (setStaged p s).lines = s.lines ∧
    (setStaged p s).cfg = s.cfg ∧ (setStaged p s).mci = s.mci ∧ (setStaged p s).sides = s.sides ∧
    (setStaged p s).sru = s.sru ∧ (setStaged p s).stack = s.stack ∧ (setStaged p s).lbc = s.lbc ∧
    (setStaged p s).riu = s.riu ∧ (setStaged p s).sli = s.sli ∧ (setStaged p s).psq = s.psq := by simp only [setStaged]; (repeat' split) <;> simp
@[simp] theorem commit_frame (md : CommitMode) (t : PriceTable) (s : State) :
    (commit md t s).pending = s.pending ∧ (commit md t s).freeCount = s.freeCount ∧
    (commit md t s).now = s.now ∧ (commit md t s).powered = s.powered ∧ (commit md t s).lines = s.lines ∧
    (commit md t s).cfg = s.cfg ∧ (commit md t s).mci = s.mci ∧ (commit md t s).sru = s.sru ∧
    (commit md t s).stack = s.stack ∧ (commit md t s).psq = s.psq := by simp only [commit]; (repeat' split) <;> simp
@[simp] theorem setCfg_frame (c : Cfg) (s : State) :
    (setCfg c s).pending = s.pending ∧ (setCfg c s).freeCount = s.freeCount ∧ (setCfg c s).now = s.now ∧
    (setCfg c s).powered = s.powered ∧ (setCfg c s).lines = s.lines ∧ (setCfg c s).mci = s.mci ∧
    (setCfg c s).sides = s.sides ∧ (setCfg c s).ptu = s.ptu ∧ (setCfg c s).sru = s.sru ∧
    (setCfg c s).stack = s.stack ∧ (setCfg c s).lbc = s.lbc ∧ (setCfg c s).riu = s.riu ∧
    (setCfg c s).sli = s.sli ∧ (setCfg c s).psq = s.psq := by simp [setCfg]
@[simp] theorem leaveList_frame (h : Hose) (sd : Option Side) (s : State) :
    (leaveList h sd s).pending = s.pending ∧ (leaveList h sd s).freeCount = s.freeCount ∧
    (leaveList h sd s).now = s.now ∧ (leaveList h sd s).powered = s.powered ∧
    (leaveList h sd s).lines = s.lines ∧ (leaveList h sd s).cfg = s.cfg ∧ (leaveList h sd s).mci = s.mci ∧
    (leaveList h sd s).ptu = s.ptu ∧ (leaveList h sd s).sru = s.sru ∧ (leaveList h sd s).stack = s.stack ∧
    (leaveList h sd s).lbc = s.lbc ∧ (leaveList h sd s).riu = s.riu ∧ (leaveList h sd s).sli = s.sli ∧
    (leaveList h sd s).nvs = s.nvs ∧ (leaveList h sd s).psq = s.psq := by simp only [leaveList]; (repeat' split) <;> simp
@[simp] theorem joinList_frame (h : Hose) (sd : Option Side) (s : State) :
    (joinList h sd s).pending = s.pending ∧ (joinList h sd s).freeCount = s.freeCount ∧
    (joinList h sd s).now = s.now ∧ (joinList h sd s).powered = s.powered ∧ (joinList h sd s).lines = s.lines ∧
    (joinList h sd s).cfg = s.cfg ∧ (joinList h sd s).mci = s.mci ∧ (joinList h sd s).ptu = s.ptu ∧
    (joinList h sd s).sru = s.sru ∧ (joinList h sd s).stack = s.stack ∧ (joinList h sd s).lbc = s.lbc ∧
    (joinList h sd s).riu = s.riu ∧ (joinList h sd s).sli = s.sli ∧ (joinList h sd s).nvs = s.nvs ∧
    (joinList h sd s).psq = s.psq := by simp only [joinList]; (repeat' split) <;> simp
@[simp] theorem moveLifted_frame (h : Hose) (old new : Option Side) (s : State) :
    (moveLifted h old new s).pending = s.pending ∧ (moveLifted h old new s).freeCount = s.freeCount ∧
    (moveLifted h old new s).now = s.now ∧ (moveLifted h old new s).powered = s.powered ∧
    (moveLifted h old new s).lines = s.lines ∧ (moveLifted h old new s).cfg = s.cfg ∧
    (moveLifted h old new s).mci = s.mci ∧ (moveLifted h old new s).ptu = s.ptu ∧
    (moveLifted h old new s).sru = s.sru ∧ (moveLifted h old new s).stack = s.stack ∧
    (moveLifted h old new s).lbc = s.lbc ∧ (moveLifted h old new s).riu = s.riu ∧
    (moveLifted h old new s).sli = s.sli ∧ (moveLifted h old new s).nvs = s.nvs ∧
    (moveLifted h old new s).psq = s.psq := by simp only [moveLifted]; (repeat' split) <;> simp
@[simp] theorem resetMoved_frame (old : PerHose (Option HoseRec)) (s : State) :
    (resetMoved old s).pending = s.pending ∧ (resetMoved old s).freeCount = s.freeCount ∧
    (resetMoved old s).now = s.now ∧ (resetMoved old s).powered = s.powered ∧
    (resetMoved old s).lines = s.lines ∧ (resetMoved old s).cfg = s.cfg ∧ (resetMoved old s).sides = s.sides ∧
    (resetMoved old s).ptu = s.ptu ∧ (resetMoved old s).sru = s.sru ∧ (resetMoved old s).stack = s.stack ∧
    (resetMoved old s).lbc = s.lbc ∧ (resetMoved old s).riu = s.riu ∧ (resetMoved old s).sli = s.sli ∧
    (resetMoved old s).nvs = s.nvs ∧ (resetMoved old s).psq = s.psq := by simp [resetMoved]
@[simp] theorem setHose_frame (h : Hose) (r : Option HoseRec) (s : State) :
    (setHose h r s).pending = s.pending ∧ (setHose h r s).freeCount = s.freeCount ∧
    (setHose h r s).now = s.now ∧ (setHose h r s).powered = s.powered ∧ (setHose h r s).lines = s.lines ∧
    (setHose h r s).ptu = s.ptu ∧ (setHose h r s).sru = s.sru ∧ (setHose h r s).stack = s.stack ∧
    (setHose h r s).riu = s.riu ∧ (setHose h r s).sli = s.sli ∧ (setHose h r s).psq = s.psq := by simp [setHose]
@[simp] theorem forgetReference_frame (m : Meter) (s : State) :
    (forgetReference m s).pending = s.pending ∧ (forgetReference m s).freeCount = s.freeCount ∧
    (forgetReference m s).now = s.now ∧ (forgetReference m s).powered = s.powered ∧
    (forgetReference m s).lines = s.lines ∧ (forgetReference m s).cfg = s.cfg ∧
    (forgetReference m s).sides = s.sides ∧ (forgetReference m s).ptu = s.ptu ∧
    (forgetReference m s).sru = s.sru ∧ (forgetReference m s).stack = s.stack ∧
    (forgetReference m s).lbc = s.lbc ∧ (forgetReference m s).riu = s.riu ∧ (forgetReference m s).sli = s.sli ∧
    (forgetReference m s).nvs = s.nvs ∧ (forgetReference m s).psq = s.psq := by simp [forgetReference]
@[simp] theorem setMeter_frame (m : Meter) (c : MeterConfig) (s : State) :
    (setMeter m c s).pending = s.pending ∧ (setMeter m c s).freeCount = s.freeCount ∧
    (setMeter m c s).now = s.now ∧ (setMeter m c s).powered = s.powered ∧ (setMeter m c s).lines = s.lines ∧
    (setMeter m c s).sides = s.sides ∧ (setMeter m c s).ptu = s.ptu ∧ (setMeter m c s).sru = s.sru ∧
    (setMeter m c s).stack = s.stack ∧ (setMeter m c s).lbc = s.lbc ∧ (setMeter m c s).riu = s.riu ∧
    (setMeter m c s).sli = s.sli ∧ (setMeter m c s).psq = s.psq := by simp only [setMeter]; (repeat' split) <;> simp
@[simp] theorem clampReader_frame (sd : Side) (s : State) :
    (clampReader sd s).pending = s.pending ∧ (clampReader sd s).freeCount = s.freeCount ∧
    (clampReader sd s).now = s.now ∧ (clampReader sd s).powered = s.powered ∧
    (clampReader sd s).lines = s.lines ∧ (clampReader sd s).cfg = s.cfg ∧ (clampReader sd s).mci = s.mci ∧
    (clampReader sd s).sides = s.sides ∧ (clampReader sd s).ptu = s.ptu ∧ (clampReader sd s).sru = s.sru ∧
    (clampReader sd s).stack = s.stack ∧ (clampReader sd s).nvs = s.nvs ∧ (clampReader sd s).psq = s.psq := by simp only [clampReader]; (repeat' split) <;> simp
@[simp] theorem clampSite_frame (s : State) :
    (clampSite s).pending = s.pending ∧ (clampSite s).freeCount = s.freeCount ∧ (clampSite s).now = s.now ∧
    (clampSite s).powered = s.powered ∧ (clampSite s).lines = s.lines ∧ (clampSite s).cfg = s.cfg ∧
    (clampSite s).mci = s.mci ∧ (clampSite s).sides = s.sides ∧ (clampSite s).ptu = s.ptu ∧
    (clampSite s).sru = s.sru ∧ (clampSite s).stack = s.stack ∧ (clampSite s).lbc = s.lbc ∧
    (clampSite s).riu = s.riu ∧ (clampSite s).nvs = s.nvs ∧ (clampSite s).psq = s.psq := by simp [clampSite]
@[simp] theorem setRow_frame (i : Nat) (r : RouteRow) (s : State) :
    (setRow i r s).pending = s.pending ∧ (setRow i r s).freeCount = s.freeCount ∧ (setRow i r s).now = s.now ∧
    (setRow i r s).powered = s.powered ∧ (setRow i r s).lines = s.lines ∧ (setRow i r s).mci = s.mci ∧
    (setRow i r s).sides = s.sides ∧ (setRow i r s).ptu = s.ptu ∧ (setRow i r s).sru = s.sru ∧
    (setRow i r s).stack = s.stack ∧ (setRow i r s).lbc = s.lbc ∧ (setRow i r s).riu = s.riu ∧
    (setRow i r s).sli = s.sli ∧ (setRow i r s).psq = s.psq := by simp [setRow]
@[simp] theorem openSide_frame (sd : Side) (s : State) :
    (openSide sd s).pending = s.pending ∧ (openSide sd s).freeCount = s.freeCount ∧
    (openSide sd s).now = s.now ∧ (openSide sd s).powered = s.powered ∧ (openSide sd s).lines = s.lines ∧
    (openSide sd s).ptu = s.ptu ∧ (openSide sd s).sru = s.sru ∧ (openSide sd s).stack = s.stack ∧
    (openSide sd s).riu = s.riu ∧ (openSide sd s).psq = s.psq := by simp [openSide]
@[simp] theorem powerReader_frame (sd : Side) (s : State) :
    (powerReader sd s).pending = s.pending ∧ (powerReader sd s).freeCount = s.freeCount ∧
    (powerReader sd s).now = s.now ∧ (powerReader sd s).powered = s.powered ∧
    (powerReader sd s).lines = s.lines ∧ (powerReader sd s).cfg = s.cfg ∧ (powerReader sd s).mci = s.mci ∧
    (powerReader sd s).sides = s.sides ∧ (powerReader sd s).ptu = s.ptu ∧ (powerReader sd s).sru = s.sru ∧
    (powerReader sd s).stack = s.stack ∧ (powerReader sd s).lbc = s.lbc ∧ (powerReader sd s).sli = s.sli ∧
    (powerReader sd s).nvs = s.nvs ∧ (powerReader sd s).psq = s.psq := by simp [powerReader]
@[simp] theorem isolateReader_frame (sd : Side) (s : State) :
    (isolateReader sd s).pending = s.pending ∧ (isolateReader sd s).freeCount = s.freeCount ∧
    (isolateReader sd s).now = s.now ∧ (isolateReader sd s).powered = s.powered ∧
    (isolateReader sd s).lines = s.lines ∧ (isolateReader sd s).cfg = s.cfg ∧
    (isolateReader sd s).mci = s.mci ∧ (isolateReader sd s).sides = s.sides ∧
    (isolateReader sd s).ptu = s.ptu ∧ (isolateReader sd s).sru = s.sru ∧
    (isolateReader sd s).stack = s.stack ∧ (isolateReader sd s).nvs = s.nvs ∧ (isolateReader sd s).psq = s.psq := by simp only [isolateReader]; (repeat' split) <;> simp
@[simp] theorem setOverflow_frame (s : State) :
    (setOverflow s).pending = s.pending ∧ (setOverflow s).freeCount = s.freeCount ∧
    (setOverflow s).now = s.now ∧ (setOverflow s).powered = s.powered ∧ (setOverflow s).lines = s.lines ∧
    (setOverflow s).cfg = s.cfg ∧ (setOverflow s).mci = s.mci ∧ (setOverflow s).sides = s.sides ∧
    (setOverflow s).ptu = s.ptu ∧ (setOverflow s).sru = s.sru ∧ (setOverflow s).stack = s.stack ∧
    (setOverflow s).lbc = s.lbc ∧ (setOverflow s).riu = s.riu ∧ (setOverflow s).nvs = s.nvs := by simp only [setOverflow]; (repeat' split) <;> simp
@[simp] theorem countError_frame (s : State) :
    (countError s).pending = s.pending ∧ (countError s).freeCount = s.freeCount ∧ (countError s).now = s.now ∧
    (countError s).powered = s.powered ∧ (countError s).lines = s.lines ∧ (countError s).cfg = s.cfg ∧
    (countError s).mci = s.mci ∧ (countError s).sides = s.sides ∧ (countError s).ptu = s.ptu ∧
    (countError s).sru = s.sru ∧ (countError s).stack = s.stack ∧ (countError s).lbc = s.lbc ∧
    (countError s).riu = s.riu ∧ (countError s).nvs = s.nvs := by simp only [countError]; (repeat' split) <;> simp
@[simp] theorem countGood_frame (s : State) :
    (countGood s).pending = s.pending ∧ (countGood s).freeCount = s.freeCount ∧ (countGood s).now = s.now ∧
    (countGood s).powered = s.powered ∧ (countGood s).lines = s.lines ∧ (countGood s).cfg = s.cfg ∧
    (countGood s).mci = s.mci ∧ (countGood s).sides = s.sides ∧ (countGood s).ptu = s.ptu ∧
    (countGood s).sru = s.sru ∧ (countGood s).stack = s.stack ∧ (countGood s).lbc = s.lbc ∧
    (countGood s).riu = s.riu ∧ (countGood s).nvs = s.nvs ∧ (countGood s).psq = s.psq := by simp [countGood]
@[simp] theorem withReceiver_frame (r : Receiver) (s : State) :
    (withReceiver r s).pending = s.pending ∧ (withReceiver r s).freeCount = s.freeCount ∧
    (withReceiver r s).now = s.now ∧ (withReceiver r s).powered = s.powered ∧
    (withReceiver r s).lines = s.lines ∧ (withReceiver r s).cfg = s.cfg ∧ (withReceiver r s).mci = s.mci ∧
    (withReceiver r s).sides = s.sides ∧ (withReceiver r s).ptu = s.ptu ∧ (withReceiver r s).sru = s.sru ∧
    (withReceiver r s).stack = s.stack ∧ (withReceiver r s).lbc = s.lbc ∧ (withReceiver r s).riu = s.riu ∧
    (withReceiver r s).nvs = s.nvs ∧ (withReceiver r s).psq = s.psq := by simp [withReceiver]
@[simp] theorem sendReply_frame (m : AddrMode) (frame : List Byte) (second : Option (List Byte)) (s : State) :
    (sendReply m frame second s).pending = s.pending ∧ (sendReply m frame second s).freeCount = s.freeCount ∧
    (sendReply m frame second s).now = s.now ∧ (sendReply m frame second s).powered = s.powered ∧
    (sendReply m frame second s).lines = s.lines ∧ (sendReply m frame second s).cfg = s.cfg ∧
    (sendReply m frame second s).mci = s.mci ∧ (sendReply m frame second s).sides = s.sides ∧
    (sendReply m frame second s).ptu = s.ptu ∧ (sendReply m frame second s).sru = s.sru ∧
    (sendReply m frame second s).stack = s.stack ∧ (sendReply m frame second s).lbc = s.lbc ∧
    (sendReply m frame second s).riu = s.riu ∧ (sendReply m frame second s).nvs = s.nvs ∧
    (sendReply m frame second s).psq = s.psq := by simp only [sendReply]; (repeat' split) <;> simp
@[simp] theorem sliRefuse_frame (m : AddrMode) (port code : Nat) (r : Result) (s : State) :
    (sliRefuse m port code r s).pending = s.pending ∧ (sliRefuse m port code r s).freeCount = s.freeCount ∧
    (sliRefuse m port code r s).now = s.now ∧ (sliRefuse m port code r s).powered = s.powered ∧
    (sliRefuse m port code r s).lines = s.lines ∧ (sliRefuse m port code r s).cfg = s.cfg ∧
    (sliRefuse m port code r s).mci = s.mci ∧ (sliRefuse m port code r s).sides = s.sides ∧
    (sliRefuse m port code r s).ptu = s.ptu ∧ (sliRefuse m port code r s).sru = s.sru ∧
    (sliRefuse m port code r s).stack = s.stack ∧ (sliRefuse m port code r s).lbc = s.lbc ∧
    (sliRefuse m port code r s).riu = s.riu ∧ (sliRefuse m port code r s).nvs = s.nvs ∧
    (sliRefuse m port code r s).psq = s.psq := by simp [sliRefuse]
@[simp] theorem frameStart_frame (s : State) :
    (frameStart s).pending = s.pending ∧ (frameStart s).freeCount = s.freeCount ∧ (frameStart s).now = s.now ∧
    (frameStart s).powered = s.powered ∧ (frameStart s).lines = s.lines ∧ (frameStart s).cfg = s.cfg ∧
    (frameStart s).ptu = s.ptu ∧ (frameStart s).sru = s.sru ∧ (frameStart s).stack = s.stack := by simp only [frameStart]; (repeat' split) <;> simp
@[simp] theorem abandonFrame_frame (s : State) :
    (abandonFrame s).pending = s.pending ∧ (abandonFrame s).freeCount = s.freeCount ∧
    (abandonFrame s).now = s.now ∧ (abandonFrame s).powered = s.powered ∧ (abandonFrame s).lines = s.lines ∧
    (abandonFrame s).cfg = s.cfg ∧ (abandonFrame s).mci = s.mci ∧ (abandonFrame s).sides = s.sides ∧
    (abandonFrame s).ptu = s.ptu ∧ (abandonFrame s).sru = s.sru ∧ (abandonFrame s).stack = s.stack ∧
    (abandonFrame s).lbc = s.lbc ∧ (abandonFrame s).riu = s.riu ∧ (abandonFrame s).nvs = s.nvs := by simp [abandonFrame]
@[simp] theorem quiet_frame (s : State) :
    (quiet s).pending = s.pending ∧ (quiet s).freeCount = s.freeCount ∧ (quiet s).now = s.now ∧
    (quiet s).powered = s.powered ∧ (quiet s).lines = s.lines ∧ (quiet s).cfg = s.cfg ∧ (quiet s).mci = s.mci ∧
    (quiet s).sides = s.sides ∧ (quiet s).ptu = s.ptu ∧ (quiet s).sru = s.sru ∧ (quiet s).stack = s.stack ∧
    (quiet s).lbc = s.lbc ∧ (quiet s).riu = s.riu ∧ (quiet s).nvs = s.nvs ∧ (quiet s).psq = s.psq := by simp only [quiet]; (repeat' split) <;> simp
@[simp] theorem gapInFrame_frame (s : State) :
    (gapInFrame s).pending = s.pending ∧ (gapInFrame s).freeCount = s.freeCount ∧ (gapInFrame s).now = s.now ∧
    (gapInFrame s).powered = s.powered ∧ (gapInFrame s).lines = s.lines ∧ (gapInFrame s).cfg = s.cfg ∧
    (gapInFrame s).mci = s.mci ∧ (gapInFrame s).sides = s.sides ∧ (gapInFrame s).ptu = s.ptu ∧
    (gapInFrame s).sru = s.sru ∧ (gapInFrame s).stack = s.stack ∧ (gapInFrame s).lbc = s.lbc ∧
    (gapInFrame s).riu = s.riu ∧ (gapInFrame s).nvs = s.nvs := by simp only [gapInFrame]; (repeat' split) <;> simp
@[simp] theorem replySend_frame (s : State) :
    (replySend s).pending = s.pending ∧ (replySend s).freeCount = s.freeCount ∧ (replySend s).now = s.now ∧
    (replySend s).powered = s.powered ∧ (replySend s).lines = s.lines ∧ (replySend s).cfg = s.cfg ∧
    (replySend s).mci = s.mci ∧ (replySend s).sides = s.sides ∧ (replySend s).ptu = s.ptu ∧
    (replySend s).sru = s.sru ∧ (replySend s).stack = s.stack ∧ (replySend s).lbc = s.lbc ∧
    (replySend s).riu = s.riu ∧ (replySend s).nvs = s.nvs ∧ (replySend s).psq = s.psq := by simp only [replySend]; (repeat' split) <;> simp
@[simp] theorem replySent_frame (s : State) :
    (replySent s).pending = s.pending ∧ (replySent s).freeCount = s.freeCount ∧ (replySent s).now = s.now ∧
    (replySent s).powered = s.powered ∧ (replySent s).lines = s.lines ∧ (replySent s).cfg = s.cfg ∧
    (replySent s).mci = s.mci ∧ (replySent s).sides = s.sides ∧ (replySent s).ptu = s.ptu ∧
    (replySent s).sru = s.sru ∧ (replySent s).stack = s.stack ∧ (replySent s).nvs = s.nvs := by simp only [replySent]; (repeat' split) <;> simp
@[simp] theorem totalsSecond_frame (s : State) :
    (totalsSecond s).pending = s.pending ∧ (totalsSecond s).freeCount = s.freeCount ∧
    (totalsSecond s).now = s.now ∧ (totalsSecond s).powered = s.powered ∧ (totalsSecond s).lines = s.lines ∧
    (totalsSecond s).cfg = s.cfg ∧ (totalsSecond s).mci = s.mci ∧ (totalsSecond s).sides = s.sides ∧
    (totalsSecond s).ptu = s.ptu ∧ (totalsSecond s).sru = s.sru ∧ (totalsSecond s).stack = s.stack ∧
    (totalsSecond s).lbc = s.lbc ∧ (totalsSecond s).riu = s.riu ∧ (totalsSecond s).nvs = s.nvs ∧
    (totalsSecond s).psq = s.psq := by simp only [totalsSecond]; (repeat' split) <;> simp
@[simp] theorem withSale_frame (sd : Side) (f : Sale → Sale) (s : State) :
    (withSale sd f s).pending = s.pending ∧ (withSale sd f s).freeCount = s.freeCount ∧
    (withSale sd f s).now = s.now ∧ (withSale sd f s).powered = s.powered ∧ (withSale sd f s).lines = s.lines ∧
    (withSale sd f s).cfg = s.cfg ∧ (withSale sd f s).mci = s.mci ∧ (withSale sd f s).ptu = s.ptu ∧
    (withSale sd f s).sru = s.sru ∧ (withSale sd f s).stack = s.stack ∧ (withSale sd f s).lbc = s.lbc ∧
    (withSale sd f s).riu = s.riu ∧ (withSale sd f s).sli = s.sli ∧ (withSale sd f s).nvs = s.nvs ∧
    (withSale sd f s).psq = s.psq := by simp only [withSale]; (repeat' split) <;> simp
@[simp] theorem flowIndication_frame (sd : Side) (s : State) :
    (flowIndication sd s).pending = s.pending ∧ (flowIndication sd s).freeCount = s.freeCount ∧
    (flowIndication sd s).now = s.now ∧ (flowIndication sd s).powered = s.powered ∧
    (flowIndication sd s).lines = s.lines ∧ (flowIndication sd s).cfg = s.cfg ∧
    (flowIndication sd s).mci = s.mci ∧ (flowIndication sd s).ptu = s.ptu ∧ (flowIndication sd s).sru = s.sru ∧
    (flowIndication sd s).stack = s.stack ∧ (flowIndication sd s).lbc = s.lbc ∧
    (flowIndication sd s).riu = s.riu ∧ (flowIndication sd s).sli = s.sli ∧ (flowIndication sd s).nvs = s.nvs ∧
    (flowIndication sd s).psq = s.psq := by simp only [flowIndication]; (repeat' split) <;> simp
@[simp] theorem renew_frame (sd : Side) (s : State) :
    (renew sd s).pending = s.pending ∧ (renew sd s).freeCount = s.freeCount ∧ (renew sd s).now = s.now ∧
    (renew sd s).powered = s.powered ∧ (renew sd s).lines = s.lines ∧ (renew sd s).cfg = s.cfg ∧
    (renew sd s).mci = s.mci ∧ (renew sd s).ptu = s.ptu ∧ (renew sd s).sru = s.sru ∧
    (renew sd s).stack = s.stack ∧ (renew sd s).lbc = s.lbc ∧ (renew sd s).riu = s.riu ∧
    (renew sd s).sli = s.sli ∧ (renew sd s).nvs = s.nvs ∧ (renew sd s).psq = s.psq := by simp only [renew]; (repeat' split) <;> simp
@[simp] theorem reportPulse_frame (sd : Side) (m : Meter) (rev high : Bool) (s : State) :
    (reportPulse sd m rev high s).pending = s.pending ∧ (reportPulse sd m rev high s).now = s.now ∧
    (reportPulse sd m rev high s).powered = s.powered ∧ (reportPulse sd m rev high s).lines = s.lines ∧
    (reportPulse sd m rev high s).cfg = s.cfg ∧ (reportPulse sd m rev high s).mci = s.mci ∧
    (reportPulse sd m rev high s).ptu = s.ptu ∧ (reportPulse sd m rev high s).sru = s.sru ∧
    (reportPulse sd m rev high s).stack = s.stack ∧ (reportPulse sd m rev high s).lbc = s.lbc ∧
    (reportPulse sd m rev high s).riu = s.riu ∧ (reportPulse sd m rev high s).sli = s.sli ∧
    (reportPulse sd m rev high s).nvs = s.nvs ∧ (reportPulse sd m rev high s).psq = s.psq := by simp only [reportPulse]; (repeat' split) <;> simp
@[simp] theorem engagedPulse_frame (sd : Side) (d : Direction) (m : Meter) (ctx : Sale) (before : Counters) (s : State) :
    (engagedPulse sd d m ctx before s).pending = s.pending ∧ (engagedPulse sd d m ctx before s).now = s.now ∧
    (engagedPulse sd d m ctx before s).powered = s.powered ∧
    (engagedPulse sd d m ctx before s).lines = s.lines ∧ (engagedPulse sd d m ctx before s).cfg = s.cfg ∧
    (engagedPulse sd d m ctx before s).mci = s.mci ∧ (engagedPulse sd d m ctx before s).ptu = s.ptu ∧
    (engagedPulse sd d m ctx before s).sru = s.sru ∧ (engagedPulse sd d m ctx before s).stack = s.stack ∧
    (engagedPulse sd d m ctx before s).lbc = s.lbc ∧ (engagedPulse sd d m ctx before s).riu = s.riu ∧
    (engagedPulse sd d m ctx before s).sli = s.sli ∧ (engagedPulse sd d m ctx before s).nvs = s.nvs ∧
    (engagedPulse sd d m ctx before s).psq = s.psq := by simp [engagedPulse]
@[simp] theorem freePulse_frame (m : Meter) (s : State) :
    (freePulse m s).pending = s.pending ∧ (freePulse m s).freeCount = s.freeCount ∧
    (freePulse m s).now = s.now ∧ (freePulse m s).powered = s.powered ∧ (freePulse m s).lines = s.lines ∧
    (freePulse m s).ptu = s.ptu ∧ (freePulse m s).sru = s.sru ∧ (freePulse m s).stack = s.stack ∧
    (freePulse m s).riu = s.riu ∧ (freePulse m s).psq = s.psq := by simp only [freePulse]; (repeat' split) <;> simp
@[simp] theorem pulse_frame (d : Direction) (m : Meter) (s : State) :
    (pulse d m s).pending = s.pending ∧ (pulse d m s).now = s.now ∧ (pulse d m s).powered = s.powered ∧
    (pulse d m s).lines = s.lines ∧ (pulse d m s).ptu = s.ptu ∧ (pulse d m s).sru = s.sru ∧
    (pulse d m s).stack = s.stack ∧ (pulse d m s).riu = s.riu ∧ (pulse d m s).psq = s.psq := by simp only [pulse]; (repeat' split) <;> simp
@[simp] theorem engagedPhase_frame (sd : Side) (m : Meter) (ctx : Sale) (before : Counters) (s : State) :
    (engagedPhase sd m ctx before s).pending = s.pending ∧
    (engagedPhase sd m ctx before s).freeCount = s.freeCount ∧ (engagedPhase sd m ctx before s).now = s.now ∧
    (engagedPhase sd m ctx before s).powered = s.powered ∧ (engagedPhase sd m ctx before s).lines = s.lines ∧
    (engagedPhase sd m ctx before s).cfg = s.cfg ∧ (engagedPhase sd m ctx before s).mci = s.mci ∧
    (engagedPhase sd m ctx before s).ptu = s.ptu ∧ (engagedPhase sd m ctx before s).sru = s.sru ∧
    (engagedPhase sd m ctx before s).stack = s.stack ∧ (engagedPhase sd m ctx before s).lbc = s.lbc ∧
    (engagedPhase sd m ctx before s).riu = s.riu ∧ (engagedPhase sd m ctx before s).sli = s.sli ∧
    (engagedPhase sd m ctx before s).nvs = s.nvs ∧ (engagedPhase sd m ctx before s).psq = s.psq := by simp only [engagedPhase]; (repeat' split) <;> simp
@[simp] theorem phaseError_frame (m : Meter) (s : State) :
    (phaseError m s).pending = s.pending ∧ (phaseError m s).freeCount = s.freeCount ∧
    (phaseError m s).now = s.now ∧ (phaseError m s).powered = s.powered ∧ (phaseError m s).lines = s.lines ∧
    (phaseError m s).cfg = s.cfg ∧ (phaseError m s).ptu = s.ptu ∧ (phaseError m s).sru = s.sru ∧
    (phaseError m s).stack = s.stack ∧ (phaseError m s).lbc = s.lbc ∧ (phaseError m s).riu = s.riu ∧
    (phaseError m s).sli = s.sli ∧ (phaseError m s).nvs = s.nvs ∧ (phaseError m s).psq = s.psq := by simp only [phaseError]; (repeat' split) <;> simp
@[simp] theorem endCycle_frame (m : Meter) (s : State) :
    (endCycle m s).pending = s.pending ∧ (endCycle m s).freeCount = s.freeCount ∧ (endCycle m s).now = s.now ∧
    (endCycle m s).powered = s.powered ∧ (endCycle m s).lines = s.lines ∧ (endCycle m s).cfg = s.cfg ∧
    (endCycle m s).sides = s.sides ∧ (endCycle m s).ptu = s.ptu ∧ (endCycle m s).sru = s.sru ∧
    (endCycle m s).stack = s.stack ∧ (endCycle m s).lbc = s.lbc ∧ (endCycle m s).riu = s.riu ∧
    (endCycle m s).sli = s.sli ∧ (endCycle m s).nvs = s.nvs ∧ (endCycle m s).psq = s.psq := by simp [endCycle]
@[simp] theorem reversePulse_frame (m : Meter) (s : State) :
    (reversePulse m s).pending = s.pending ∧ (reversePulse m s).now = s.now ∧
    (reversePulse m s).powered = s.powered ∧ (reversePulse m s).lines = s.lines ∧
    (reversePulse m s).ptu = s.ptu ∧ (reversePulse m s).sru = s.sru ∧ (reversePulse m s).stack = s.stack ∧
    (reversePulse m s).riu = s.riu ∧ (reversePulse m s).psq = s.psq := by simp only [reversePulse]; (repeat' split) <;> simp
@[simp] theorem phaseYield_frame (m : Meter) (s : State) :
    (phaseYield m s).pending = s.pending ∧ (phaseYield m s).freeCount = s.freeCount ∧
    (phaseYield m s).now = s.now ∧ (phaseYield m s).powered = s.powered ∧ (phaseYield m s).lines = s.lines ∧
    (phaseYield m s).cfg = s.cfg ∧ (phaseYield m s).ptu = s.ptu ∧ (phaseYield m s).sru = s.sru ∧
    (phaseYield m s).stack = s.stack ∧ (phaseYield m s).lbc = s.lbc ∧ (phaseYield m s).riu = s.riu ∧
    (phaseYield m s).sli = s.sli ∧ (phaseYield m s).nvs = s.nvs ∧ (phaseYield m s).psq = s.psq := by simp only [phaseYield]; (repeat' split) <;> simp
@[simp] theorem withDecoder_frame (m : Meter) (reference : LineState) (pos : Int) (s : State) :
    (withDecoder m reference pos s).pending = s.pending ∧
    (withDecoder m reference pos s).freeCount = s.freeCount ∧ (withDecoder m reference pos s).now = s.now ∧
    (withDecoder m reference pos s).powered = s.powered ∧ (withDecoder m reference pos s).lines = s.lines ∧
    (withDecoder m reference pos s).cfg = s.cfg ∧ (withDecoder m reference pos s).sides = s.sides ∧
    (withDecoder m reference pos s).ptu = s.ptu ∧ (withDecoder m reference pos s).sru = s.sru ∧
    (withDecoder m reference pos s).stack = s.stack ∧ (withDecoder m reference pos s).lbc = s.lbc ∧
    (withDecoder m reference pos s).riu = s.riu ∧ (withDecoder m reference pos s).sli = s.sli ∧
    (withDecoder m reference pos s).nvs = s.nvs ∧ (withDecoder m reference pos s).psq = s.psq := by simp [withDecoder]
@[simp] theorem observeQuad_frame (m : Meter) (reference seen : LineState) (s : State) :
    (observeQuad m reference seen s).pending = s.pending ∧ (observeQuad m reference seen s).now = s.now ∧
    (observeQuad m reference seen s).powered = s.powered ∧ (observeQuad m reference seen s).lines = s.lines ∧
    (observeQuad m reference seen s).ptu = s.ptu ∧ (observeQuad m reference seen s).sru = s.sru ∧
    (observeQuad m reference seen s).stack = s.stack ∧ (observeQuad m reference seen s).riu = s.riu ∧
    (observeQuad m reference seen s).psq = s.psq := by simp only [observeQuad]; (repeat' split) <;> simp
@[simp] theorem observeSingle_frame (m : Meter) (reference seen : LineState) (s : State) :
    (observeSingle m reference seen s).pending = s.pending ∧ (observeSingle m reference seen s).now = s.now ∧
    (observeSingle m reference seen s).powered = s.powered ∧
    (observeSingle m reference seen s).lines = s.lines ∧ (observeSingle m reference seen s).ptu = s.ptu ∧
    (observeSingle m reference seen s).sru = s.sru ∧ (observeSingle m reference seen s).stack = s.stack ∧
    (observeSingle m reference seen s).riu = s.riu ∧ (observeSingle m reference seen s).psq = s.psq := by simp only [observeSingle]; (repeat' split) <;> simp
@[simp] theorem observe_frame (m : Meter) (seen : LineState) (s : State) :
    (observe m seen s).pending = s.pending ∧ (observe m seen s).now = s.now ∧
    (observe m seen s).powered = s.powered ∧ (observe m seen s).lines = s.lines ∧
    (observe m seen s).ptu = s.ptu ∧ (observe m seen s).sru = s.sru ∧ (observe m seen s).stack = s.stack ∧
    (observe m seen s).riu = s.riu ∧ (observe m seen s).psq = s.psq := by simp only [observe]; (repeat' split) <;> simp
@[simp] theorem sideLift_frame (sd : Side) (h : Hose) (s : State) :
    (sideLift sd h s).pending = s.pending ∧ (sideLift sd h s).freeCount = s.freeCount ∧
    (sideLift sd h s).now = s.now ∧ (sideLift sd h s).powered = s.powered ∧ (sideLift sd h s).lines = s.lines ∧
    (sideLift sd h s).cfg = s.cfg ∧ (sideLift sd h s).ptu = s.ptu ∧ (sideLift sd h s).sru = s.sru ∧
    (sideLift sd h s).stack = s.stack := by simp only [sideLift]; (repeat' split) <;> simp
@[simp] theorem nozzleLift_frame (h : Hose) (s : State) :
    (nozzleLift h s).pending = s.pending ∧ (nozzleLift h s).freeCount = s.freeCount ∧
    (nozzleLift h s).now = s.now ∧ (nozzleLift h s).powered = s.powered ∧ (nozzleLift h s).cfg = s.cfg ∧
    (nozzleLift h s).ptu = s.ptu ∧ (nozzleLift h s).sru = s.sru ∧ (nozzleLift h s).stack = s.stack := by simp only [nozzleLift]; (repeat' split) <;> simp
@[simp] theorem hangActive_frame (sd : Side) (s : State) :
    (hangActive sd s).pending = s.pending ∧ (hangActive sd s).freeCount = s.freeCount ∧
    (hangActive sd s).now = s.now ∧ (hangActive sd s).powered = s.powered ∧ (hangActive sd s).lines = s.lines ∧
    (hangActive sd s).cfg = s.cfg ∧ (hangActive sd s).mci = s.mci ∧ (hangActive sd s).ptu = s.ptu ∧
    (hangActive sd s).sru = s.sru ∧ (hangActive sd s).stack = s.stack ∧ (hangActive sd s).lbc = s.lbc ∧
    (hangActive sd s).riu = s.riu ∧ (hangActive sd s).sli = s.sli ∧ (hangActive sd s).nvs = s.nvs ∧
    (hangActive sd s).psq = s.psq := by simp only [hangActive]; (repeat' split) <;> simp
@[simp] theorem sideHang_frame (sd : Side) (h : Hose) (s : State) :
    (sideHang sd h s).pending = s.pending ∧ (sideHang sd h s).freeCount = s.freeCount ∧
    (sideHang sd h s).now = s.now ∧ (sideHang sd h s).powered = s.powered ∧ (sideHang sd h s).lines = s.lines ∧
    (sideHang sd h s).cfg = s.cfg ∧ (sideHang sd h s).mci = s.mci ∧ (sideHang sd h s).ptu = s.ptu ∧
    (sideHang sd h s).sru = s.sru ∧ (sideHang sd h s).stack = s.stack ∧ (sideHang sd h s).nvs = s.nvs ∧
    (sideHang sd h s).psq = s.psq := by simp only [sideHang]; (repeat' split) <;> simp
@[simp] theorem nozzleHang_frame (h : Hose) (s : State) :
    (nozzleHang h s).pending = s.pending ∧ (nozzleHang h s).freeCount = s.freeCount ∧
    (nozzleHang h s).now = s.now ∧ (nozzleHang h s).powered = s.powered ∧ (nozzleHang h s).cfg = s.cfg ∧
    (nozzleHang h s).mci = s.mci ∧ (nozzleHang h s).ptu = s.ptu ∧ (nozzleHang h s).sru = s.sru ∧
    (nozzleHang h s).stack = s.stack ∧ (nozzleHang h s).nvs = s.nvs ∧ (nozzleHang h s).psq = s.psq := by simp only [nozzleHang]; (repeat' split) <;> simp
@[simp] theorem authExpires_frame (sd : Side) (s : State) :
    (authExpires sd s).pending = s.pending ∧ (authExpires sd s).freeCount = s.freeCount ∧
    (authExpires sd s).powered = s.powered ∧ (authExpires sd s).lines = s.lines ∧
    (authExpires sd s).cfg = s.cfg ∧ (authExpires sd s).mci = s.mci ∧ (authExpires sd s).ptu = s.ptu ∧
    (authExpires sd s).sru = s.sru ∧ (authExpires sd s).stack = s.stack ∧ (authExpires sd s).lbc = s.lbc ∧
    (authExpires sd s).riu = s.riu ∧ (authExpires sd s).nvs = s.nvs ∧ (authExpires sd s).psq = s.psq := by simp only [authExpires]; (repeat' split) <;> simp
@[simp] theorem zeroExpires_frame (sd : Side) (s : State) :
    (zeroExpires sd s).pending = s.pending ∧ (zeroExpires sd s).freeCount = s.freeCount ∧
    (zeroExpires sd s).powered = s.powered ∧ (zeroExpires sd s).lines = s.lines ∧
    (zeroExpires sd s).cfg = s.cfg ∧ (zeroExpires sd s).mci = s.mci ∧ (zeroExpires sd s).ptu = s.ptu ∧
    (zeroExpires sd s).sru = s.sru ∧ (zeroExpires sd s).stack = s.stack ∧ (zeroExpires sd s).lbc = s.lbc ∧
    (zeroExpires sd s).riu = s.riu ∧ (zeroExpires sd s).sli = s.sli ∧ (zeroExpires sd s).nvs = s.nvs ∧
    (zeroExpires sd s).psq = s.psq := by simp only [zeroExpires]; (repeat' split) <;> simp
@[simp] theorem noFlowExpires_frame (sd : Side) (s : State) :
    (noFlowExpires sd s).pending = s.pending ∧ (noFlowExpires sd s).freeCount = s.freeCount ∧
    (noFlowExpires sd s).powered = s.powered ∧ (noFlowExpires sd s).lines = s.lines ∧
    (noFlowExpires sd s).cfg = s.cfg ∧ (noFlowExpires sd s).mci = s.mci ∧ (noFlowExpires sd s).ptu = s.ptu ∧
    (noFlowExpires sd s).sru = s.sru ∧ (noFlowExpires sd s).stack = s.stack ∧
    (noFlowExpires sd s).lbc = s.lbc ∧ (noFlowExpires sd s).riu = s.riu ∧ (noFlowExpires sd s).sli = s.sli ∧
    (noFlowExpires sd s).nvs = s.nvs ∧ (noFlowExpires sd s).psq = s.psq := by simp only [noFlowExpires]; (repeat' split) <;> simp
@[simp] theorem suspendExpires_frame (sd : Side) (s : State) :
    (suspendExpires sd s).pending = s.pending ∧ (suspendExpires sd s).freeCount = s.freeCount ∧
    (suspendExpires sd s).powered = s.powered ∧ (suspendExpires sd s).lines = s.lines ∧
    (suspendExpires sd s).cfg = s.cfg ∧ (suspendExpires sd s).mci = s.mci ∧ (suspendExpires sd s).ptu = s.ptu ∧
    (suspendExpires sd s).sru = s.sru ∧ (suspendExpires sd s).stack = s.stack ∧
    (suspendExpires sd s).lbc = s.lbc ∧ (suspendExpires sd s).riu = s.riu ∧ (suspendExpires sd s).sli = s.sli ∧
    (suspendExpires sd s).nvs = s.nvs ∧ (suspendExpires sd s).psq = s.psq := by simp only [suspendExpires]; (repeat' split) <;> simp
@[simp] theorem settleExpires_frame (sd : Side) (s : State) :
    (settleExpires sd s).pending = s.pending ∧ (settleExpires sd s).freeCount = s.freeCount ∧
    (settleExpires sd s).powered = s.powered ∧ (settleExpires sd s).lines = s.lines ∧
    (settleExpires sd s).ptu = s.ptu ∧ (settleExpires sd s).riu = s.riu ∧ (settleExpires sd s).psq = s.psq := by simp only [settleExpires]; (repeat' split) <;> simp
@[simp] theorem railFault_frame (sd : Side) (s : State) :
    (railFault sd s).pending = s.pending ∧ (railFault sd s).freeCount = s.freeCount ∧
    (railFault sd s).now = s.now ∧ (railFault sd s).powered = s.powered ∧ (railFault sd s).lines = s.lines ∧
    (railFault sd s).cfg = s.cfg ∧ (railFault sd s).mci = s.mci ∧ (railFault sd s).ptu = s.ptu ∧
    (railFault sd s).sru = s.sru ∧ (railFault sd s).stack = s.stack ∧ (railFault sd s).lbc = s.lbc ∧
    (railFault sd s).riu = s.riu ∧ (railFault sd s).sli = s.sli ∧ (railFault sd s).nvs = s.nvs ∧
    (railFault sd s).psq = s.psq := by simp [railFault]
@[simp] theorem railDown_frame (s : State) :
    (railDown s).pending = s.pending ∧ (railDown s).freeCount = s.freeCount ∧ (railDown s).now = s.now ∧
    (railDown s).powered = s.powered ∧ (railDown s).cfg = s.cfg ∧ (railDown s).mci = s.mci ∧
    (railDown s).ptu = s.ptu ∧ (railDown s).sru = s.sru ∧ (railDown s).stack = s.stack ∧
    (railDown s).lbc = s.lbc ∧ (railDown s).riu = s.riu ∧ (railDown s).sli = s.sli ∧ (railDown s).nvs = s.nvs ∧
    (railDown s).psq = s.psq := by simp only [railDown]; (repeat' split) <;> simp
@[simp] theorem railUp_frame (s : State) :
    (railUp s).pending = s.pending ∧ (railUp s).freeCount = s.freeCount ∧ (railUp s).now = s.now ∧
    (railUp s).powered = s.powered ∧ (railUp s).cfg = s.cfg ∧ (railUp s).mci = s.mci ∧ (railUp s).ptu = s.ptu ∧
    (railUp s).sru = s.sru ∧ (railUp s).stack = s.stack ∧ (railUp s).sli = s.sli ∧ (railUp s).nvs = s.nvs ∧
    (railUp s).psq = s.psq := by simp only [railUp]; (repeat' split) <;> simp
@[simp] theorem frameSent_frame (s : State) :
    (frameSent s).pending = s.pending ∧ (frameSent s).freeCount = s.freeCount ∧ (frameSent s).now = s.now ∧
    (frameSent s).powered = s.powered ∧ (frameSent s).lines = s.lines ∧ (frameSent s).cfg = s.cfg ∧
    (frameSent s).mci = s.mci ∧ (frameSent s).sides = s.sides ∧ (frameSent s).ptu = s.ptu ∧
    (frameSent s).sru = s.sru ∧ (frameSent s).stack = s.stack ∧ (frameSent s).riu = s.riu ∧
    (frameSent s).sli = s.sli ∧ (frameSent s).nvs = s.nvs ∧ (frameSent s).psq = s.psq := by simp only [frameSent]; (repeat' split) <;> simp
@[simp] theorem judge_frame (sl : Slot) (ans : Answer) (s : State) :
    (judge sl ans s).pending = s.pending ∧ (judge sl ans s).freeCount = s.freeCount ∧
    (judge sl ans s).now = s.now ∧ (judge sl ans s).powered = s.powered ∧ (judge sl ans s).lines = s.lines ∧
    (judge sl ans s).mci = s.mci ∧ (judge sl ans s).ptu = s.ptu ∧ (judge sl ans s).sru = s.sru ∧
    (judge sl ans s).stack = s.stack := by simp only [judge]; (repeat' split) <;> simp
@[simp] theorem answerEnds_frame (ans : LocalAnswer) (s : State) :
    (answerEnds ans s).pending = s.pending ∧ (answerEnds ans s).freeCount = s.freeCount ∧
    (answerEnds ans s).now = s.now ∧ (answerEnds ans s).powered = s.powered ∧
    (answerEnds ans s).lines = s.lines ∧ (answerEnds ans s).mci = s.mci ∧ (answerEnds ans s).ptu = s.ptu ∧
    (answerEnds ans s).sru = s.sru ∧ (answerEnds ans s).stack = s.stack := by simp only [answerEnds]; (repeat' split) <;> simp
@[simp] theorem noAnswer_frame (s : State) :
    (noAnswer s).pending = s.pending ∧ (noAnswer s).freeCount = s.freeCount ∧
    (noAnswer s).powered = s.powered ∧ (noAnswer s).lines = s.lines ∧ (noAnswer s).mci = s.mci ∧
    (noAnswer s).ptu = s.ptu ∧ (noAnswer s).sru = s.sru ∧ (noAnswer s).stack = s.stack := by simp only [noAnswer]; (repeat' split) <;> simp
@[simp] theorem characterGap_frame (s : State) :
    (characterGap s).pending = s.pending ∧ (characterGap s).freeCount = s.freeCount ∧
    (characterGap s).now = s.now ∧ (characterGap s).powered = s.powered ∧ (characterGap s).lines = s.lines ∧
    (characterGap s).mci = s.mci ∧ (characterGap s).ptu = s.ptu ∧ (characterGap s).sru = s.sru ∧
    (characterGap s).stack = s.stack := by simp only [characterGap]; (repeat' split) <;> simp
@[simp] theorem slotExpires_frame (s : State) :
    (slotExpires s).pending = s.pending ∧ (slotExpires s).freeCount = s.freeCount ∧
    (slotExpires s).powered = s.powered ∧ (slotExpires s).lines = s.lines ∧ (slotExpires s).mci = s.mci ∧
    (slotExpires s).ptu = s.ptu ∧ (slotExpires s).sru = s.sru ∧ (slotExpires s).stack = s.stack := by simp only [slotExpires]; (repeat' split) <;> simp
@[simp] theorem reportLoss_frame (sd : Side) (s : State) :
    (reportLoss sd s).pending = s.pending ∧ (reportLoss sd s).freeCount = s.freeCount ∧
    (reportLoss sd s).now = s.now ∧ (reportLoss sd s).powered = s.powered ∧ (reportLoss sd s).lines = s.lines ∧
    (reportLoss sd s).mci = s.mci ∧ (reportLoss sd s).ptu = s.ptu ∧ (reportLoss sd s).sru = s.sru ∧
    (reportLoss sd s).stack = s.stack ∧ (reportLoss sd s).riu = s.riu ∧ (reportLoss sd s).psq = s.psq := by simp only [reportLoss]; (repeat' split) <;> simp
@[simp] theorem lossExpires_frame (m : DisplayModule) (s : State) :
    (lossExpires m s).pending = s.pending ∧ (lossExpires m s).freeCount = s.freeCount ∧
    (lossExpires m s).powered = s.powered ∧ (lossExpires m s).lines = s.lines ∧ (lossExpires m s).mci = s.mci ∧
    (lossExpires m s).ptu = s.ptu ∧ (lossExpires m s).sru = s.sru ∧ (lossExpires m s).stack = s.stack ∧
    (lossExpires m s).riu = s.riu ∧ (lossExpires m s).psq = s.psq := by simp only [lossExpires]; (repeat' split) <;> simp
@[simp] theorem probeExpires_frame (sd : Side) (s : State) :
    (probeExpires sd s).pending = s.pending ∧ (probeExpires sd s).freeCount = s.freeCount ∧
    (probeExpires sd s).powered = s.powered ∧ (probeExpires sd s).lines = s.lines ∧
    (probeExpires sd s).mci = s.mci ∧ (probeExpires sd s).ptu = s.ptu ∧ (probeExpires sd s).sru = s.sru ∧
    (probeExpires sd s).stack = s.stack := by simp only [probeExpires]; (repeat' split) <;> simp
@[simp] theorem holdExpires_frame (sd : Side) (s : State) :
    (holdExpires sd s).pending = s.pending ∧ (holdExpires sd s).freeCount = s.freeCount ∧
    (holdExpires sd s).powered = s.powered ∧ (holdExpires sd s).lines = s.lines ∧
    (holdExpires sd s).cfg = s.cfg ∧ (holdExpires sd s).mci = s.mci ∧ (holdExpires sd s).sides = s.sides ∧
    (holdExpires sd s).ptu = s.ptu ∧ (holdExpires sd s).sru = s.sru ∧ (holdExpires sd s).stack = s.stack ∧
    (holdExpires sd s).lbc = s.lbc ∧ (holdExpires sd s).sli = s.sli ∧ (holdExpires sd s).nvs = s.nvs ∧
    (holdExpires sd s).psq = s.psq := by simp only [holdExpires]; (repeat' split) <;> simp
@[simp] theorem tamperActive_frame (sd : Side) (s : State) :
    (tamperActive sd s).pending = s.pending ∧ (tamperActive sd s).freeCount = s.freeCount ∧
    (tamperActive sd s).now = s.now ∧ (tamperActive sd s).powered = s.powered ∧
    (tamperActive sd s).mci = s.mci ∧ (tamperActive sd s).ptu = s.ptu ∧ (tamperActive sd s).sru = s.sru ∧
    (tamperActive sd s).stack = s.stack := by simp only [tamperActive]; (repeat' split) <;> simp
@[simp] theorem tamperInactive_frame (sd : Side) (s : State) :
    (tamperInactive sd s).pending = s.pending ∧ (tamperInactive sd s).freeCount = s.freeCount ∧
    (tamperInactive sd s).now = s.now ∧ (tamperInactive sd s).powered = s.powered ∧
    (tamperInactive sd s).cfg = s.cfg ∧ (tamperInactive sd s).mci = s.mci ∧
    (tamperInactive sd s).sides = s.sides ∧ (tamperInactive sd s).ptu = s.ptu ∧
    (tamperInactive sd s).sru = s.sru ∧ (tamperInactive sd s).stack = s.stack ∧
    (tamperInactive sd s).lbc = s.lbc ∧ (tamperInactive sd s).riu = s.riu ∧ (tamperInactive sd s).sli = s.sli ∧
    (tamperInactive sd s).nvs = s.nvs ∧ (tamperInactive sd s).psq = s.psq := by simp [tamperInactive]
end Sys2Proof.Machine
end

