-- ==== Sys2Proof/Laws/Store.lean ====
section
/-! SUPPORT. What `beginWrite`, `requestWrite` and `finish` can do: the end of every event (R173, R174, R178). -/

namespace Sys2Proof.Machine

open Sys2Proof

theorem beginWrite_cases (s : State) :
    (beginWrite s = s ∧ (s.nvs.job = none → s.nvs.load = .none → s.nvs.queue = [])) ∨
    (∃ k rest, s.nvs.job = none ∧ s.nvs.load = .none ∧ s.nvs.queue = k :: rest ∧
      beginWrite s =
        s.withNvs { s.nvs with queue := rest, job := some ⟨takeContent s k, s.now + writeTime k⟩ }) := by
  unfold beginWrite
  split
  · rename_i k rest hj hl hq
    exact .inr ⟨k, rest, hj, hl, hq, rfl⟩
  · rename_i h
    refine .inl ⟨rfl, fun hj hl => ?_⟩
    cases hq : s.nvs.queue with
    | nil => rfl
    | cons k rest => exact absurd hq (h k rest hj hl)

/-- With nothing queued no write begins. -/
theorem beginWrite_idle {s : State} (h : s.nvs.job = none → s.nvs.load = .none → s.nvs.queue = []) :
    beginWrite s = s := by
  rcases beginWrite_cases s with ⟨e, -⟩ | ⟨k, rest, hj, hl, hq, -⟩
  · exact e
  · rw [h hj hl] at hq; cases hq

/-- A kind stands in the queue after a request for it. -/
theorem enqueueKind_ne (w : Bool) (k : Kind) (q : List Kind) : enqueueKind w k q ≠ [] := by
  unfold enqueueKind
  split
  · rename_i h; exact List.ne_nil_of_mem h
  · split <;> simp

theorem mem_enqueueKind (w : Bool) (k : Kind) (q : List Kind) : k ∈ enqueueKind w k q := by
  unfold enqueueKind
  split
  · assumption
  · split <;> simp

theorem requestWrite_queue_ne (k : Kind) (s : State) : (requestWrite k s).nvs.queue ≠ [] := by
  simp [requestWrite, enqueueKind_ne]

/-- With a kind queued, the store is not idle once a write may have begun. -/
theorem storeIdle_beginWrite {s : State} (h : s.nvs.queue ≠ []) : storeIdle (beginWrite s) = false := by
  rcases beginWrite_cases s with ⟨e, -⟩ | ⟨k, rest, hj, hl, hq, e⟩
  · rw [e]; simp [storeIdle, h]
  · rw [e]; simp [storeIdle]

/-- An event that leaves a kind queued ends with a write begun, if one may begin. -/
theorem finish_of_queue {s : State} (h : s.nvs.queue ≠ []) : finish s = beginWrite s := by
  simp [finish, storeIdle_beginWrite h]

@[simp] theorem finish_requestWrite (k : Kind) (s : State) :
    finish (requestWrite k s) = beginWrite (requestWrite k s) :=
  finish_of_queue (requestWrite_queue_ne k s)

/-- Nothing is left over in a settled state. -/
theorem finish_eq_of_settled {s : State} (h : s.Settled) : finish s = s := by
  obtain ⟨h1, h2, h3⟩ := h
  have e := beginWrite_idle h1
  unfold finish
  simp only [e]
  by_cases hi : storeIdle s = true
  · have hr : s.restartDraining = false := by
      cases hd : s.restartDraining with
      | false => rfl
      | true => rw [h3 hd] at hi; cases hi
    have hn : s.nightDraining = false := by
      cases hd : s.nightDraining with
      | false => rfl
      | true => rw [h2 hd] at hi; cases hi
    rw [if_pos hi]
    unfold endDrain
    rw [if_neg (by simp [hr])]
    unfold State.nightDraining at hn
    split
    · rename_i r hr'
      rw [hr'] at hn
      simp at hn
      simp [hn]
    · rfl
  · rw [if_neg hi]

/-- A state that differs from a settled one outside the store and the drains is settled. -/
theorem settled_of_eq {s t : State} (h : s.Settled) (hn : t.nvs = s.nvs) (hg : t.psq.night = s.psq.night)
    (hr : t.psq.restart = s.psq.restart) : t.Settled := by
  unfold State.Settled at *
  simp only [State.nightDraining, State.restartDraining, storeIdle, hn, hg, hr] at *
  exact h

/-- `finish` leaves a state as it is that differs from a settled one outside the store and the drains. -/
theorem finish_eq_of_eq {s t : State} (h : s.Settled) (hn : t.nvs = s.nvs) (hg : t.psq.night = s.psq.night)
    (hr : t.psq.restart = s.psq.restart) : finish t = t :=
  finish_eq_of_settled (settled_of_eq h hn hg hr)

end Sys2Proof.Machine
end

