-- ==== Sys2Proof/Laws/Cases.lean ====
section
/-! SUPPORT. For the shared operations that branch: everything each of them can do, said once. -/

namespace Sys2Proof.Machine

open Sys2Proof

/-! ## Sides -/

/-- The side opens to IDLE with an empty lifted list, and to CALLING with its event otherwise. -/
theorem enterOpen_cases (sd : Side) (s : State) :
    (s.lifted sd = [] ∧ enterOpen sd s = s.withSideState sd .idle) ∨
    (s.lifted sd ≠ [] ∧ enterOpen sd s = raise (.call sd) (s.withSideState sd .calling)) := by
  by_cases h : s.lifted sd = []
  · exact .inl ⟨h, by simp [enterOpen, h]⟩
  · exact .inr ⟨h, by simp [enterOpen, enterCalling, h]⟩

/-- A side-open flag that is set is cleared and CONFIG queued; one that is clear leaves all as it is. -/
theorem clearSideOpen_cases (sd : Side) (s : State) :
    (s.cfg.sideOpen.get sd = false ∧ clearSideOpen sd s = s) ∨
    (s.cfg.sideOpen.get sd = true ∧ clearSideOpen sd s =
      requestWrite .config (s.withCfg { s.cfg with sideOpen := s.cfg.sideOpen.set sd false })) := by
  unfold clearSideOpen
  cases s.cfg.sideOpen.get sd
  · exact .inl ⟨rfl, rfl⟩
  · exact .inr ⟨rfl, rfl⟩

/-- A sale before STOPPED is stopped; any other side state is kept. -/
theorem stopSale_cases (sd : Side) (reason : EndReason) (fault : Option Meter) (s : State) :
    (stopSale sd reason fault s = s ∧
      ∀ p ctx, s.sideState sd = .sale p ctx → ∃ e, p = .stopped e) ∨
    (∃ p ctx, s.sideState sd = .sale p ctx ∧ (∀ e, p ≠ .stopped e) ∧
      stopSale sd reason fault s = s.withSideState sd
        (.sale (.stopped ⟨reason, fault, ctx.figures.volume, settleAtEntry s ctx⟩) ctx)) := by
  unfold stopSale
  split
  · rename_i e ctx h
    exact .inl ⟨rfl, fun p c hp => ⟨e, by rw [h] at hp; cases hp; rfl⟩⟩
  · rename_i p ctx hn h
    exact .inr ⟨p, ctx, h, fun e he => hn e (he ▸ rfl), rfl⟩
  · rename_i hn
    exact .inl ⟨rfl, fun p c hp => absurd hp (hn p c)⟩

/-- Only an authorization is tested: the side starts, or its start-blocked reason is renewed. -/
theorem testStart_cases (sd : Side) (s : State) :
    (testStart sd s = s ∧ ∀ a, s.sideState sd ≠ .authorized a) ∨
    (∃ a b, s.sideState sd = .authorized a ∧ startTest s sd a = .wait b ∧
      testStart sd s = s.withSideState sd (.authorized { a with blocked := b })) ∨
    (∃ a h r price, s.sideState sd = .authorized a ∧ startTest s sd a = .start h r price ∧
      testStart sd s = enterStarting sd a h r price s) := by
  unfold testStart
  split
  · rename_i a h
    cases ht : startTest s sd a with
    | wait b => exact .inr (.inl ⟨a, b, h, ht, rfl⟩)
    | start x r price => exact .inr (.inr ⟨a, x, r, price, h, ht, rfl⟩)
  · rename_i hn
    exact .inl ⟨rfl, fun a h => hn a h⟩

/-- Only a sale in STOPPED is completed. -/
theorem completeSale_cases (sd : Side) (s : State) :
    (completeSale sd s = s ∧ ∀ e ctx, s.sideState sd ≠ .sale (.stopped e) ctx) ∨
    (∃ e ctx, s.sideState sd = .sale (.stopped e) ctx ∧
      completeSale sd s = afterCompletion sd e ctx (raise (.done sd) (resetStrays sd (recordSale sd e ctx s)))) := by
  unfold completeSale
  split
  · rename_i e ctx h
    exact .inr ⟨e, ctx, h, rfl⟩
  · rename_i hn
    exact .inl ⟨rfl, fun e ctx h => hn e ctx h⟩

/-- The side after completion: CLOSED for a latched fault or a closure, else open. -/
theorem afterCompletion_cases (sd : Side) (e : Ended) (ctx : Sale) (s : State) :
    (∃ r, (e.reason.latched = some r ∨ (e.reason.latched = none ∧ ctx.closureAfter = some r)) ∧
      afterCompletion sd e ctx s = enterClosed sd r s) ∨
    (e.reason.latched = none ∧ ctx.closureAfter = none ∧
      afterCompletion sd e ctx s = handPanel sd (enterOpen sd s)) := by
  unfold afterCompletion
  cases h : e.reason.latched with
  | some r => exact .inl ⟨r, .inl rfl, rfl⟩
  | none =>
    cases hc : ctx.closureAfter with
    | some r => exact .inl ⟨r, .inr ⟨rfl, rfl⟩, rfl⟩
    | none => exact .inr ⟨rfl, rfl, rfl⟩

/-- The record that completion builds is the whole record under the present sequence number. -/
theorem buildRecord_eq_recordOf (s : State) (sd : Side) (e : Ended) (ctx : Sale) :
    buildRecord s sd e ctx = s.recordOf sd s.sru.seq e ctx := by
  cases h : ctx.secondary <;> simp [buildRecord, State.recordOf, h, elapsedSeconds, seconds]

/-! ## Prices and the site line -/

/-- The counter goes up, or the overflow flag becomes set, or stays set; the total goes up in any case. -/
theorem countError_cases (s : State) :
    (s.sli.errors < s.cfg.thresholds.site ∧ countError s = s.withSli { s.sli with
      errors := s.sli.errors + 1, frameErrors := wrap32 (s.sli.frameErrors + 1) }) ∨
    (s.cfg.thresholds.site ≤ s.sli.errors ∧
      countError s = setOverflow (s.withSli { s.sli with frameErrors := wrap32 (s.sli.frameErrors + 1) })) := by
  by_cases h : s.sli.errors < s.cfg.thresholds.site
  · exact .inl ⟨h, by simp [countError, State.withSli, h]⟩
  · exact .inr ⟨Nat.le_of_not_lt h, by simp [countError, State.withSli, h]⟩

/-- While a reply is being sent the line settings wait for its end; else they follow the configuration, and a change
of speed alone moves the receiver. -/
theorem syncLine_cases (s : State) :
    (s.sli.tx.isSending = true ∧ syncLine s = s) ∨
    (s.sli.tx.isSending = false ∧ s.cfg.speed = s.sli.line.speed ∧
      syncLine s = s.withSli { s.sli with line := ⟨s.cfg.address, s.cfg.group, s.cfg.speed⟩ }) ∨
    (s.sli.tx.isSending = false ∧ s.cfg.speed ≠ s.sli.line.speed ∧
      syncLine s = s.withSli { s.sli with
        line := ⟨s.cfg.address, s.cfg.group, s.cfg.speed⟩, rx := .waitQuiet }) := by
  cases ht : s.sli.tx.isSending
  · by_cases hs : s.cfg.speed = s.sli.line.speed
    · exact .inr (.inl ⟨rfl, hs, by simp [syncLine, ht, hs]⟩)
    · exact .inr (.inr ⟨rfl, hs, by simp [syncLine, ht, hs]⟩)
  · exact .inl ⟨rfl, by simp [syncLine, ht]⟩

/-- Only the end of a reply to an accepted SET_LINE moves the receiver, and it does so once. -/
theorem quietAfterReply_cases (s : State) :
    ((s.sli.quietAfter = false ∨ s.sli.tx.isSending = true) ∧ quietAfterReply s = s) ∨
    (s.sli.quietAfter = true ∧ s.sli.tx.isSending = false ∧
      quietAfterReply s = s.withSli { s.sli with quietAfter := false, rx := .waitQuiet }) := by
  cases hq : s.sli.quietAfter <;> cases ht : s.sli.tx.isSending <;> simp [quietAfterReply, hq, ht]

/-! ## Meters -/

/-- A free pulse is counted; the one that is due brings the report, which acts on the owning side where there is
one. -/
theorem freePulse_cases (m : Meter) (s : State) :
    (strayDue (s.cfg.meters.get m).sa (s.channel m) = false ∧
      freePulse m s = s.withChannel m (countStray false (s.channel m))) ∨
    (strayDue (s.cfg.meters.get m).sa (s.channel m) = true ∧ owningSide s.cfg.hoses m = none ∧
      freePulse m s = raise .strayFlow (s.withChannel m (countStray true (s.channel m)))) ∨
    (∃ sd, strayDue (s.cfg.meters.get m).sa (s.channel m) = true ∧ owningSide s.cfg.hoses m = some sd ∧
      freePulse m s = takeStray sd m (raise .strayFlow (s.withChannel m (countStray true (s.channel m))))) := by
  cases hd : strayDue (s.cfg.meters.get m).sa (s.channel m)
  · exact .inl ⟨rfl, by simp [freePulse, hd]⟩
  · cases ho : owningSide s.cfg.hoses m with
    | none => exact .inr (.inl ⟨rfl, rfl, by simp [freePulse, hd, ho]⟩)
    | some sd => exact .inr (.inr ⟨sd, rfl, rfl, by simp [freePulse, hd, ho]⟩)

/-- A report is due only as the count leaves Sa, and a reset alone makes another one due (R12). -/
theorem strayDue_countStray (sa : Nat) (c : Channel) (h : strayDue sa c = true) :
    c.stray = sa ∧ c.strayTold = false ∧ ∀ sb, strayDue sb (countStray true c) = false := by
  simp only [strayDue, Bool.and_eq_true, beq_iff_eq, Bool.not_eq_true'] at h
  exact ⟨h.1, h.2, fun sb => by simp [strayDue, countStray]⟩

/-! ## Store and power -/

/-- `finish` begins a write that may begin; with nothing left to write an ended drain is acted on. -/
theorem finish_cases (s : State) :
    (storeIdle (beginWrite s) = false ∧ finish s = beginWrite s) ∨
    (storeIdle (beginWrite s) = true ∧ finish s = endDrain (beginWrite s)) := by
  unfold finish
  cases h : storeIdle (beginWrite s)
  · exact .inl ⟨rfl, by simp [h]⟩
  · exact .inr ⟨rfl, by simp [h]⟩

/-- What the end of a drain is: a sequence for a restart, the entry to NIGHT for a drain of the night, nothing
else. -/
theorem endDrain_cases (s : State) :
    (s.restartDraining = true ∧ endDrain s = beginSequence .restart true s) ∨
    (∃ r, s.restartDraining = false ∧ s.psq.night = some r ∧ r.draining = true ∧ endDrain s = enterNight r s) ∨
    (s.restartDraining = false ∧ s.nightDraining = false ∧ endDrain s = s) := by
  unfold endDrain State.nightDraining
  cases hr : s.restartDraining
  · cases hn : s.psq.night with
    | none => exact .inr (.inr ⟨rfl, by simp, by simp⟩)
    | some r =>
      cases hd : r.draining
      · exact .inr (.inr ⟨rfl, by simp [hd], by simp [hd]⟩)
      · exact .inr (.inl ⟨r, rfl, rfl, hd, by simp [hd]⟩)
  · exact .inl ⟨rfl, by simp⟩

/-- READY comes in READERS alone, with no reader in PROBING. -/
theorem readyCheck_cases (s : State) :
    (readyCheck s = s) ∨
    (s.psq.mode = .poweringUp .readers ∧ (∀ sd, (s.reader sd).state ≠ .probing) ∧ readyCheck s = ready s) := by
  unfold readyCheck
  split
  · rename_i h
    exact .inr ⟨h.1, fun sd => by cases sd <;> simp [h.2.1, h.2.2], rfl⟩
  · exact .inl rfl

/-! ## Requests -/

/-- A request in a mode its kind does not allow is counted; one that is allowed is admitted. -/
theorem takeRequest_cases (m : AddrMode) (k : ReqKind) (owner : State → Answered) (s : State) :
    (k.allows m = true ∧ takeRequest m k owner s = admitRequest m k owner s) ∨
    (k.allows m = false ∧ takeRequest m k owner s = countModeReject s) := by
  unfold takeRequest
  cases k.allows m
  · exact .inr ⟨rfl, rfl⟩
  · exact .inl ⟨rfl, rfl⟩

/-- An admitted request is served by its owner, answered by the sequencer, or not acted on. -/
theorem admitRequest_cases (m : AddrMode) (k : ReqKind) (owner : State → Answered) (s : State) :
    (admission k (confirmWake m s) = .serve ∧
      admitRequest m k owner s = serveRequest m k owner (confirmWake m s)) ∨
    (∃ r, admission k (confirmWake m s) = .answer r ∧
      admitRequest m k owner s = serveRequest m k (refuse r) (confirmWake m s)) ∨
    (admission k (confirmWake m s) = .silent ∧ admitRequest m k owner s = confirmWake m s) := by
  unfold admitRequest
  cases h : admission k (confirmWake m s) with
  | serve => exact .inl ⟨rfl, by simp [h]⟩
  | answer r => exact .inr (.inl ⟨r, rfl, by simp [h]⟩)
  | silent => exact .inr (.inr ⟨rfl, by simp [h]⟩)

end Sys2Proof.Machine
end

