-- ==== Sys2Proof/Tests/Slice0.lean ====
section
/-! SUPPORT. The model's own tests. Expected values come from the spec's worked examples and tables, or are
worked out by hand from its rules; each comment says which. Below them, for each statement with hypotheses, a
witness that they can be met. -/

namespace Sys2Proof.Tests

set_option Elab.async false

open Sys2Proof Sys2Proof.Machine

/-! ## Small states -/

/-- A field of the next state of an outcome. -/
def look {α : Type} (f : State → α) : Host.Outcome State Fault Refusal → Option α
  | .next s => some (f s)
  | .fault _ => none
  | .refused _ => none

/-- Every grade at 1859 on both levels. -/
def prices : PriceTable :=
  ⟨⟨1859, 1859⟩, ⟨1859, 1859⟩, ⟨1859, 1859⟩, ⟨1859, 1859⟩, ⟨1859, 1859⟩, ⟨1859, 1859⟩, ⟨1859, 1859⟩, ⟨1859, 1859⟩⟩

/-- A part in RUN: sides IDLE, prices at generation 412, modules PRESENT, the store settled, address 7. -/
def inRun : State :=
  { State.reset with
    cfg := { Cfg.default with address := 7, group := 2, sideOpen := ⟨true, true⟩ }
    sides := ⟨⟨.idle, [], 0, .none⟩, ⟨.idle, [], 0, .none⟩⟩
    ptu := ⟨prices, 412, none, false⟩
    lbc := { Lbc.cold with modules := ⟨⟨⟨true, some 1000⟩, ⟨true, some 1000⟩⟩, ⟨⟨true, some 1000⟩, ⟨true, some 1000⟩⟩⟩ }
    sli := { Sli.cold with line := ⟨7, 2, .s19200⟩, rx := .hunt }
    nvs := { Nvs.blank with load := .none, current := some (.m1, 5208) }
    psq := { Psq.cold with mode := .run, displayDemand := true } }

def withA (st : SideState) (l : List Hose) (s : State) : State := s.withSide .a ⟨st, l, 0, .none⟩

/-- The authorization of sale 731 for position 2, prepaid 5000 (03 section 3.12). -/
def auth731 : Auth := ⟨731, ⟨false, true, false, false⟩, .l1, .amount 5000, some 120000, .none⟩

/-- The sale context of 731 at its STARTING entry on hose 2, position 2, grade 2, meter M2. -/
def sale731 : Sale := startContext inRun .a auth731 .h2 ⟨.a, .p2, .g2, .m2, none⟩ 1859

/-- The sale with H pulses counted and priced. -/
def saleAt (high : Nat) : Sale :=
  let ctx := { sale731 with primaryCt := { sale731.primaryCt with net := high, high := high } }
  { ctx with figures := renewedFigures inRun.cfg ctx }

def fuelling (high : Nat) : State := withA (.sale (.fuelling 60000) (saleAt high)) [.h2] inRun

def stoppedWith (e : Ended) (high : Nat) : State := withA (.sale (.stopped e) (saleAt high)) [] inRun

/-- The bytes of the reply in waiting. -/
def replyOf (s : State) : List Byte :=
  match s.sli.tx with
  | .waiting r _ => r
  | _ => []

/-- The result byte of the reply in waiting: after start, address, port, length and code. -/
def resultOf (s : State) : Byte := (replyOf s).getD 5 0xFF#8

/-! ## WellFormed: one ill-formed term for each check -/

theorem test_wf_clearEvents : (Instr.clearEvents .unicast 65536).wellFormed = false := by decide
theorem test_wf_authorize : (Instr.authorize .unicast 1 1 1 1 1 16777216).wellFormed = false := by decide
theorem test_wf_suspend : (Instr.suspend .unicast 256).wellFormed = false := by decide
theorem test_wf_resume : (Instr.resume .unicast 256).wellFormed = false := by decide
theorem test_wf_stop : (Instr.stop .unicast 256).wellFormed = false := by decide
theorem test_wf_clearSale : (Instr.clearSale .unicast 1 65536).wellFormed = false := by decide
theorem test_wf_readSale : (Instr.readSale .unicast 1 256 1).wellFormed = false := by decide
theorem test_wf_readLive : (Instr.readLive .unicast 256).wellFormed = false := by decide
theorem test_wf_stagePrice : (Instr.stagePrice .unicast 1 1 16777216).wellFormed = false := by decide
theorem test_wf_commitPrices : (Instr.commitPrices .unicast 65536 1).wellFormed = false := by decide
theorem test_wf_replacePrice : (Instr.replacePrice .unicast 1 256 0 0).wellFormed = false := by decide
theorem test_wf_enterNight : (Instr.enterNight .unicast 65536).wellFormed = false := by decide
theorem test_wf_setAddress : (Instr.setAddress .unicast 256 0).wellFormed = false := by decide
theorem test_wf_setLine : (Instr.setLine .unicast 256).wellFormed = false := by decide
theorem test_wf_setHose : (Instr.setHose .unicast 1 1 1 1 1 1 256).wellFormed = false := by decide
theorem test_wf_setMeter : (Instr.setMeter .unicast 1 0 100 32768 0 0 1).wellFormed = false := by decide
theorem test_wf_setScale : (Instr.setScale .unicast 2 3 2 256).wellFormed = false := by decide
theorem test_wf_setTimers :
    (Instr.setTimers .unicast ⟨0, 65536, 10, 10, 200, 200, 5, 10⟩).wellFormed = false := by decide
theorem test_wf_setThresholds : (Instr.setThresholds .unicast 65536 1 1 0 0).wellFormed = false := by decide
theorem test_wf_setRoute : (Instr.setRoute .unicast 1 1 1 0 256 1 1).wellFormed = false := by decide
theorem test_wf_clearRoute : (Instr.clearRoute .unicast 256).wellFormed = false := by decide
theorem test_wf_readRoute : (Instr.readRoute .unicast 256).wellFormed = false := by decide
theorem test_wf_setWake :
    (Instr.setWake .unicast ⟨0, 0, 256, 0, 0, 0, 0, 0, 0, 0, 0, 0, 0, 0, 0, 0⟩).wellFormed = false := by decide
theorem test_wf_openSide : (Instr.openSide .unicast 256).wellFormed = false := by decide
theorem test_wf_closeSide : (Instr.closeSide .unicast 256).wellFormed = false := by decide
theorem test_wf_readerAttach : (Instr.readerAttach .unicast 256).wellFormed = false := by decide
theorem test_wf_readerIsolate : (Instr.readerIsolate .unicast 256).wellFormed = false := by decide
theorem test_wf_readConfig : (Instr.readConfig .unicast 1 256).wellFormed = false := by decide
theorem test_wf_readJournal : (Instr.readJournal .unicast 256).wellFormed = false := by decide
theorem test_wf_tunnel : (Instr.tunnel .unicast .a []).wellFormed = false := by decide
theorem test_wf_siteFrame : (Instr.siteFrame 0 0 (List.replicate 121 0) 0).wellFormed = false := by decide +kernel
theorem test_wf_localAnswer :
    (Instr.localAnswer (.frame 0 (List.replicate 256 0) 0)).wellFormed = false := by decide +kernel

/-! ## Formats (chapter 12) -/

/-- R199's test value over "123456789". -/
theorem test_crc_value :
    crc16 [0x31, 0x32, 0x33, 0x34, 0x35, 0x36, 0x37, 0x38, 0x39] = 0x29B1#16 := by decide +kernel

/-- R199: a unicast POLL to address 7 begins 0xD5, 0x07, 0x00, 0x01, 0x01. -/
theorem test_poll_frame : (siteFrame 7 0 (requestPayload .poll (.poll .unicast))).take 5 =
    [0xD5, 0x07, 0x00, 0x01, 0x01] := by decide +kernel

/-- R200: AUTHORIZE side A, sale 731, position 2, level 1, AMOUNT 5000, byte by byte. -/
theorem test_decode_authorize :
    decodeRequest .unicast 0 [0x03, 0x01, 0x02, 0xDB, 0x02, 0x01, 0x01, 0x00, 0x13, 0x88] =
      some (.authorize .unicast 1 731 2 1 1 5000) := by decide

/-- R200: SET_METER M3, QUAD, K 100, T -40 (two's complement 0xFFD8), Ra 20, Sa 10, Fmax 2000. -/
theorem test_decode_setMeter :
    decodeRequest .unicast 3 [0x24, 0x03, 0x00, 0x00, 0x64, 0xFF, 0xD8, 0x14, 0x0A, 0x07, 0xD0] =
      some (.setMeter .unicast 3 0 100 (-40) 20 10 2000) := by decide

/-- R148: READ_IDENT sent on port 0 is unknown; R200: a wrong length is no request. -/
theorem test_decode_unknown : readKind 0 [0x20] = .unknown 0x20 ∧ decodeRequest .unicast 0 [0x02, 0x00] = none := by
  decide

/-- R200: ports 1 and 2 carry tunnel frames and fetches. -/
theorem test_decode_tunnel :
    decodeRequest .unicast 1 [0x42, 0x00] = some (.tunnel .unicast .a [0x42, 0x00]) ∧
    decodeRequest .unicast 2 [] = some (.fetch .unicast .b) := by decide

/-- R201: STATUS is 29 bytes, READ_LIVE 15, READ_PRICES 99, READ_COUNTERS 84; the two READ_TOTALS payloads
are 115 and 37 bytes with their code and result. -/
theorem test_reply_lengths :
    (statusBytes inRun).length = 29 ∧ (mirrorBytes .a (liveMirror inRun .a)).length = 15 ∧
    (ownReadPrices inRun).data.length = 99 ∧ (counterBytes inRun).length = 84 ∧
    (totalsPart1 inRun.sru).length = 113 ∧ (totalsPart2Bytes inRun.sru).length = 35 := by decide +kernel

/-- Table 6.1: V = 4031 and V = 5 at two decimals, A = 120 at none, P = 120 at three. -/
theorem test_figure_fields :
    figureField 6 2 4031 = [0x0A, 0x0A, 0x04, 0x80, 0x03, 0x01] ∧
    figureField 6 2 5 = [0x0A, 0x0A, 0x0A, 0x80, 0x00, 0x05] ∧
    figureField 6 0 120 = [0x0A, 0x0A, 0x0A, 0x01, 0x02, 0x00] ∧
    figureField 5 3 120 = [0x0A, 0x80, 0x01, 0x02, 0x00] := by decide +kernel

/-! ## Arithmetic (the worked cases of 02 section 2.10) -/

/-- Case 1. -/
theorem test_case1 :
    meterVolume ⟨.quad, 100, 25, 20, 10, 2000⟩ 4021 = 40310 ∧ displayUnits .default 40310 = 4031 ∧
    amountOf .default 4031 1859 = 7494 ∧ amountOf ⟨2, 3, 2, .down⟩ 4031 1859 = 7493 := by decide +kernel

/-- Case 2. -/
theorem test_case2 :
    meterVolume ⟨.quad, 100, 0, 20, 10, 2000⟩ 1250 = 12500 ∧
    meterVolume ⟨.quad, 120, -40, 20, 10, 2000⟩ 1800 = 14940 ∧ amountOf .default 2744 1699 = 4662 := by
  decide +kernel

/-- Case 3: the thresholds, and the results at V = 2639, 2640, 2690. -/
theorem test_case3 :
    slowThreshold .default 500 1859 (.amount 5000) = some 4908 ∧
    (renewedFigures inRun.cfg (saleAt 2639)).last = .clear ∧
    (renewedFigures inRun.cfg (saleAt 2640)).last = .slow ∧
    (renewedFigures inRun.cfg (saleAt 2690)).last = .limit := by decide +kernel

/-- Case 4. -/
theorem test_case4 :
    (pricedFigures (startFigures ⟨3, 3, 0, .halfUp⟩ 500 120 0 .none) 120 1000004 0).volume = 999999 ∧
    (pricedFigures (startFigures ⟨3, 3, 0, .halfUp⟩ 500 120 0 .none) 120 1000004 0).amount = 120 ∧
    classifyFigures .none (pricedFigures (startFigures ⟨3, 3, 0, .halfUp⟩ 500 120 0 .none) 120 1000004 0) =
      .saturated := by decide +kernel

/-! ## Requests of port 0 -/

/-- R150: the mode and the cause in STATUS. -/
theorem test_poll : look (fun s => (replyOf s).drop 4 |>.take 4) (exec (.poll .unicast) inRun) =
    some [0x81, 0x00, 0x02, 0x01] := by decide +kernel

/-- R153: a cleared event whose cause persists is raised again. -/
theorem test_clearEvents : look (fun s => s.sli.events)
    (exec (.clearEvents .unicast 0xFFFF)
      { inRun with
        nvs := { inRun.nvs with condition := .lost }
        sli := { inRun.sli with events := 0x1003#16 } }) = some 0x1000#16 := by decide +kernel

/-- R153 as log 43 reads it: a named flag that was clear is raised while its cause persists. -/
theorem test_clearEvents_clear : look (fun s => s.sli.events)
    (exec (.clearEvents .unicast 0x0200) { inRun with lines := { Lines.reset with tamper := ⟨true, false⟩ } }) =
    some 0x0200#16 := by decide +kernel

/-- Table 3.3, 4.20 s: AUTHORIZE with hose 2 lifted starts at once. -/
theorem test_authorize_starts : look (fun s => (s.sideState .a).num)
    (exec (.authorize .unicast 1 731 2 1 1 5000) (withA .calling [.h2] inRun)) = some 4 := by decide +kernel

/-- R40 check 3 before check 5: a sale in progress answers STATE to a sale id of 0. -/
theorem test_authorize_state : look resultOf
    (exec (.authorize .unicast 1 0 0 0 0 0) (fuelling 10)) = some 0x02#8 := by decide +kernel

/-- R51. -/
theorem test_suspend : look (fun s => (s.sideState .a).num) (exec (.suspend .unicast 1) (fuelling 10)) =
    some 7 := by decide +kernel

/-- R52: past the slow threshold RESUME goes to SLOWING. -/
theorem test_resume : look (fun s => (s.sideState .a).num)
    (exec (.resume .unicast 1) (withA (.sale (.suspended 300000) (saleAt 2640)) [.h2] inRun)) = some 6 := by
  decide +kernel

/-- R43: a broadcast STOP for both sides is acted on and not answered. -/
theorem test_stop : look (fun s => ((s.sideState .a).num, s.sli.tx))
    (exec (.stop .broadcast 3) (fuelling 10)) = some (8, .idle) := by decide +kernel

/-- The record of 732 in 05 section 5.9, on stack A. -/
def record117 : SaleRecord :=
  { seq := 117, saleId := 732, side := .a, hose := .h2, position := .p2, grade := .g3, level := .l1,
    price := 1859, generation := 412, limit := .none, volume := 1500, amount := 2789, high := 1500,
    reverse := 0, secondary := none, overrun := 0, endReason := .nozzleHung, faultMeter := none,
    saturated := false, scale := .default, duration := 60 }

def stacked : State :=
  { inRun with stack := ⟨[record117], []⟩, sru := { Metrology.lost with journal := [⟨record117, false⟩], seq := 118 } }

/-- Table 5.2: the clearing empties the stack, pays the journal copy and begins the METROLOGY write. -/
theorem test_clearSale :
    look (fun s => (s.stack.a, s.sru.journal.map JournalEntry.paid, s.nvs.job.isSome))
      (exec (.clearSale .unicast 1 732) stacked) = some ([], [true], true) := by decide +kernel

/-- Table 5.2: a repeated clearing is NOT_FOUND. -/
theorem test_clearSale_again : look resultOf (exec (.clearSale .unicast 1 732) inRun) = some 0x08#8 := by
  decide +kernel

/-- R201: a record is 51 bytes. -/
theorem test_readSale : look (fun s => (replyOf s).length) (exec (.readSale .unicast 1 1 1) stacked) =
    some (51 + 8) := by decide +kernel

/-- R32: the hose and V of a running sale. -/
theorem test_readLive : look (fun s => (replyOf s).drop 6 |>.take 6) (exec (.readLive .unicast 1) (fuelling 2640)) =
    some [0x01, 0x05, 0x02, 0x00, 0x0A, 0x50] := by decide +kernel

/-- R76: no staged table is sent as zeros with its flags clear. -/
theorem test_readPrices : look (fun s => (replyOf s).drop 54 |>.take 6) (exec (.readPrices .unicast) inRun) =
    some [0x01, 0x9C, 0x00, 0x00, 0x00, 0x00] := by decide +kernel

/-- R71: the staged table is a copy of the active one. -/
theorem test_stagePrice : look (fun s => s.ptu.staged.map fun t => (t.entry .g3 .l1, t.entry .g1 .l1))
    (exec (.stagePrice .broadcast 3 1 1899) inRun) = some (some (1899, 1859)) := by decide +kernel

def staged : State :=
  { inRun with ptu := ⟨prices, 412, some (prices.withEntry .g3 .l1 1899), false⟩ }

/-- Table 4.5: the commit moves the generation and removes the staged table. -/
theorem test_commitPrices :
    look (fun s => (s.ptu.generation, s.ptu.active.entry .g3 .l1, s.ptu.staged))
      (exec (.commitPrices .broadcast 412 1) staged) = some (413, 1899, none) := by decide +kernel

/-- R72: another generation is STALE. -/
theorem test_commitPrices_stale : look resultOf (exec (.commitPrices .unicast 411 1) staged) = some 0x06#8 := by
  decide +kernel

/-- R74: a withdrawn entry, and the generation. -/
theorem test_replacePrice : look (fun s => (s.ptu.generation, s.ptu.active.entry .g3 .l1))
    (exec (.replacePrice .group 3 1 1859 0) inRun) = some (413, 0) := by decide +kernel

/-- R75. -/
theorem test_discardStaged : look (fun s => s.ptu.staged) (exec (.discardStaged .broadcast) staged) =
    some none := by decide +kernel

/-- R184, R185: a broadcast ENTER_NIGHT with nothing to write is in NIGHT at once, 8 hours ahead. -/
theorem test_enterNight : look (fun s => (s.psq.mode, s.psq.wakeTimer))
    (exec (.enterNight .broadcast 480) inRun) = some (.night, some 28800000) := by decide +kernel

/-- R184: the unicast form waits for its reply. -/
theorem test_enterNight_unicast : look (fun s => (s.psq.mode, s.psq.night))
    (exec (.enterNight .unicast 65535) inRun) = some (.run, some ⟨some 1440, false⟩) := by decide +kernel

/-! ## Requests of ports 1, 2 and 3 -/

/-- R160: product code and design revision. -/
theorem test_readIdent : look (fun s => (replyOf s).drop 6 |>.take 3) (exec (.readIdent .unicast) inRun) =
    some [0x04, 0x20, 0x01] := by decide +kernel

/-- R161: the reply goes out with the old address. -/
theorem test_setAddress : look (fun s => (s.cfg.address, s.sli.line.address, (replyOf s).getD 1 0))
    (exec (.setAddress .unicast 9 2) inRun) = some (9, 7, 7) := by decide +kernel

/-- R161: address 0 cannot be set. -/
theorem test_setAddress_zero : look resultOf (exec (.setAddress .unicast 0 2) inRun) = some 0x03#8 := by
  decide +kernel

/-- R162. -/
theorem test_setLine : look (fun s => (s.cfg.speed, s.sli.line.speed, s.sli.quietAfter))
    (exec (.setLine .unicast 3) inRun) = some (.s57600, .s19200, true) := by decide +kernel

/-- R162: the reply to an accepted SET_LINE ends in WAIT_QUIET, also where the speed is the one in use. -/
theorem test_setLine_same : look (fun s => (s.sli.rx, s.sli.quietAfter, s.sli.line.speed))
    (exec .replySent { inRun with sli := { inRun.sli with tx := .sending [1] none, rx := .hunt, quietAfter := true } }) =
    some (.waitQuiet, false, .s19200) := by decide +kernel

def bothClosed : State := { inRun with sides := ⟨⟨.closed .management, [.h4], 0, .none⟩, ⟨.closed .management, [], 0, .none⟩⟩
                                       lines := { Lines.reset with nozzle := { Lines.reset.nozzle with h4 := true } } }

/-- R38, R164: a lifted hose that moves joins the other side's list. -/
theorem test_setHose : look (fun s => (s.lifted .a, s.lifted .b))
    (exec (.setHose .unicast 4 1 2 4 4 6 0) { bothClosed with
      cfg := { bothClosed.cfg with hoses := { bothClosed.cfg.hoses with h8 := none } } }) =
    some ([], [.h4]) := by decide +kernel

/-- R164 check 4: M3 is on side A. -/
theorem test_setHose_shared : look resultOf
    (exec (.setHose .unicast 8 1 2 4 4 3 0) bothClosed) = some 0x03#8 := by decide +kernel

/-- R1, R165: the owning side is not CLOSED. -/
theorem test_setMeter : look resultOf (exec (.setMeter .unicast 3 0 100 0 20 10 2000) inRun) = some 0x02#8 := by
  decide +kernel

/-- R20: dv 2, dp 0, da 3 has a negative exponent. -/
theorem test_setScale : look resultOf (exec (.setScale .unicast 2 0 3 0) bothClosed) = some 0x03#8 := by
  decide +kernel

/-- R166: an authorization timeout of 1..9 s is refused. -/
theorem test_setTimers : look resultOf
    (exec (.setTimers .unicast ⟨9, 1000, 60, 300, 500, 1000, 30, 60⟩) inRun) = some 0x03#8 := by decide +kernel

/-- R145: a lowered threshold brings the counter to it and keeps the flag. -/
theorem test_setThresholds : look (fun s => (s.sli.errors, s.sli.overflow))
    (exec (.setThresholds .unicast 500 16 4 0 0) { inRun with sli := { inRun.sli with errors := 9, overflow := true } }) =
    some (4, true) := by decide +kernel

/-- R123 check 3: a site range that holds the code of FIGURES. -/
theorem test_setRoute : look resultOf (exec (.setRoute .unicast 3 1 1 3 9 96 1) inRun) = some 0x03#8 := by
  decide +kernel

/-- R123: a row in use becomes clear. -/
theorem test_clearRoute : look (fun s => (s.cfg.routes.getD 0 clearRow).inUse)
    (exec (.clearRoute .unicast 1) inRun) = some false := by decide +kernel

/-- R120, R201: the default row 2. -/
theorem test_readRoute : look (fun s => (replyOf s).drop 6 |>.take 7) (exec (.readRoute .unicast 2) inRun) =
    some [2, 1, 4, 1, 1, 2, 2] := by decide +kernel

/-- R168: a SET_WAKE clears the armed flag. -/
theorem test_setWake : look (fun s => (s.cfg.wake.armed, s.cfg.wake.port))
    (exec (.setWake .unicast ⟨7, 0xFF, 0, 1, 0xFF, 0xFF, 0, 0, 0, 0, 0, 0, 0, 0, 0, 1⟩)
      { inRun with cfg := { inRun.cfg with wake := { Wake.default with armed := true } } }) =
    some (false, some 0) := by decide +kernel

/-- R168. -/
theorem test_armWake : look (fun s => s.cfg.wake.armed) (exec (.armWake .unicast) inRun) = some true := by
  decide +kernel

/-- R62: an opened side with a lifted hose calls. -/
theorem test_openSide : look (fun s => ((s.sideState .a).num, s.cfg.sideOpen.a, s.sli.events))
    (exec (.openSide .unicast 1) { bothClosed with cfg := { bothClosed.cfg with sideOpen := ⟨false, false⟩ } }) =
    some (2, true, 1#16) := by decide +kernel

/-- R61: CLOSE_SIDE during a sale stops it and closes at completion. -/
theorem test_closeSide : look (fun s => ((s.sideState .a).num, ((s.sideState .a).sale?).bind Sale.closureAfter))
    (exec (.closeSide .unicast 1) (fuelling 10)) = some (8, some .management) := by decide +kernel

/-- R136: a tampered line is answered TAMPER_ACTIVE. -/
theorem test_readerAttach : look resultOf
    (exec (.readerAttach .unicast 1) { inRun with lines := { Lines.reset with tamper := ⟨true, false⟩ } }) =
    some 0x0D#8 := by decide +kernel

def attachedA : State := inRun.withReader .a { ReaderRec.cold with state := .attached, err := 5, up := [[0x41]], down := [[0x45]] }

/-- R119, R137: both queues are flushed and counted. -/
theorem test_readerIsolate : look (fun s => ((s.reader .a).state, (s.reader .a).flushed, (s.reader .a).up))
    (exec (.readerIsolate .unicast 1) attachedA) = some (.off .isolated, 2, []) := by decide +kernel

/-- R169: section LINE. -/
theorem test_readConfig : look (fun s => (replyOf s).drop 6 |>.take 3) (exec (.readConfig .unicast 1 0) inRun) =
    some [7, 2, 1] := by decide +kernel

/-- R96: the paid flag is bit 4 of the flags byte; the newest record has index 0. -/
theorem test_readJournal : look (fun s => (replyOf s).getD (6 + 47) 0)
    (exec (.readJournal .unicast 0)
      { inRun with sru := { Metrology.lost with journal := [⟨record117, true⟩] } }) = some 0x10#8 := by
  decide +kernel

/-- R201: READ_TOTALS has a second frame. -/
theorem test_readTotals : look (fun s => match s.sli.tx with | .waiting r (some q) => (r.getD 6 0, q.getD 6 0) | _ => (0, 0))
    (exec (.readTotals .unicast) inRun) = some (1, 2) := by decide +kernel

/-- R156. -/
theorem test_readCounters : look (fun s => (replyOf s).drop 6 |>.take 4)
    (exec (.readCounters .unicast) { inRun with sli := { inRun.sli with frameErrors := 118 } }) =
    some [0, 0, 0, 118] := by decide +kernel

/-- R170: with a sale running RESTART is refused. -/
theorem test_restart : look resultOf (exec (.restart .unicast) (fuelling 10)) = some 0x02#8 := by decide +kernel

def tunnelOpen : State :=
  { attachedA with cfg := { inRun.cfg with routes := inRun.cfg.routes.set 2 ⟨true, .site .a, 0x40, 0x7F, 96, .forward⟩ } }

/-- Table 7.2: a forwarded code is ACCEPTED and queued. -/
theorem test_tunnel : look (fun s => (resultOf s, (s.reader .a).down))
    (exec (.tunnel .unicast .a [0x42, 0x00]) tunnelOpen) = some (0x11, [[0x45], [0x42, 0x00]]) := by decide +kernel

/-- R124: no row, NO_ROUTE. -/
theorem test_tunnel_noRoute : look resultOf (exec (.tunnel .unicast .a [0x90]) tunnelOpen) = some 0x0E#8 := by
  decide +kernel

/-- R126: the oldest frame is returned and leaves. -/
theorem test_fetch : look (fun s => ((replyOf s).drop 6 |>.take 5, (s.reader .a).up))
    (exec (.fetch .unicast .a) attachedA) = some ([2, 0, 0, 1, 0x41], []) := by decide +kernel

/-! ## Site line -/

/-- R143: a start byte in HUNT begins a frame. -/
theorem test_siteCharacter : look (fun s => s.sli.rx) (exec (.siteCharacter (.byte 0xD5)) inRun) =
    some (.frame []) := by decide +kernel

/-- Table 8.3: the fifth damaged frame sets the flag at a threshold of 4. -/
theorem test_siteCharacter_overflow : look (fun s => (s.sli.errors, s.sli.overflow, s.sli.frameErrors, s.sli.events))
    (exec (.siteCharacter .parityError) { inRun with
      cfg := { inRun.cfg with thresholds := ⟨500, 16, 4, ⟨false, false⟩⟩ }
      sli := { inRun.sli with errors := 4, frameErrors := 117 } }) = some (4, true, 118, 0x8000#16) := by
  decide +kernel

/-- R143. -/
theorem test_lineQuiet : look (fun s => s.sli.rx)
    (exec .lineQuiet { inRun with sli := { inRun.sli with rx := .waitQuiet } }) = some .hunt := by decide +kernel

/-- R143: a gap is one framing error. -/
theorem test_frameGap : look (fun s => (s.sli.rx, s.sli.errors))
    (exec .frameGap { inRun with sli := { inRun.sli with rx := .frame [0x07] } }) = some (.waitQuiet, 1) := by
  decide +kernel

/-- R146's table: a group STAGE_PRICE to group 2 is acted on and not answered. -/
theorem test_siteFrame : look (fun s => (s.sli.tx, s.ptu.staged.isSome))
    (exec (.siteFrame 0x42 0x00 [0x0B, 3, 1, 0x00, 0x07, 0x6B]
      (crc16 [0x42, 0x00, 6, 0x0B, 3, 1, 0x00, 0x07, 0x6B])) inRun) = some (.idle, true) := by decide +kernel

/-- R146's table: a group AUTHORIZE is a mode reject. -/
theorem test_siteFrame_reject : look (fun s => s.sli.modeRejects)
    (exec (.siteFrame 0x42 0x00 [0x03, 1, 2, 3, 4, 5, 6, 7, 8, 9]
      (crc16 [0x42, 0x00, 10, 0x03, 1, 2, 3, 4, 5, 6, 7, 8, 9])) inRun) = some 1 := by decide +kernel

def replying (second : Option (List Byte)) : State := { inRun with sli := { inRun.sli with tx := .waiting [1] second } }
def sendingReply (second : Option (List Byte)) : State := { inRun with sli := { inRun.sli with tx := .sending [1] second } }

/-- R149. -/
theorem test_replySend : look (fun s => s.sli.tx) (exec .replySend (replying none)) = some (.sending [1] none) := by
  decide +kernel

/-- R142, R161: the new address is used from the end of the reply. -/
theorem test_replySent : look (fun s => (s.sli.line.address, s.sli.tx))
    (exec .replySent { sendingReply none with cfg := { inRun.cfg with address := 9 } }) = some (9, .idle) := by
  decide +kernel

/-- R201: part 2 is sent after part 1. -/
theorem test_totalsPart2 : look (fun s => s.sli.tx)
    (exec .totalsPart2 { inRun with sli := { inRun.sli with tx := .gap [2] } }) = some (.sending [2] none) := by
  decide +kernel

/-! ## Local bus and readers -/

/-- A slot of sale display A whose frame has been sent. -/
def slotA (zero : Bool) : Slot :=
  { slotId := .display (.sale .a), frame := [], payload := [], check := 0x1234, zero := zero, sent := true, take := true,
    answerBy := some 5, limit := 10 }

def busWith (sl : Slot) (s : State) : State := s.withLbc { s.lbc with slot := some sl }

/-- R100: the answer window. -/
theorem test_localFrameSent : look (fun s => (s.lbc.slot.map Slot.answerBy))
    (exec .localFrameSent (busWith { slotA false with sent := false, answerBy := none } inRun)) =
    some (some (some 5)) := by decide +kernel

/-- R46, R110: a good echo of the zero content sets the mark. -/
theorem test_localAnswer :
    look (fun s => ((s.sideState .a).sale?.map Sale.zeroVerified, s.lbc.slot.map Slot.slotId))
    (exec (.localAnswer (.frame 0x91 [0x90, 0x12, 0x34] (crc16 [0x91, 3, 0x90, 0x12, 0x34])))
      (busWith (slotA true) (withA (.sale (.starting 1000) sale731) [.h2] inRun))) =
    some (some true, some (.display (.sale .b))) := by decide +kernel

def readerSlotA : Slot := { slotA false with slotId := .reader .a, limit := 30 }

/-- R133: no answer is an error; at the threshold the reader is quarantined. -/
theorem test_localNoAnswer : look (fun s => ((s.reader .a).state, (s.reader .a).flushed, s.sli.events))
    (exec .localNoAnswer (busWith readerSlotA (attachedA.withReader .a { attachedA.reader .a with err := 15 }))) =
    some (.quarantined, 2, 0x0200#16) := by decide +kernel

/-- R100, R133: a gap makes a bad answer, counted once. -/
theorem test_localCharacterGap : look (fun s => ((s.reader .a).err, s.lbc.slot.map Slot.take))
    (exec .localCharacterGap (busWith readerSlotA attachedA)) = some (6, some false) := by decide +kernel

/-- R101: at the limit the slot ends; reader B is OFF, so the next round begins. -/
theorem test_slotLimit : look (fun s => ((s.reader .a).err, s.lbc.slot.map Slot.slotId))
    (exec .slotLimit (busWith readerSlotA attachedA)) = some (6, some (.display (.sale .a))) := by decide +kernel

/-- R56, R104: the loss stops the sale with DISPLAY_FAULT. -/
theorem test_lossTimer : look (fun s => ((s.sideState .a).num, (s.displayModule (.sale .a)).present))
    (exec (.lossTimer (.sale .a)) (fuelling 1204)) = some (8, false) := by decide +kernel

/-- R100, R127, R199: a POLL to reader A, its check worked out apart from the model. -/
theorem test_localFrame : localFrame 0x21 [0x02] = [0xE7, 0x21, 0x01, 0x02, 0x6E, 0x19] := by decide +kernel

/-- R128: the slot of a reader in PROBING carries that frame. -/
theorem test_reader_slot : (beginSlot (.reader .a) (inRun.withReader .a { ReaderRec.cold with
      state := .probing, probe := some 2000 })).lbc.slot.map Slot.frame =
    some [0xE7, 0x21, 0x01, 0x02, 0x6E, 0x19] := by decide +kernel

def probing : State := inRun.withReader .b { ReaderRec.cold with state := .probing, probe := some 2000 }

/-- R138. -/
theorem test_probeTimer : look (fun s => ((s.reader .b).state, s.sli.events)) (exec (.probeTimer .b) probing) =
    some (.off .absent, 0x0400#16) := by decide +kernel

/-- R134: the expiry leaves the reader QUARANTINED. -/
theorem test_holdTimer : look (fun s => ((s.reader .a).state, (s.reader .a).hold))
    (exec (.holdTimer .a) (inRun.withReader .a { ReaderRec.cold with state := .quarantined, hold := .running 30000 })) =
    some (.quarantined, .expired) := by decide +kernel

/-- R135. -/
theorem test_tamperActive : look (fun s => ((s.reader .a).state, s.sli.events)) (exec (.tamperActive .a) attachedA) =
    some (.tampered, 0x0200#16) := by decide +kernel

/-- R135: the reader's state does not change. -/
theorem test_tamperInactive : look (fun s => ((s.reader .a).state, s.lines.tamper.a))
    (exec (.tamperInactive .a) { (inRun.withReader .a { ReaderRec.cold with state := .tampered }) with
      lines := { Lines.reset with tamper := ⟨true, false⟩ } }) = some (.tampered, false) := by decide +kernel

/-! ## Meters -/

/-- Table 3.3, 52.30 s: the pulse to H = 2690 stops the sale at its limit. -/
theorem test_forwardPulse : look (fun s => ((s.sideState .a).num, (s.sideState .a).sale?.map fun c => c.figures.amount))
    (exec (.forwardPulse .m2) (fuelling 2689)) = some (8, some 5001) := by decide +kernel

/-- Table 1.4: the eleventh free pulse closes the side. -/
theorem test_forwardPulse_stray : look (fun s => ((s.sideState .b).num, s.sli.events))
    (exec (.forwardPulse .m5) (inRun.withChannel .m5 ⟨none, 0, 10, false, 0, 67⟩)) = some (0, 0x00A0#16) := by
  decide +kernel

/-- R12: with the report given and Sa raised to the count, the next free pulse gives no second one. -/
theorem test_stray_once : strayDue 20 ⟨none, 0, 20, true, 0, 0⟩ = false ∧ strayDue 20 ⟨none, 0, 20, false, 0, 0⟩ = true := by
  decide

/-- 01 section 1.9: the 21st reverse pulse passes Ra = 20. -/
theorem test_reversePulse : look (fun s => match s.sideState .a with
      | .sale (.stopped e) ctx => (e.reason, ctx.primaryCt.reverse)
      | _ => (.noFlow, 0))
    (exec (.reversePulse .m2) (withA (.sale (.fuelling 60000) { saleAt 100 with
      primaryCt := { (saleAt 100).primaryCt with net := 80, reverse := 20 } }) [.h2] inRun)) =
    some (.reverseFlow, 21) := by decide +kernel

/-- R9: the eighth phase error. -/
theorem test_phaseError : look (fun s => ((s.sideState .a).num, (s.channel .m2).phaseTotal))
    (exec (.phaseError .m2) (withA (.sale (.fuelling 60000) { saleAt 100 with
      primaryCt := { (saleAt 100).primaryCt with phase := 7 } }) [.h2] inRun)) = some (8, 1) := by decide +kernel

/-- R3: the fourth quarter step 01 to 00 yields a forward pulse. -/
theorem test_pulserObservation : look (fun s => ((s.channel .m5).cyclePos, (s.channel .m5).strayTotal))
    (exec (.pulserObservation .m5 ⟨false, false⟩) (inRun.withChannel .m5 ⟨some ⟨false, true⟩, 3, 0, false, 0, 57⟩)) =
    some (0, 58) := by decide +kernel

/-- R3: both lines changed is a phase error, and the position becomes 0. -/
theorem test_pulserObservation_both : look (fun s => ((s.channel .m5).cyclePos, (s.channel .m5).phaseTotal))
    (exec (.pulserObservation .m5 ⟨true, true⟩) (inRun.withChannel .m5 ⟨some ⟨false, false⟩, 3, 0, false, 0, 0⟩)) =
    some (0, 1) := by decide +kernel

/-! ## Sides -/

/-- Table 3.3, 0.00 s. -/
theorem test_nozzleLift : look (fun s => ((s.sideState .a).num, s.lifted .a, s.sli.events))
    (exec (.nozzleLift .h2) inRun) = some (2, [.h2], 1#16) := by decide +kernel

/-- R55: the hang stops the sale, and the settle timer runs from it. -/
theorem test_nozzleHang : look (fun s => match s.sideState .a with
      | .sale (.stopped e) _ => (e.reason, e.settle)
      | _ => (.noFlow, none))
    (exec (.nozzleHang .h2) { fuelling 10 with
      lines := { Lines.reset with nozzle := { Lines.reset.nozzle with h2 := true } } }) =
    some (.nozzleHung, some 500) := by decide +kernel

/-- R42. -/
theorem test_authTimer : look (fun s => ((s.sideState .a).num, s.sli.events, s.now))
    (exec (.authTimer .a) (withA (.authorized auth731) [] inRun)) = some (1, 0x0040#16, 120000) := by decide +kernel

/-- R47: the mark is clear. -/
theorem test_zeroTimer : look (fun s => match s.sideState .a with
      | .sale (.stopped e) _ => some e.reason
      | _ => none)
    (exec (.zeroTimer .a) (withA (.sale (.starting 1000) sale731) [.h2] inRun)) = some (some .displayFault) := by
  decide +kernel

/-- R47: the mark is set and the query answers CLEAR. -/
theorem test_zeroTimer_verified : look (fun s => (s.sideState .a).num)
    (exec (.zeroTimer .a) (withA (.sale (.starting 1000) { sale731 with zeroVerified := true }) [.h2] inRun)) =
    some 5 := by decide +kernel

/-- R50. -/
theorem test_noFlow : look (fun s => match s.sideState .a with
      | .sale (.stopped e) _ => (some e.reason, e.volumeClosed)
      | _ => (none, 0))
    (exec (.noFlow .a) (fuelling 1204)) = some (some .noFlow, 1204) := by decide +kernel

/-- R51. -/
theorem test_suspendTimeout : look (fun s => match s.sideState .a with
      | .sale (.stopped e) _ => some e.reason
      | _ => none)
    (exec (.suspendTimeout .a) (withA (.sale (.suspended 300000) (saleAt 10)) [.h2] inRun)) =
    some (some .suspendTimeout) := by decide +kernel

/-- Table 3.3, 59.40 s: V 2691, A 5003, overrun 1, IDLE, DONE_A. -/
theorem test_settleTimer :
    look (fun s => ((s.sideState .a).num, (s.stack.a.map fun r => (r.volume, r.amount, r.overrun)), s.sli.events))
    (exec (.settleTimer .a) (stoppedWith ⟨.limitReached, none, 2690, some 59400⟩ 2691)) =
    some (1, [(2691, 5003, 1)], 4#16) := by decide +kernel

/-- R64: SUPPLY_FAULT. -/
theorem test_driveRailDown : look (fun s => match s.sideState .a with
      | .sale (.stopped e) _ => some e.reason
      | _ => none)
    (exec .driveRailDown (fuelling 10)) = some (some .supplyFault) := by decide +kernel

/-- R44, R64: an AUTHORIZED side starts when the rail returns. -/
theorem test_driveRailUp : look (fun s => (s.sideState .a).num)
    (exec .driveRailUp { withA (.authorized auth731) [.h2] inRun with lines := { Lines.reset with railGood := false } }) =
    some 4 := by decide +kernel

/-! ## Power, store and night -/

/-- R65: the sale completes at once with POWER_FAIL, and the METROLOGY write begins. -/
theorem test_powerWarning :
    look (fun s => ((s.stack.a.map SaleRecord.endReason), s.sli.events, s.nvs.job.map fun j => j.content.kind))
    (exec .powerWarning (fuelling 10)) = some ([.powerFail], 0x2005#16, some .metrology) := by decide +kernel

/-- R192: SUPPLIES begins at the release. -/
theorem test_powerWarningRelease : look (fun s => (s.psq.mode, s.psq.displayDemand))
    (exec .powerWarningRelease { State.reset with
      psq := { Psq.cold with mode := .poweringUp .apply }
      nvs := { Nvs.blank with load := .none }
      lines := { Lines.reset with warning := true } }) = some (.poweringUp (.supplies .a), true) := by decide +kernel

/-- R182, R191. -/
theorem test_powerOn : look (fun s => (s.psq.mode, s.psq.cause, s.nvs.load))
    (exec .powerOn { inRun with powered := false, now := 50 }) =
    some (.poweringUp .load, .powerOn, .reading true .config 1 false 53) := by decide +kernel

/-- R172, R174: a METROLOGY write cut short leaves its slot bad. -/
theorem test_supplyLost : look (fun s => (s.powered, s.nvs.slot0, s.nvs.job))
    (exec .supplyLost { inRun with nvs := { inRun.nvs with
      slot0 := some ⟨.lost, 5207⟩
      job := some ⟨.metrology .m0 ⟨.lost, 5209⟩, 20⟩ } }) = some (false, none, none) := by decide +kernel

/-- R179: the fourth failed attempt finds CONFIG bad; PRICES is read next. -/
theorem test_readAttempt : look (fun s => (s.sli.events, s.nvs.queue, s.nvs.load))
    (exec (.readAttempt false) { State.reset with nvs := { Nvs.blank with load := .reading true .config 4 false 12 } }) =
    some (0x1000#16, [.config], .reading true .prices 1 false 13) := by decide +kernel

/-- R192. -/
theorem test_supplyStep : look (fun s => (s.psq.mode, (s.reader .a).state, s.psq.stageTimer))
    (exec .supplyStep { State.reset with
      nvs := { Nvs.blank with load := .none }
      psq := { Psq.cold with mode := .poweringUp (.supplies .a), stageTimer := some 200 } }) =
    some (.poweringUp (.supplies .b), .probing, some 400) := by decide +kernel

/-- R115. -/
theorem test_displayTestEnd : look (fun s => (s.psq.mode, s.psq.stageTimer))
    (exec .displayTestEnd { inRun with psq := { Psq.cold with mode := .poweringUp (.displays true), stageTimer := some 1400 } }) =
    some (.poweringUp (.displays false), some 1900) := by decide +kernel

/-- R193: with no reader supplied READY follows at once; a flag set opens the side. -/
theorem test_displaysEnd : look (fun s => (s.psq.mode, (s.sideState .a).num, s.sli.events))
    (exec .displaysEnd { inRun with
      sides := ⟨⟨.closed .management, [], 0, .none⟩, ⟨.closed .management, [], 0, .none⟩⟩
      psq := { Psq.cold with mode := .poweringUp (.displays false), stageTimer := some 1900 } }) =
    some (.run, 1, 0x0800#16) := by decide +kernel

/-- R194. -/
theorem test_waitTimer : look (fun s => (s.psq.mode, s.psq.cause, s.psq.restarts, s.now))
    (exec .waitTimer { inRun with psq := { Psq.cold with mode := .poweringUp .wait, cause := .timer, restarts := 1, stageTimer := some 2900 } }) =
    some (.poweringUp .load, .timer, 1, 2900) := by decide +kernel

/-- R174: the verified METROLOGY write moves the current slot and clears the condition. -/
theorem test_writeComplete : look (fun s => (s.nvs.current, s.nvs.condition, s.now))
    (exec (.writeComplete true) { inRun with nvs := { inRun.nvs with
      condition := .lost
      job := some ⟨.metrology .m0 ⟨.lost, 5209⟩, 31⟩ } }) = some (some (.m0, 5209), .clear, 31) := by decide +kernel

/-- R57, R175: the third failure closes both sides with NV_FAULT. -/
theorem test_writeComplete_third : look (fun s => ((s.sideState .a), s.nvs.condition, s.sli.events))
    (exec (.writeComplete false) { inRun with nvs := { inRun.nvs with
      fail := ⟨0, 0, 2⟩
      job := some ⟨.metrology .m0 ⟨.lost, 5209⟩, 31⟩ } }) =
    some (.closed .nvFault, .write, 0x1030#16) := by decide +kernel

/-- R177, R84, R175: a CONFIG write cut short leaves the block bad; one that fails leaves what was last verified. -/
theorem test_cut_and_failed :
    (Nvs.cut { Nvs.blank with config := some .default, job := some ⟨.config .default, 20⟩ }).config = none ∧
    (failBlock (.config { Cfg.default with address := 9 }) { Nvs.blank with config := some .default }).config =
      some .default := by decide +kernel

def inNight : State := { inRun with psq := { Psq.cold with mode := .night, wakeTimer := some 28800000 } }

/-- R188. -/
theorem test_nightNozzleWake : look (fun s => (s.psq.mode, s.psq.cause))
    (exec .nightNozzleWake { (withA .calling [.h2] inNight) with
      cfg := { inRun.cfg with wake := { Wake.default with nozzle := ⟨true, false⟩ } } }) =
    some (.poweringUp .load, .nozzle) := by decide +kernel

/-- R188, R189. -/
theorem test_wakeTimer : look (fun s => (s.psq.mode, s.psq.cause, s.psq.wakeTimer)) (exec .wakeTimer inNight) =
    some (.poweringUp .load, .timer, none) := by decide +kernel

/-- R190: the return to NIGHT keeps the wake timer. -/
theorem test_confirmTimer : look (fun s => (s.psq.mode, s.psq.wakeTimer, s.sli.events))
    (exec .confirmTimer { inRun with psq := { inRun.psq with confirmTimer := some 60000, wakeTimer := some 90000 } }) =
    some (.night, some 90000, 0x4000#16) := by decide +kernel

/-- R188: with the filter armed and matching, a good frame wakes the part. -/
theorem test_siteFrame_wake : look (fun s => (s.psq.mode, s.psq.cause))
    (exec (.siteFrame 0x07 0x00 [0x01] (crc16 [0x07, 0x00, 1, 0x01]))
      { inNight with cfg := { inRun.cfg with wake := { Wake.default with armed := true } } }) =
    some (.poweringUp .load, .filter) := by decide +kernel

/-! ## Steps -/

/-- On an empty queue 1 ms passes (log 1). -/
theorem test_step_idle : look (fun s => s.now) (step inRun) = some 1 := by decide +kernel

/-- The front of the queue is run on the rest (log 27). -/
theorem test_step_queue : look (fun s => (s.pending, s.lifted .a))
    (step { inRun with pending := [.nozzleLift .h2, .nozzleLift .h3] }) = some ([.nozzleLift .h3], [.h2]) := by
  decide +kernel

/-! ## Witnesses: for each statement, states and operands that meet its hypotheses, clause by clause -/

/-- Whether a step or a command answers a next state. -/
def goesOn : Host.Outcome State Fault Refusal → Bool
  | .next _ => true
  | .fault _ => false
  | .refused _ => false

def queued (c : Instr) (s : State) : State := { s with pending := [c] }

theorem witness_StepRunsTheFrontCommand : (queued (.nozzleLift .h2) inRun).pending = .nozzleLift .h2 :: [] := rfl

/-- The widest fields of each width, and a payload of 120 bytes. -/
theorem witness_EveryRequestRoundTrips :
    ((Instr.authorize .unicast 255 65535 255 255 255 16777215).request? = some (.authorize, .unicast) ∧
      (Instr.authorize .unicast 255 65535 255 255 255 16777215).wellFormed = true) ∧
    ((Instr.setMeter .unicast 0 0 0 (-32768) 0 0 0).request? = some (.setMeter, .unicast) ∧
      (Instr.setMeter .unicast 0 0 0 (-32768) 0 0 0).wellFormed = true) ∧
    ((Instr.tunnel .broadcast .b (List.replicate 120 7)).request? = some (.tunnel .b, .broadcast) ∧
      (Instr.tunnel .broadcast .b (List.replicate 120 7)).wellFormed = true) := by
  and_intros <;> decide +kernel

/-- Each address mode at an end of its range, a port of each direction, and the payloads that are refused. -/
theorem witness_AWholeFrameIsCheckedAndRun :
    (inRun.Live ∧ inRun.psq.mode ≠ .night ∧ inRun.sli.tx = .idle ∧ inRun.sli.rx = .hunt) ∧
    ((List.replicate 120 (0 : Byte)).length ≤ 120 ∧ (0 : Word16) ≠ crc16 (siteBody 7 0 [1])) ∧
    (128 ≤ (0x80 : Byte).toNat ∧ ((0x3F : Byte).toNat < 64 ∧ (0x3F : Byte).toNat ≠ inRun.sli.line.address) ∧
      (64 ≤ (0x7F : Byte).toNat ∧ (0x7F : Byte).toNat < 128 ∧ (0x7F : Byte).toNat ≠ 64 + inRun.sli.line.group)) ∧
    (128 ≤ (0xBF : Byte).toNat ∧ (0xBF : Byte).toNat < 192 ∧ (0x7F : Byte).toNat < 128) ∧
    (inRun.addressed .unicast 7 = true ∧ inRun.addressed .group 0x42 = true ∧
      inRun.addressed .broadcast 0xC0 = true ∧ inRun.addressed .broadcast 0xFF = true) ∧
    ((Instr.poll .unicast).request? = some (.poll, .unicast) ∧ (Instr.poll .unicast).wellFormed = true ∧
      (0x7C : Byte).toNat % 4 = ReqKind.poll.port) ∧
    (kindOf 0 (0xFF : Byte).toNat = none ∧ (List.replicate 119 (0 : Byte)).length ≤ 119 ∧
      kindOf 0 (0x01 : Byte).toNat = some .poll ∧ ReqKind.poll.allows .group = false ∧
      ReqKind.poll.allows .unicast = true ∧ ReqKind.poll.length ≠ some ([(0 : Byte)].length + 1)) ∧
    ((replying none).powered = true ∧ (replying none).sli.tx = .waiting [1] none) ∧
    ({ inRun with sli := { inRun.sli with tx := .gap [2] } } : State).sli.tx = .gap [2] ∧
    ((sendingReply none).sli.tx = .sending [1] none ∧ (sendingReply none).Settled) := by
  and_intros <;> decide +kernel

/-! ### Invariants: a state that holds the invariant and whose step goes on -/

def closing : State := queued (.closeSide .unicast 1) (fuelling 10)

theorem witness_StepKeepsTheStoreSettled : closing.SettledIfPowered ∧ goesOn (step closing) = true := by
  and_intros <;> decide +kernel

theorem witness_StepKeepsTheQueueLegal : closing.StoreOk ∧ goesOn (step closing) = true :=
  ⟨by unfold State.StoreOk; decide +kernel, by decide +kernel⟩

theorem witness_StepKeepsPricesLegal : closing.PricesOk ∧ goesOn (step closing) = true := by
  refine ⟨⟨⟨by unfold PriceTable.Legal; decide +kernel, by decide +kernel, ?_, ?_⟩, ?_, ?_⟩, by decide +kernel⟩
  · intro t h; exact absurd (show none = some t from h) (by simp)
  · intro _; rfl
  · intro p h; exact absurd (show none = some p from h) (by simp)
  · intro j p h; exact absurd (show none = some j from h) (by simp)

theorem witness_StepKeepsTheHoseMapLegal : closing.MapOk ∧ goesOn (step closing) = true := by
  refine ⟨⟨⟨?_, ?_, ?_⟩, ?_, ?_⟩, by decide +kernel⟩
  · intro h k
    cases h <;> cases k <;> intro q r h1 h2 <;> cases Option.some.inj h1 <;> cases Option.some.inj h2 <;> decide
  · intro h q h1
    cases h <;> cases Option.some.inj h1 <;> decide
  · intro h k
    cases h <;> cases k <;> intro q r m h1 h2 <;> cases Option.some.inj h1 <;> cases Option.some.inj h2 <;>
      cases m <;> decide
  · intro c h; exact absurd (show none = some c from h) (by simp)
  · intro j c h; exact absurd (show none = some j from h) (by simp)

theorem witness_StepKeepsReadersLegal :
    (queued (.readerIsolate .unicast 1) attachedA).ReadersOk ∧
    goesOn (step (queued (.readerIsolate .unicast 1) attachedA)) = true := by
  refine ⟨?_, by decide +kernel⟩
  constructor <;> constructor <;> decide +kernel

theorem witness_StepKeepsTheLineCounterLegal :
    (queued (.siteCharacter .parityError) { inRun with sli := { inRun.sli with errors := 24, overflow := true } }).LineOk ∧
    goesOn (step (queued (.siteCharacter .parityError)
      { inRun with sli := { inRun.sli with errors := 24, overflow := true } })) = true := by
  refine ⟨⟨by decide +kernel, by decide +kernel, by decide +kernel, ?_, ?_⟩, by decide +kernel⟩
  · intro c h; exact absurd (show none = some c from h) (by simp)
  · intro j c h; exact absurd (show none = some j from h) (by simp)

theorem witness_StepKeepsSalesInRun : closing.SalesOk ∧ goesOn (step closing) = true := by
  refine ⟨⟨?_, by decide +kernel, by decide +kernel, by decide +kernel⟩, by decide +kernel⟩
  intro sd
  cases sd <;> decide +kernel

/-! ### Outputs, arithmetic, store -/

def inFailsafe : State := { inRun with psq := { Psq.cold with mode := .failsafe } }
def restartDrain : State :=
  { inRun with
    psq := { inRun.psq with restart := .draining }
    nvs := { inRun.nvs with job := some ⟨.config inRun.cfg, 15⟩ } }

def railDownState : State := { inRun with lines := { Lines.reset with railGood := false } }
def warned : State := { inRun with lines := { Lines.reset with warning := true } }

theorem witness_OutputsFollowStateRailAndWarning :
    railDownState.lines.railGood = false ∧ warned.lines.warning = true ∧ State.reset.psq.mode ≠ .run ∧
    ((fuelling 10).powered = true ∧ (fuelling 10).lines.railGood = true ∧ (fuelling 10).lines.warning = false ∧
      (fuelling 10).psq.mode = .run ∧ (fuelling 10).psq.restart ≠ .draining ∧
      (fuelling 10).sideState .a = .sale (.fuelling 60000) (saleAt 10) ∧
      ((fuelling 10).sideState Side.a.other).sale? = none) ∧
    (inNight.psq.mode = .night ∧ inFailsafe.psq.mode = .failsafe ∧ restartDrain.psq.restart = .draining ∧
      ({ inRun with powered := false } : State).powered = false) ∧
    (State.reset.powered = true ∧ State.reset.psq.mode = .poweringUp .load ∧ State.reset.psq.restart ≠ .draining ∧
      (probing.reader .b).state = .probing ∧ (attachedA.reader .a).state = .attached ∧
      (inRun.reader .a).state.cut = true) := by
  and_intros <;> decide +kernel

/-- The record at the ends of its ranges; figures on both sides of the slow and the stop threshold. -/
theorem witness_FiguresAndResultsOnlyRise :
    (let c : MeterConfig := ⟨.quad, 1, -10000, 20, 10, 2000⟩; 1 ≤ c.k ∧ -10000 ≤ c.trim) ∧
    ((saleAt 2640).figures.volume ≤ (saleAt 2690).figures.volume ∧
      (saleAt 2640).figures.amount ≤ (saleAt 2690).figures.amount ∧
      ((saleAt 2640).figures.saturated = true → (saleAt 2690).figures.saturated = true) ∧
      (saleAt 2640).figures.slowAt = (saleAt 2690).figures.slowAt ∧
      (saleAt 2640).figures.stopAt = (saleAt 2690).figures.stopAt) ∧
    classifyFigures (.amount 5000) (saleAt 2640).figures = .slow ∧
    classifyFigures (.amount 5000) (saleAt 2690).figures = .limit := by
  and_intros <;> decide +kernel

theorem witness_TheAmountIsRoundedAsTheScaleSays :
    ({ Scale.default with rounding := .down }).rounding = .down ∧ Scale.default.rounding = .halfUp := by decide

def withQueue (q : List Kind) (s : State) : State := { s with nvs := { s.nvs with queue := q } }

theorem witness_WritesAreQueuedOnceAndBeginAtTheHead :
    Kind.config ∈ (withQueue [.config] inRun).nvs.queue ∧
    (Kind.prices ∉ (withQueue [.config] inRun).nvs.queue ∧
      ¬ (Kind.prices = .metrology ∧ (withQueue [.config] inRun).lines.warning = true)) ∧
    (Kind.metrology ∉ (withQueue [.config] warned).nvs.queue ∧ (withQueue [.config] warned).lines.warning = true) ∧
    ((withQueue [.config] inRun).nvs.job = none ∧ (withQueue [.config] inRun).nvs.load = .none ∧
      (withQueue [.config] inRun).nvs.queue = .config :: []) := by
  and_intros <;> decide +kernel

/-! ### How requests are taken -/

theorem witness_RequestsOutsideRunAndOutsideTheirModes :
    ((Instr.stop .unicast 1).request? = some (.stop, .unicast) ∧ ReqKind.stop ∉ [ReqKind.poll, .readIdent, .readCounters]) ∧
    (State.reset.Live ∧ State.reset.sli.tx = .idle ∧ State.reset.poweringUp = true) ∧
    (restartDrain.Live ∧ restartDrain.sli.tx = .idle ∧ restartDrain.restartDraining = true ∧
      restartDrain.psq.mode ≠ .night) ∧
    (inNight.Live ∧ inNight.sli.tx = .idle ∧ inNight.psq.mode = .night ∧ inNight.restartDraining = false) ∧
    (inFailsafe.Live ∧ inFailsafe.sli.tx = .idle ∧ inFailsafe.psq.mode = .failsafe ∧
      inFailsafe.restartDraining = false) ∧
    ((Instr.authorize .group 1 1 1 1 0 0).request? = some (.authorize, .group) ∧
      ReqKind.authorize.allows .group = false ∧ inRun.Live ∧ inRun.sli.tx = .idle) := by
  and_intros <;> decide +kernel

theorem witness_ARequestAbandonsTheWaitingReply :
    (Instr.poll .unicast).request? = some (.poll, .unicast) ∧
    ((replying none).powered = true ∧ (replying none).sli.tx = .waiting [1] none) ∧
    ({ inRun with sli := { inRun.sli with tx := .gap [2] } } : State).sli.tx = .gap [2] ∧
    ((sendingReply none).powered = true ∧ (sendingReply none).sli.tx = .sending [1] none ∧
      (sendingReply none).Settled) := by
  and_intros <;> decide +kernel

theorem witness_ReadsWithoutFieldsAreAnswered :
    (inRun.Answers ∧ State.reset.Answers ∧ State.reset.psq.mode = .poweringUp .load ∧ restartDrain.Answers ∧
      restartDrain.psq.restart = .draining ∧ inFailsafe.Answers ∧ inFailsafe.psq.mode = .failsafe) ∧
    (inRun.ServesReads ∧ inFailsafe.ServesReads) := by
  and_intros <;> decide +kernel

/-- Each clause at an end of its range. -/
theorem witness_ReadsWithFieldsAreAnswered :
    stacked.ServesReads ∧ inFailsafe.ServesReads ∧ (stacked.stack.get .a)[0]? = some record117 ∧ (stacked.stack.get .a)[1]? = none ∧
    (stacked.stack.get .a).find? (fun x => x.saleId == 732) = some record117 ∧
    (∀ r ∈ stacked.stack.get .a, r.saleId ≠ 731) ∧
    stacked.sru.journal.reverse[0]? = some ⟨record117, false⟩ ∧ stacked.sru.journal.length ≤ 1 ∧
    stacked.cfg.routes[23]? = some clearRow ∧ sectionBytes stacked.cfg 8 0 = some [1, 1] := by
  and_intros <;> decide +kernel

/-! ### Sale requests -/

theorem witness_AuthorizeIsCheckedInOrder :
    inRun.Serves ∧ inRun.sideState .a = .idle ∧ inRun.psq.night = none ∧
    ((withA (.authorized auth731) [] inRun).Serves ∧
      (withA (.authorized auth731) [] inRun).sideState .a = .authorized auth731 ∧ auth731.saleId = 731 ∧
      auth731.saleId ≠ 732) ∧
    ((withA (.closed .management) [] inRun).Serves ∧
      (withA (.closed .management) [] inRun).sideState .a = .closed .management) ∧
    ((fuelling 10).Serves ∧ (fuelling 10).sideState .a = .sale (.fuelling 60000) (saleAt 10)) ∧
    ({ inRun with psq := { inRun.psq with night := some ⟨some 0, false⟩ } } : State).Serves ∧
    (authOf inRun .a 731 2 1 1 5000 = some auth731) ∧
    (2 ≤ ({ stacked with stack := ⟨[record117, record117], []⟩ }.stack.get .a).length) ∧
    ((stacked.stack.get .a).length < 2 ∧ ∃ r ∈ stacked.stack.get .a, r.saleId = 732) ∧
    hoseAt { inRun.cfg.hoses with h4 := none } .a .p4 = none := by
  and_intros <;> decide +kernel

theorem witness_AuthorizeGrantsASale :
    inRun.Serves ∧ inRun.sideState .a = .idle ∧ inRun.psq.night = none ∧
    (∀ q ∈ Position.all, Nat.testBit 15 (q.num - 1) = true → hoseAt inRun.cfg.hoses .a q ≠ none) ∧
    limitOf 2 999999 = some (.volume 999999) ∧ (inRun.stack.get .a).length < 2 ∧
    (∀ r ∈ inRun.stack.get .a, r.saleId ≠ 65535) := by
  and_intros <;> decide +kernel

/-- The record of hose 2. -/
def hose2 : HoseRec := ⟨.a, .p2, .g2, .m2, none⟩
def waitingFor2 (l : List Hose) (s : State) : State := withA (.authorized auth731) l s

theorem witness_TheStartConditionStartsTheOldestHose :
    ((waitingFor2 [.h1] inRun).sideState .a = .authorized auth731 ∧
      ((waitingFor2 [.h1] inRun).lifted .a).find? (allowedHose inRun.cfg.hoses .a auth731.allowed) = none) ∧
    ((waitingFor2 [.h1, .h2] inRun).sideState .a = .authorized auth731 ∧
      ((waitingFor2 [.h1, .h2] inRun).lifted .a).find? (allowedHose inRun.cfg.hoses .a auth731.allowed) = some .h2 ∧
      inRun.cfg.hoses.get .h2 = some hose2 ∧ inRun.ptu.active.entry hose2.grade auth731.level = 1859) ∧
    ((inRun.ptu.active.withEntry .g2 .l1 0).entry .g2 .l1 = 0 ∧
      (inRun.ptu.active.withEntry .g2 .l1 99999).entry .g2 .l1 = 99999) ∧
    ((waitingFor2 [.h2] railDownState).lines.railGood = false ∧ (waitingFor2 [.h2] warned).lines.warning = true) ∧
    (inRun.lines.railGood = true ∧ inRun.lines.warning = false ∧ inRun.psq.mode = .run) := by
  and_intros <;> decide +kernel

def suspended (high : Nat) : State := withA (.sale (.suspended 300000) (saleAt high)) [.h2] inRun

theorem witness_SuspendAndResume :
    ((fuelling 10).Serves ∧ (fuelling 10).sideState .a = .sale (.fuelling 60000) (saleAt 10)) ∧
    (withA (.sale (.slowing 60000) (saleAt 2640)) [.h2] inRun).Serves ∧
    ((suspended 10).Serves ∧ (suspended 10).sideState .a = .sale (.suspended 300000) (saleAt 10)) ∧
    (inRun.Serves ∧ inRun.sideState .a = .idle) := by
  and_intros <;> decide +kernel

theorem witness_StopEndsAuthorizationsAndSales :
    inRun.Serves ∧ inRun.sideState .a = .idle ∧ (waitingFor2 [] inRun).sideState .a = .authorized auth731 ∧
    (fuelling 10).sideState .a = .sale (.fuelling 60000) (saleAt 10) ∧
    (∀ e, Phase.fuelling 60000 ≠ .stopped e) :=
  ⟨by decide +kernel, by decide +kernel, by decide +kernel, by decide +kernel, nofun⟩

theorem witness_ClearSalePaysTheRecord :
    stacked.Serves ∧ (stacked.stack.get .a).find? (fun x => x.saleId == 732) = some record117 ∧
    (∀ r ∈ stacked.stack.get .a, r.saleId ≠ 65535) := by
  and_intros <;> decide +kernel

/-! ### Prices -/

theorem witness_StagePriceEditsTheStagedTable :
    (inRun.Serves ∧ inRun.ptu.staged = none) ∧
    (staged.Serves ∧ staged.ptu.staged = some (prices.withEntry .g3 .l1 1899) ∧
      (prices.withEntry .g3 .l1 1899).entry .g3 .l1 ≠ 99999 ∧ (prices.withEntry .g3 .l1 1899).entry .g3 .l1 = 1899) :=
  ⟨by decide +kernel, by decide +kernel⟩

theorem witness_CommitPricesAppliesTheStagedTable :
    (inRun.Serves ∧ inRun.ptu.staged = none) ∧
    (staged.Serves ∧ staged.ptu.staged = some (prices.withEntry .g3 .l1 1899) ∧ 412 = staged.ptu.generation ∧
      staged.ptu.pending = false) ∧
    ({ staged with ptu := { staged.ptu with pending := true } } : State).Serves ∧
    (prices = inRun.ptu.active ∧ prices.withEntry .g3 .l1 1899 ≠ inRun.ptu.active) ∧
    ({ inRun with ptu := { inRun.ptu with generation := 65535 } } : State).ptu.generation ≤ 65535 ∧
    (fuelling 10).sideState .a = .sale (.fuelling 60000) (saleAt 10) := by
  and_intros <;> decide +kernel

theorem witness_ReplacePriceAndDiscardStaged :
    inRun.Serves ∧ AddrMode.group ≠ .broadcast ∧ inRun.ptu.active.entry .g8 .l2 = 1859 ∧
    inRun.ptu.active.entry .g8 .l2 ≠ 99999 ∧ inRun.ptu.staged = none ∧
    staged.Serves ∧ staged.ptu.staged = some (prices.withEntry .g3 .l1 1899) := by
  and_intros <;> decide +kernel

/-! ### Control and management -/

theorem witness_ClearEventsRaisesAgainWhatPersists :
    inRun.Serves ∧ 65535 < 65536 ∧ ¬ (Nat.testBit 65535 12 = true ∧ inRun.nvs.condition = .lost) ∧
    (({ inRun with nvs := { inRun.nvs with condition := .lost } } : State).Serves ∧
      Nat.testBit 0x1000 12 = true) := by
  and_intros <;> decide +kernel

theorem witness_EnterNightTakesTheDelay :
    (inRun.Serves ∧ inRun.sideState .a = .idle ∧ inRun.sideState .b = .idle ∧ inRun.psq.night = none ∧
      storeIdle inRun = true ∧ AddrMode.group ≠ .unicast) ∧
    (let s (draining : Bool) : State := { restartDrain with psq := { inRun.psq with night := some ⟨some 5, draining⟩ } };
      (s true).Serves ∧ (s false).Serves ∧ (s true).psq.night = some ⟨some 5, true⟩ ∧ storeIdle (s true) = false) ∧
    ((fuelling 10).Serves ∧ (fuelling 10).sideState .a ≠ .idle ∧
      (fuelling 10).sideState .a = .sale (.fuelling 60000) (saleAt 10)) ∧
    ((attachedA.reader .a).state ≠ .tampered ∧
      ((inRun.withReader .a { ReaderRec.cold with state := .tampered }).reader .a).state = .tampered) := by
  and_intros <;> decide +kernel

/-- Settings at the ends of their ranges. -/
theorem witness_PlainSettingsReachTheConfiguration :
    inRun.Serves ∧
    (let t : TimerFields := ⟨900, 500, 600, 10, 2000, 200, 600, 10⟩;
      (t.auth = 0 ∨ (10 ≤ t.auth ∧ t.auth ≤ 900)) ∧ 500 ≤ t.zero ∧ t.zero ≤ 3000 ∧ 10 ≤ t.noFlow ∧ t.noFlow ≤ 600 ∧
      10 ≤ t.suspend ∧ t.suspend ≤ 900 ∧ 200 ≤ t.settle ∧ t.settle ≤ 2000 ∧ 200 ≤ t.loss ∧ t.loss ≤ 3000 ∧
      5 ≤ t.hold ∧ t.hold ≤ 600 ∧ 10 ≤ t.confirm ∧ t.confirm ≤ 600) ∧
    (let t : TimerFields := ⟨9, 500, 600, 10, 2000, 200, 600, 10⟩; t.auth ≠ 0 ∧ t.auth < 10) ∧
    (let w : WakeFields := ⟨0, 0, 255, 0, 0, 120, 0, 0, 0, 0, 0, 0, 0, 0, 1, 0⟩;
      (w.port = 255 ∨ w.port ≤ 3) ∧ (w.length = 255 ∨ w.length ≤ 120) ∧ w.nozzleA ≤ 1 ∧ w.nozzleB ≤ 1) ∧
    (let w : WakeFields := ⟨0, 0, 4, 0, 0, 121, 0, 0, 0, 0, 0, 0, 0, 0, 2, 0⟩; w.port ≠ 255 ∧ 3 < w.port) ∧
    inRun.cfg.wake.armed = false ∧
    ({ inRun with cfg := { inRun.cfg with wake := { Wake.default with armed := true } } } : State).Serves := by
  and_intros <;> decide +kernel

/-- The reader's counter of 5 above a threshold of 4 and below one of 63. -/
theorem witness_SetThresholdsBringsCountersDown :
    attachedA.Serves ∧ 4 < (attachedA.reader .a).err ∧ (attachedA.reader .a).state = .attached ∧
    (attachedA.reader .b).err ≤ 1 ∧ (attachedA.reader .a).err ≤ 63 ∧
    look id (exec (.setThresholds .unicast 10001 16 24 0 0) attachedA) =
      some (attachedA.answeredWith .setThresholds .badField []) ∧
    look id (exec (.setThresholds .unicast 500 64 24 0 0) attachedA) =
      some (attachedA.answeredWith .setThresholds .badField []) ∧
    look id (exec (.setThresholds .unicast 500 16 256 0 0) attachedA) =
      some (attachedA.answeredWith .setThresholds .badField []) ∧
    look id (exec (.setThresholds .unicast 500 16 24 0 2) attachedA) =
      some (attachedA.answeredWith .setThresholds .badField []) := by
  and_intros <;> decide +kernel

/-- Hose 8 assigned and freed while both sides are CLOSED, its place taken by hose 7, a meter of side A, and sides
that are not CLOSED. -/
theorem witness_SetHoseReplacesOneRecord :
    (bothClosed.Serves ∧ bothClosed.sideState .a = .closed .management ∧ bothClosed.sideState .b = .closed .management) ∧
    (let q : HoseRec := ⟨.b, .p4, .g8, .m6, some .m5⟩;
      q.secondary ≠ some q.primary ∧ placeTaken bothClosed.cfg.hoses .h8 q = false ∧
      meterShared (bothClosed.cfg.hoses.set .h8 (some q)) = false ∧ hoseSide bothClosed.cfg.hoses .h8 = some q.side) ∧
    (let q : HoseRec := ⟨.b, .p4, .g1, .m6, none⟩;
      let s : State := { bothClosed with cfg := { bothClosed.cfg with hoses := { bothClosed.cfg.hoses with h8 := none } } };
      s.Serves ∧ placeTaken s.cfg.hoses .h4 q = false ∧ meterShared (s.cfg.hoses.set .h4 (some q)) = false ∧
      hoseSide s.cfg.hoses .h4 ≠ some q.side ∧ s.cfg.hoses.get .h4 = some ⟨.a, .p4, .g4, .m3, none⟩ ∧
      .h4 ∈ s.lifted .a ∧ s.lines.nozzle.get .h4 = true ∧ s.cfg.hoses.get .h8 = none ∧
      meterShared (s.cfg.hoses.set .h8 none) = false) ∧
    (let s : State := { bothClosed with
        cfg := { bothClosed.cfg with hoses := { bothClosed.cfg.hoses with h8 := none } }
        sides := ⟨⟨.idle, [], 0, .none⟩, ⟨.closed .management, [], 0, .none⟩⟩ };
      s.Serves ∧ s.cfg.hoses.get .h4 = some ⟨.a, .p4, .g4, .m3, none⟩ ∧ s.sideState .a = .idle ∧
      look id (exec (.setHose .unicast 4 1 2 4 1 6 0) s) = some (s.answeredWith .setHose .state [])) ∧
    owningSide bothClosed.cfg.hoses .m4 ≠ owningSide (bothClosed.cfg.hoses.set .h5 none) .m4 ∧
    meterShared (bothClosed.cfg.hoses.set .h5 none) = false ∧
    placeTaken bothClosed.cfg.hoses .h8 ⟨.b, .p3, .g1, .m6, none⟩ = true ∧
    meterShared (bothClosed.cfg.hoses.set .h8 (some ⟨.b, .p4, .g1, .m3, none⟩)) = true ∧
    (inRun.Serves ∧ inRun.sideState .b = .idle) ∧
    (meterShared (bothClosed.cfg.hoses.set .h8 none) = false ∧
      bothClosed.cfg.hoses.get .h8 = some ⟨.b, .p4, .g4, .m6, none⟩) := by
  and_intros <;> decide +kernel

theorem witness_SetMeterAndSetScaleNeedClosedSides :
    (bothClosed.Serves ∧ owningSide bothClosed.cfg.hoses .m6 = some .b ∧
      bothClosed.sideState .b = .closed .management ∧ MeterMode.single ≠ (bothClosed.cfg.meters.get .m6).mode ∧
      MeterMode.quad = (bothClosed.cfg.meters.get .m6).mode) ∧
    (inRun.Serves ∧ owningSide inRun.cfg.hoses .m6 = some .b ∧ inRun.sideState .b = .idle) ∧
    (bothClosed.sideState .a = .closed .management ∧ bothClosed.stack.a = [] ∧ bothClosed.stack.b = []) ∧
    (stacked.Serves ∧ stacked.stack.get .a ≠ []) := by
  and_intros <;> decide +kernel

theorem witness_RouteRowsAreLockedByLiveReaders :
    (inRun.Serves ∧ inRun.cfg.routes[23]? = some clearRow ∧ clearRow.inUse = false ∧
      (inRun.reader .a).state.live = false) ∧
    (let r : RouteRow := ⟨true, .site .a, 4, 255, 96, .forward⟩;
      r.low ≤ r.high ∧ r.high ≤ 255 ∧ 1 ≤ r.maxLen ∧ r.maxLen ≤ 96 ∧
      (r.source.isSite = true → r.action ≠ .supervisor ∧ 4 ≤ r.low)) ∧
    (attachedA.Serves ∧ attachedA.cfg.routes[0]? = some (supervisionRow .a) ∧ (supervisionRow .a).inUse = true ∧
      (attachedA.reader (supervisionRow .a).source.side).state.live = true) ∧
    (inRun.reader (supervisionRow .a).source.side).state.live = false := by
  and_intros <;> decide +kernel

theorem witness_OpenSideOpensOrRefuses :
    bothClosed.Serves ∧ bothClosed.sideState .a = .closed .management ∧ hoseSide bothClosed.cfg.hoses .h1 = some .a ∧
    (bothClosed.lbc.modules.sale.get .a).present = true ∧ (bothClosed.lbc.modules.panel.get .a).present = true ∧
    bothClosed.nvs.condition = .clear ∧ inRun.Serves ∧ inRun.sideState .a = .idle := by
  and_intros <;> decide +kernel

theorem witness_CloseSideClosesOrWaits : (fuelling 10).Serves ∧ inRun.Serves := by
  and_intros <;> decide +kernel

def quarantinedA (hold : HoldTimer) : State :=
  inRun.withReader .a { ReaderRec.cold with state := .quarantined, hold := hold }

theorem witness_ReadersAreAttachedAndIsolated :
    (attachedA.Serves ∧ (attachedA.reader .a).state.live = true) ∧
    (inRun.Serves ∧ (inRun.reader .a).state = .off .power ∧ (inRun.reader .a).state.live = false ∧
      inRun.lines.tamper.get .a = false) ∧
    ({ inRun with lines := { Lines.reset with tamper := ⟨true, false⟩ } } : State).Serves ∧
    ((quarantinedA (.running 9)).Serves ∧ ((quarantinedA (.running 9)).reader .a).hold ≠ .expired) ∧
    ((quarantinedA .expired).Serves ∧ ((quarantinedA .expired).reader .a).hold = .expired) := by
  and_intros <;> decide +kernel

theorem witness_RestartIsAnsweredBeforeItDrains :
    (inRun.Live ∧ inRun.sli.tx = .idle ∧ inRun.psq.restart ≠ .draining ∧ inRun.psq.mode = .run ∧
      inRun.psq.night = none ∧ ∀ sd, (inRun.sideState sd).busy = false) ∧
    (inFailsafe.Live ∧ inFailsafe.sli.tx = .idle ∧ inFailsafe.psq.restart ≠ .draining ∧
      inFailsafe.psq.mode = .failsafe) ∧
    ((fuelling 10).Live ∧ ((fuelling 10).sideState .a).busy = true) :=
  ⟨⟨by decide +kernel, by decide +kernel, by decide +kernel, by decide +kernel, by decide +kernel,
    fun sd => by cases sd <;> decide +kernel⟩, by decide +kernel, by decide +kernel⟩

/-- Payloads of 1, 96 and 97 bytes; a row of each action and one that is too short; each reader state. -/
theorem witness_TunnelFramesFollowTheRouteTable :
    (tunnelOpen.Serves ∧ 96 < (List.replicate 97 (0x42 : Byte)).length ∧
      tunnelOpen.cfg.routes.find? (fun r => r.matchesCode (.site .a) 0x90) = none ∧
      tunnelOpen.cfg.routes.find? (fun r => r.matchesCode (.site .a) 0x42) =
        some ⟨true, .site .a, 0x40, 0x7F, 96, .forward⟩ ∧
      (tunnelOpen.reader .a).state = .attached ∧ (tunnelOpen.reader .a).down.length < 2) ∧
    (let rows (act : RouteAction) (n : Nat) := inRun.cfg.routes.set 2 ⟨true, .site .a, 0x40, 0x7F, n, act⟩;
      ((rows .drop 96).find? (fun r => r.matchesCode (.site .a) 0x42)).map RouteRow.action = some .drop ∧
      ((rows .violation 96).find? (fun r => r.matchesCode (.site .a) 0x42)).map RouteRow.action = some .violation ∧
      ((rows .forward 1).find? (fun r => r.matchesCode (.site .a) 0x42)).map RouteRow.maxLen = some 1) ∧
    ((inRun.reader .a).state ≠ .attached ∧ (inRun.reader .a).up = [] ∧ (attachedA.reader .a).up = [[0x41]]) ∧
    ({ attachedA.reader .a with down := [[0x45], [0x46]] }).down.length = 2 := by
  and_intros <;> decide +kernel

/-! ### The site line -/

def receiving (rx : Receiver) : State := { inRun with sli := { inRun.sli with rx := rx } }

theorem witness_TheReceiverCountsEveryError :
    ((replying none).powered = true ∧ (replying none).sli.tx = .waiting [1] none ∧
      ({ inRun with sli := { inRun.sli with tx := .gap [2] } } : State).sli.tx = .gap [2] ∧
      (sendingReply none).sli.tx = .sending [1] none ∧ (sendingReply none).Settled) ∧
    ((receiving .waitQuiet).Live ∧ (receiving .waitQuiet).sli.tx = .idle ∧ (receiving .waitQuiet).sli.rx = .waitQuiet) ∧
    (inRun.Live ∧ inRun.sli.rx = .hunt ∧ inRun.psq.mode ≠ .night ∧ (0xD4 : Byte) ≠ 0xD5) ∧
    ((receiving (.frame [7])).Live ∧ [(7 : Byte)].length < 2) ∧
    ((receiving (.frame [7, 0])).Live ∧ [(7 : Byte), 0].length = 2 ∧ (120 : Byte).toNat ≤ 120 ∧ 120 < (121 : Byte).toNat) ∧
    (inRun.sli.errors < inRun.cfg.thresholds.site) ∧
    (let s : State := { inRun with sli := { inRun.sli with errors := 24, overflow := true } };
      s.cfg.thresholds.site ≤ s.sli.errors ∧ s.sli.overflow = true) ∧
    (let s : State := { inNight with sli := { inRun.sli with errors := 24 } };
      s.cfg.thresholds.site ≤ s.sli.errors ∧ s.sli.overflow = false) := by
  and_intros <;> decide +kernel

theorem witness_RepliesAreSentBeforeWhatWaits :
    ((replying none).Live ∧ (replying none).sli.tx = .waiting [1] none) ∧
    ((sendingReply (some [2])).Live ∧ (sendingReply (some [2])).sli.tx = .sending [1] (some [2])) ∧
    ({ inRun with sli := { inRun.sli with tx := .gap [2] } } : State).Live ∧
    ((sendingReply none).Live ∧ (sendingReply none).sli.tx = .sending [1] none ∧
      (sendingReply none).psq.night = none ∧ (sendingReply none).psq.restart = .none ∧
      storeIdle (sendingReply none) = true) ∧
    (let s : State := { sendingReply none with sli := { (sendingReply none).sli with quietAfter := true } };
      s.Live ∧ s.sli.quietAfter = true ∧ s.cfg.speed = s.sli.line.speed) ∧
    ((replying none).psq.night = none ∧ (replying none).psq.restart = .none) ∧
    ({ sendingReply none with psq := { inRun.psq with night := some ⟨some 5, false⟩ } } : State).Live ∧
    ({ sendingReply none with psq := { inRun.psq with restart := .replying } } : State).Live := by
  and_intros <;> decide +kernel

/-! ### The local bus and the readers -/

/-- The part in a mode with its stage timer running, modules PRESENT, sides CLOSED. -/
def inMode (md : Mode) : State :=
  { inRun with
    sides := ⟨⟨.closed .management, [], 0, .none⟩, ⟨.closed .management, [], 0, .none⟩⟩
    psq := { Psq.cold with mode := md, stageTimer := some 200 } }

/-- Side A in STARTING on hose 2, so many ms after its entry. -/
def starting (ms : Nat) : State := { withA (.sale (.starting 1000) sale731) [.h2] inRun with now := ms }

theorem witness_OnlyAGoodEchoProvesADisplay :
    (busWith (slotA false) inRun).lbc.slot = some (slotA false) ∧
    ((inMode (.poweringUp (.displays true))).psq.mode = .poweringUp (.displays true) ∧
      (inMode (.poweringUp .load)).psq.mode = .poweringUp .load ∧ Stage.load ≠ .displays true) ∧
    (inRun.psq.mode = .run ∧ (withA (.closed .management) [] inRun).psq.mode = .run ∧
      (withA (.closed .management) [] inRun).sideState .a = .closed .management) ∧
    (stacked.psq.mode = .run ∧ stacked.sideState .a = .idle ∧
      newestRecord stacked.sru.journal .a = some record117 ∧ record117.scale = stacked.cfg.scale ∧
      newestRecord stacked.sru.journal .b = none) ∧
    (let s : State := { stacked with cfg := { stacked.cfg with scale := ⟨3, 3, 2, .halfUp⟩ } };
      newestRecord s.sru.journal .a = some record117 ∧ record117.scale ≠ s.cfg.scale) ∧
    ((starting 499).sideState .a = .sale (.starting 1000) sale731 ∧
      2 * ((starting 499).now - sale731.figures.start) < sale731.zeroTime ∧
      sale731.zeroTime ≤ 2 * ((starting 500).now - sale731.figures.start)) ∧
    ((fuelling 10).psq.mode = .run ∧ (fuelling 10).sideState .a = .sale (.fuelling 60000) (saleAt 10)) ∧
    (let s := busWith { slotA false with sent := false, answerBy := none } inRun;
      s.Live ∧ s.psq.mode = .run ∧ s.lbc.slot.isSome = true) ∧
    (let s := busWith (slotA false) inRun;
      s.Live ∧ s.lbc.slot = some (slotA false) ∧ (slotA false).slotId = .display (.sale .a) ∧
      (slotA false).sent = true ∧ (slotA false).take = true ∧ (slotA false).zero = false ∧
      (slotA false).answerBy = some 5) ∧
    (let s := busWith (slotA true) (starting 500);
      s.Live ∧ (slotA true).zero = true ∧ s.sideState .a = .sale (.starting 1000) sale731) ∧
    (100 < (List.replicate 101 (0 : Byte)).length ∧ (0x92 : Byte) ≠ ((slotA false).slotId.address ||| 0x80) ∧
      (0 : Word16) ≠ crc16 (localBody 0x91 [])) := by
  and_intros <;> decide +kernel

/-- A sale on side A whose reader is ATTACHED, with an empty downstream queue, the feed of both sides as given. -/
def feeding (feed : Bool) (last : Option Nat) (now : Nat) : State :=
  { (fuelling 10).withReader .a { ReaderRec.cold with state := .attached, lastFigures := last } with
    now := now
    cfg := { inRun.cfg with thresholds := { inRun.cfg.thresholds with feed := ⟨feed, feed⟩ } } }

theorem witness_ReaderAnswersAreCounted :
    ((inRun.reader .a).state = .off .power ∧ (quarantinedA .expired).reader .a = { ReaderRec.cold with
        state := .quarantined, hold := .expired } ∧
      ({ probing.reader .b with probe := none }).state = .probing ∧
      4 ≤ ({ attachedA.reader .a with up := [[1], [2], [3], [4]] }).up.length) ∧
    ((attachedA.reader .a).up.length < 4 ∧ (probing.reader .b).probe ≠ none ∧
      (attachedA.reader .a).state = .attached ∧ (attachedA.reader .a).down = [0x45] :: []) ∧
    ((feeding true none 0).sideState .a = .sale (.fuelling 60000) (saleAt 10) ∧
      (feeding true none 0).cfg.thresholds.feed.get .a = true ∧ ((feeding true none 0).reader .a).down = [] ∧
      ((feeding true (some 0) 500).reader .a).lastFigures = some 0 ∧ 0 + 500 ≤ (feeding true (some 0) 500).now ∧
      (feeding true (some 0) 499).now < 0 + 500 ∧ (feeding false none 0).cfg.thresholds.feed.get .a = false ∧
      (attachedA.sideState .a).sale? = none) ∧
    ((busWith readerSlotA attachedA).Live ∧ (busWith readerSlotA attachedA).lbc.slot = some readerSlotA ∧
      readerSlotA.slotId = .reader .a ∧ readerSlotA.sent = true ∧ readerSlotA.take = true ∧
      readerSlotA.answerBy = some 5 ∧ (busWith readerSlotA attachedA).psq.mode ≠ .poweringUp .readers ∧
      (List.replicate 100 (0 : Byte)).length ≤ 100 ∧ 100 < (List.replicate 101 (0 : Byte)).length) ∧
    ((busWith readerSlotA (inMode (.poweringUp .readers))).Live ∧
      (busWith readerSlotA (inMode (.poweringUp .readers))).psq.mode = .poweringUp .readers) ∧
    (let sl : Slot := { readerSlotA with take := false };
      (busWith sl attachedA).Live ∧ (busWith sl attachedA).lbc.slot = some sl ∧ sl.sent = true ∧ sl.take = false) ∧
    ((attachedA.reader .a).state = .attached ∧ (attachedA.reader .a).err + 1 < attachedA.cfg.thresholds.reader) ∧
    (let s := attachedA.withReader .a { attachedA.reader .a with err := 15 };
      (s.reader .a).err < s.cfg.thresholds.reader ∧ ¬ (s.reader .a).err + 1 < s.cfg.thresholds.reader) ∧
    attachedA.cfg.routes.find? (fun x => x.matchesCode (.reader .a) (0x90 : Byte).toNat) = none ∧
    (attachedA.cfg.routes.find? (fun x => x.matchesCode (.reader .a) 1) = some (supervisionRow .a) ∧
      ([0x03] : List Byte).length + 1 ≤ (supervisionRow .a).maxLen ∧
      (supervisionRow .a).maxLen < ([3, 3] : List Byte).length + 1 ∧ (supervisionRow .a).action = .supervisor ∧
      ([] : List Byte).length ≠ 1) ∧
    (let row (act : RouteAction) : RouteRow := ⟨true, .reader .a, 0x40, 0x40, 1, act⟩;
      let find (act : RouteAction) :=
        (attachedA.cfg.routes.set 2 (row act)).find? (fun x => x.matchesCode (.reader .a) 0x40);
      find .forward = some (row .forward) ∧ find .drop = some (row .drop) ∧ find .violation = some (row .violation)) ∧
    ((3 : Byte).getLsbD 1 = true ∧ (3 : Byte).getLsbD 0 = true ∧ (2 : Byte).getLsbD 0 = false ∧
      (1 : Byte).getLsbD 1 = false) ∧
    (probing.reader .b).state = .probing ∧ (inRun.reader .a).state.cut = true := by
  and_intros <;> decide +kernel

theorem witness_CutReadersAreFlushed :
    ReaderState.quarantined.cut = true ∧
    ((busWith readerSlotA attachedA).lbc.slot = some readerSlotA ∧ readerSlotA.slotId = .reader .a) ∧
    ((busWith (slotA false) attachedA).lbc.slot = some (slotA false) ∧ (slotA false).slotId ≠ .reader .a) ∧
    (probing.Live ∧ probing.psq.mode ≠ .poweringUp .readers ∧ (probing.reader .b).state = .probing ∧
      (probing.reader .b).probe = some 2000) ∧
    ((quarantinedA (.running 9)).Live ∧ ((quarantinedA (.running 9)).reader .a).hold = .running 9) ∧
    (attachedA.Live ∧ attachedA.lines.tamper.get .a = false ∧ (attachedA.reader .a).state ≠ .tampered) ∧
    ((inRun.withReader .a { ReaderRec.cold with state := .tampered }).Live ∧
      ((inRun.withReader .a { ReaderRec.cold with state := .tampered }).reader .a).state = .tampered) := by
  and_intros <;> decide +kernel

/-! ### Faults, meters, sides -/

theorem witness_FaultsActByTheSideState :
    (inRun.Live ∧ inRun.psq.mode = .run ∧ inRun.lbc.modules.get (.panel .b) = ⟨true, some 1000⟩) ∧
    (withA (.closed .nvFault) [] inRun).sideState .a = .closed .nvFault ∧ inRun.sideState .a = .idle ∧
    (fuelling 10).sideState .a = .sale (.fuelling 60000) (saleAt 10) ∧
    (let e (r : EndReason) : Ended := ⟨r, none, 10, none⟩;
      (stoppedWith (e .noFlow) 10).sideState .a = .sale (.stopped (e .noFlow)) (saleAt 10) ∧
      (e .strayFlow).reason.latched ≠ none ∧ (e .noFlow).reason.latched = none ∧ (saleAt 10).closureAfter = none) ∧
    (inRun.cfg.sideOpen.get .a = true ∧ State.reset.cfg.sideOpen.get .a = false ∧ State.reset.psq.mode ≠ .run ∧
      ClosedReason.nvFault ≠ .management) := by
  and_intros <;> decide +kernel

/-- The stray count below, at and above Sa, and at Sa with the report already given. -/
theorem witness_FreePulsesAreStray :
    (inRun.Live ∧ inRun.engagement .m5 = none ∧ (inRun.channel .m5).stray ≠ (inRun.cfg.meters.get .m5).sa ∧
      (inRun.cfg.meters.get .m5).mode = .quad) ∧
    (let s := inRun.withChannel .m5 ⟨none, 0, 65535, false, 0, 67⟩;
      s.engagement .m5 = none ∧ (s.channel .m5).stray ≠ (s.cfg.meters.get .m5).sa) ∧
    (let s := inRun.withChannel .m5 ⟨none, 0, 10, true, 0, 67⟩;
      s.Live ∧ s.engagement .m5 = none ∧ (s.channel .m5).strayTold = true) ∧
    (let s := inRun.withChannel .m5 ⟨none, 0, 10, false, 0, 67⟩;
      s.Live ∧ s.engagement .m5 = none ∧ (s.channel .m5).stray = (s.cfg.meters.get .m5).sa ∧
      (s.channel .m5).strayTold = false ∧
      owningSide s.cfg.hoses .m5 = some .b ∧ owningSide { s.cfg.hoses with h6 := none } .m5 = none) ∧
    ({ MeterConfig.default with mode := .single }).mode = .single := by
  and_intros <;> decide +kernel

theorem witness_EngagedPulsesArePriced :
    (fuelling 10).Live ∧ (fuelling 10).engagement .m2 = some (.a, saleAt 10, (saleAt 10).primaryCt) ∧
    ((fuelling 10).cfg.meters.get .m2).mode = .quad ∧
    (let c := (saleAt 10).primaryCt;
      c.net < 67108863 ∧ (99 : Nat) - c.rateStart < 100 ∧ 100 ≤ 100 - c.rateStart) ∧
    67108863 ≤ ({ (saleAt 10).primaryCt with net := 67108863 }).net := by
  and_intros <;> decide +kernel

/-- Side A with the sale in a phase. -/
def inPhase (p : Phase) (ctx : Sale) : State := withA (.sale p ctx) [.h2] inRun

/-- Each phase; no fault, each fault and both at once, for a reverse pulse at Ra + 1 and a rate at Fmax + 1; and
phase errors below, at and above the eighth. -/
theorem witness_PulsesActOnTheSale :
    (∀ p ∈ [Phase.starting 1000, .fuelling 60000, .slowing 60000, .suspended 60000,
        .stopped ⟨.noFlow, none, 10, none⟩],
      (inPhase p (saleAt 2689)).Live ∧ (inPhase p (saleAt 2689)).sideState .a = .sale p (saleAt 2689) ∧
      (inPhase p (saleAt 2689)).engagement .m2 = some (.a, saleAt 2689, (saleAt 2689).primaryCt)) ∧
    (inRun.cfg.meters.get .m2).mode = .quad ∧
    (let rev (d : Direction) (c : Counters) := d == .reverse &&
        decide (((inRun.cfg.meters.get .m2).ra : Int) < ((countPulse 0 d c).high : Int) - (countPulse 0 d c).net) &&
        !c.saidReverse;
      let high (d : Direction) (c : Counters) :=
        decide ((inRun.cfg.meters.get .m2).fmax < 10 * (countPulse 0 d c).rateCount) && !c.saidHigh;
      let c0 := (saleAt 100).primaryCt;
      let back : Counters := { c0 with net := 80 };
      let quick (c : Counters) : Counters := { c with rateCount := 200 };
      (rev .forward c0 = false ∧ high .forward c0 = false) ∧
      (rev .reverse back = true ∧ high .reverse back = false) ∧
      (rev .forward (quick c0) = false ∧ high .forward (quick c0) = true) ∧
      (rev .reverse (quick back) = true ∧ high .reverse (quick back) = true) ∧
      (rev .reverse { back with saidReverse := true } = false)) ∧
    ((saleAt 100).primaryCt.phase < 7 ∧ (saleAt 100).primaryCt.saidFault = false ∧
      ({ (saleAt 100).primaryCt with phase := 7 }).phase = 7 ∧
      7 ≤ ({ (saleAt 100).primaryCt with phase := 8, saidFault := true }).phase) := by
  and_intros <;> decide +kernel

theorem witness_ObservationsYieldAfterFourSteps :
    (inRun.Live ∧ (inRun.channel .m5).reference = none) ∧
    (let s := inRun.withChannel .m5 ⟨some ⟨false, true⟩, 3, 0, false, 0, 57⟩;
      s.Live ∧ (s.channel .m5).reference = some ⟨false, true⟩ ∧ (s.cfg.meters.get .m5).mode = .quad ∧
      (s.channel .m5).cyclePos = 3) ∧
    (let s := inRun.withChannel .m5 ⟨some ⟨false, false⟩, -3, 0, false, 0, 57⟩;
      s.Live ∧ (s.channel .m5).cyclePos = -3) ∧
    (inRun.cfg.meters.set .m5 { MeterConfig.default with mode := .single }).m5.mode = .single := by
  and_intros <;> decide +kernel

/-- The switch of hose 2 lifted, the side as given. -/
def lifted2 (st : SideState) : State :=
  { withA st [.h2] inRun with lines := { Lines.reset with nozzle := { Lines.reset.nozzle with h2 := true } } }

theorem witness_NozzlesMoveTheSide :
    (inRun.Live ∧ inRun.psq.mode = .run ∧ hoseSide inRun.cfg.hoses .h2 = some .a ∧
      inRun.lines.nozzle.get .h2 = false ∧ inRun.sideState .a = .idle) ∧
    ((waitingFor2 [] inRun).Live ∧ (waitingFor2 [] inRun).sideState .a = .authorized auth731) ∧
    ((lifted2 .calling).Live ∧ (lifted2 .calling).lines.nozzle.get .h2 = true ∧ (lifted2 .calling).sideState .a = .calling) ∧
    ((lifted2 (.sale (.fuelling 60000) (saleAt 10))).Live ∧ (saleAt 10).hose = .h2 ∧ (saleAt 10).hose ≠ .h3) ∧
    ((lifted2 (.sale (.stopped ⟨.noFlow, none, 10, none⟩) (saleAt 10))).Live ∧ (saleAt 10).hangSeen = false ∧
      ({ saleAt 10 with hangSeen := true }).hangSeen = true) := by
  and_intros <;> decide +kernel

theorem witness_SideTimersEndTheirStates :
    ((waitingFor2 [] inRun).Live ∧ (waitingFor2 [] inRun).lifted .a = [] ∧ auth731.timer = some 120000) ∧
    ((waitingFor2 [.h1] inRun).Live ∧ (waitingFor2 [.h1] inRun).lifted .a ≠ []) ∧
    ({ auth731 with timer := none }).timer = none ∧
    ((withA (.sale (.starting 1000) sale731) [.h2] inRun).Live ∧ sale731.zeroVerified = false ∧
      ({ sale731 with zeroVerified := true }).zeroVerified = true) ∧
    ((fuelling 10).Live ∧ (fuelling 10).sideState .a = .sale (.fuelling 60000) (saleAt 10)) ∧
    ((suspended 10).Live ∧ (suspended 10).sideState .a = .sale (.suspended 300000) (saleAt 10)) := by
  and_intros <;> decide +kernel

/-- A delivery, nothing delivered, and a blend of two meters. -/
theorem witness_CompletionStacksOneRecord :
    (let e : Ended := ⟨.limitReached, none, 2690, some 59400⟩;
      (stoppedWith e 2691).Live ∧ (stoppedWith e 2691).sideState .a = .sale (.stopped e) (saleAt 2691) ∧
      (saleAt 2691).figures.volume ≠ 0 ∧ e.settle = some 59400) ∧
    (let e : Ended := ⟨.noFlow, none, 0, none⟩;
      (stoppedWith e 0).Live ∧ (stoppedWith e 0).sideState .a = .sale (.stopped e) (saleAt 0) ∧ e.settle = none ∧
      (saleAt 0).figures.volume = 0 ∧ (saleAt 0).figures.amount = 0) ∧
    (saleAt 2691).secondary = none ∧
    (let ctx : Sale := { saleAt 2691 with secondary := some (.m1, (saleAt 10).primaryCt) };
      ctx.secondary = some (.m1, (saleAt 10).primaryCt) ∧ Meter.m1 ≠ ctx.primary) ∧
    owningSide inRun.cfg.hoses .m2 = some .a ∧ owningSide inRun.cfg.hoses .m5 ≠ some .a := by
  and_intros <;> decide +kernel

theorem witness_TheDriveRailStopsSales :
    (inRun.Live ∧ inRun.lines.railGood = true) ∧ (railDownState.Live ∧ railDownState.lines.railGood = false) ∧
    railDownState.sideState .a = .idle ∧
    (withA (.sale (.fuelling 60000) (saleAt 10)) [.h2] railDownState).sideState .a = .sale (.fuelling 60000) (saleAt 10) ∧
    ((waitingFor2 [.h2] railDownState).sideState .a = .authorized auth731 ∧
      ((waitingFor2 [.h2] railDownState).lifted .a).find? (allowedHose inRun.cfg.hoses .a auth731.allowed) = some .h2 ∧
      inRun.cfg.hoses.get .h2 = some hose2 ∧ inRun.ptu.active.entry hose2.grade auth731.level = 1859) ∧
    ((waitingFor2 [.h1] railDownState).lifted .a).find? (allowedHose inRun.cfg.hoses .a auth731.allowed) = none ∧
    ({ railDownState with ptu := { inRun.ptu with active := inRun.ptu.active.withEntry .g2 .l1 0 } } : State).ptu.active.entry
      hose2.grade auth731.level = 0 := by
  and_intros <;> decide +kernel

/-! ### Power, store and night -/

/-- A sale on each side: one that has delivered, and one that may not have. -/
def twoSales (highA highB : Nat) : State :=
  (fuelling highA).withSide .b ⟨.sale (.stopped ⟨.noFlow, none, 0, none⟩) (saleAt highB), [], 0, .none⟩

theorem witness_ThePowerWarningCompletesSales :
    ((twoSales 10 10).Live ∧ (twoSales 10 10).psq.mode = .run ∧ (twoSales 10 10).lines.warning = false ∧
      (twoSales 10 10).sideState .a = .sale (.fuelling 60000) (saleAt 10) ∧ (twoSales 10 10).delivers .a = true ∧
      (twoSales 10 10).delivers .b = true ∧ (twoSales 10 0).delivers .b = false) ∧
    (let s (l : List Hose) := waitingFor2 l inRun;
      ((s [.h1]).lifted .a).find? (allowedHose inRun.cfg.hoses .a auth731.allowed) = none ∧
      ((s [.h2]).lifted .a).find? (allowedHose inRun.cfg.hoses .a auth731.allowed) = some .h2 ∧
      inRun.cfg.hoses.get .h2 = some hose2 ∧ inRun.ptu.active.entry hose2.grade auth731.level = 1859 ∧
      (inRun.ptu.active.withEntry .g2 .l1 0).entry .g2 .l1 = 0) ∧
    ((fuelling 10).Live ∧ (fuelling 10).lines.warning = false ∧ (fuelling 10).psq.mode = .run ∧
      ((fuelling 10).sideState .a).sale? = some (saleAt 10) ∧ ((fuelling 10).sideState .b).sale? = none ∧
      (fuelling 10).sideState .b = .idle) ∧
    (waitingFor2 [] inRun).sideState .a = .authorized auth731 ∧
    (inNight.Live ∧ inNight.lines.warning = false ∧ inNight.psq.mode = .night) ∧
    ((inMode (.poweringUp .readers)).Live ∧ (inMode (.poweringUp .readers)).psq.restarts + 1 < 3) ∧
    (warned.Live ∧ warned.lines.warning = true ∧ warned.psq.mode = .run) ∧
    (let s : State := { inMode (.poweringUp .apply) with lines := warned.lines };
      s.Live ∧ s.psq.mode = .poweringUp .apply) := by
  and_intros <;> decide +kernel

theorem witness_PowerOnHasTheColdValues :
    ({ inRun with powered := false } : State).powered = false ∧ inRun.powered = true ∧ inRun.nvs.job = none ∧
    (let s (c : WriteContent) : State := { inRun with nvs := { inRun.nvs with job := some ⟨c, 20⟩ } };
      ∀ c ∈ [WriteContent.config inRun.cfg, .prices inRun.ptu, .metrology .m0 ⟨.lost, 9⟩, .metrology .m1 ⟨.lost, 9⟩],
        (s c).powered = true ∧ (s c).nvs.job = some ⟨c, 20⟩) := by
  and_intros <;> decide +kernel

/-- LOAD at a read of each block, the store holding three good ones. -/
def reading (b : Block) (n : Nat) (g0 : Bool) : State :=
  { State.reset with nvs := { Nvs.blank with
      config := some .default, prices := some .lost, slot0 := some ⟨.lost, 6⟩, slot1 := some ⟨.lost, 7⟩
      load := .reading true b n g0 3 } }

/-- LOAD at a read of each block: first and last attempt, good and bad; the newer slot, none; a scheduled table; a reply
that is being sent; and stamps at the ends of their range. -/
theorem witness_LoadReadsTheFourBlocks :
    (reading .m1 1 true).SalesOk ∧
    ((reading .config 3 false).powered = true ∧ (reading .config 3 false).psq.mode = .poweringUp .load ∧
      (reading .config 3 false).psq.night = none ∧ (reading .config 3 false).psq.restart = .none ∧
      (reading .config 3 false).nvs.job = none ∧
      (reading .config 3 false).nvs.load = .reading true .config 3 false 3 ∧
      (reading .config 4 false).nvs.config = some .default ∧ (reading .prices 4 false).nvs.prices = some .lost ∧
      (reading .config 4 false).sli.tx = .idle ∧ (reading .m0 1 false).nvs.slot0 = some ⟨.lost, 6⟩ ∧
      (reading .m0 4 false).nvs.load = .reading true .m0 4 false 3) ∧
    ((reading .m1 4 false).ptu.generation ≤ 65535 ∧ (reading .m1 1 true).nvs.slot1 ≠ none ∧
      newerSlot (reading .m1 1 true).nvs.slot0 (reading .m1 1 true).nvs.slot1 = some (.m1, ⟨.lost, 7⟩) ∧
      newerSlot none none = none ∧ (reading .m1 1 true).ptu.pending = false ∧
      (reading .m1 1 true).lines.warning = false ∧ warned.lines.warning = true) ∧
    (let s : State := { reading .m1 1 true with ptu := ⟨.zero, 65535, some prices, true⟩ };
      s.ptu.pending = true ∧ s.ptu.staged = some prices ∧ prices ≠ s.ptu.active ∧ s.ptu.generation ≤ 65535) ∧
    (let s : State := { reading .config 1 false with sli := { State.reset.sli with tx := .sending [1] none } };
      s.sli.tx = .sending [1] none ∧ s.nvs.config = some .default) ∧
    (1 ≤ (⟨.lost, 1⟩ : Stamped).stamp ∧ (⟨.lost, 4294967295⟩ : Stamped).stamp ≤ 4294967295) := by
  refine ⟨⟨fun sd => by cases sd <;> decide +kernel, by decide +kernel, by decide +kernel, by decide +kernel⟩, ?_⟩
  and_intros <;> decide +kernel

/-- The end of the display probe with no reader supplied: the wake cause, the closures found, the display of side A. -/
def atReady (cause : WakeCause) (found : Found) (present : Bool) : State :=
  let s := inMode (.poweringUp (.displays false))
  { s with
    psq := { s.psq with cause := cause, found := ⟨found, found⟩ }
    lbc := { s.lbc with modules := s.lbc.modules.set (.sale .a) ⟨present, none⟩ } }

theorem witness_TheSequenceComesUpInStages :
    (let s := inMode (.poweringUp (.supplies .a));
      s.Live ∧ s.psq.stageTimer = some 200 ∧ s.psq.restart = .none ∧ s.psq.night = none) ∧
    (inMode (.poweringUp (.supplies .b))).Live ∧ (inMode (.poweringUp (.displays true))).Live ∧
    (let s := atReady .powerOn ⟨false, false, false⟩ true;
      s.Live ∧ (s.psq.found.get .a).config = false ∧ (s.psq.found.get .a).metrology = false ∧
      (s.lbc.modules.sale.get .a).present = true ∧ (s.lbc.modules.panel.get .a).present = true ∧
      s.psq.cause = .powerOn ∧ (s.reader .a).state ≠ .probing ∧ (s.reader .b).state ≠ .probing) ∧
    (let s := atReady .fallback ⟨true, false, false⟩ true;
      s.Live ∧ (s.psq.found.get .a).config = true ∧ s.psq.cause ≠ .powerOn ∧ s.psq.cause ≠ .restart ∧
      s.psq.cause = .fallback) ∧
    (let s := atReady .nozzle ⟨false, false, false⟩ false;
      s.Live ∧ (s.lbc.modules.sale.get .a).present = false ∧ s.psq.cause = .nozzle) ∧
    (((inMode (.poweringUp (.displays false))).withReader .b (probing.reader .b)).reader .b).state = .probing ∧
    (inMode (.poweringUp .wait)).Live ∧
    ((inRun.lines.tamper.get .a = false) ∧ ({ Lines.reset with tamper := ⟨true, false⟩ }).tamper.get .a = true) := by
  and_intros <;> decide +kernel

/-- A write of each content in progress, with so many METROLOGY failures before it. -/
def writing (c : WriteContent) (n : Nat) : State :=
  { inRun with nvs := { inRun.nvs with job := some ⟨c, 20⟩, fail := ⟨0, 0, n⟩ } }

theorem witness_WritesAreVerifiedOrTriedAgain :
    (∀ c ∈ [WriteContent.config inRun.cfg, .prices inRun.ptu, .metrology .m0 ⟨.lost, 5209⟩,
        .metrology .m1 ⟨.lost, 5209⟩],
      (writing c 1).powered = true ∧ (writing c 1).nvs.job = some ⟨c, 20⟩ ∧ (writing c 1).nvs.load = .none ∧
      (writing c 1).psq.night = none ∧ (writing c 1).psq.restart ≠ .draining ∧
      (writing c 1).nvs.fail.get c.kind < 2) ∧
    (let c : WriteContent := .metrology .m0 ⟨.lost, 5209⟩;
      c.kind = .metrology ∧ (writing c 2).nvs.fail.metrology = 2 ∧ (writing c 2).sideState .a = .idle) ∧
    (fuelling 10).sideState .a = .sale (.fuelling 60000) (saleAt 10) := by
  and_intros <;> decide +kernel

/-- In NIGHT with side A's nozzle wake, the armed flag and the overflow mark as given. -/
def asleep (nozzle armed mark : Bool) : State :=
  { inNight with
    cfg := { inRun.cfg with wake := { Wake.default with nozzle := ⟨nozzle, false⟩, armed := armed } }
    psq := { inNight.psq with overflowMark := mark } }

theorem witness_WakesAndReturnsToNight :
    (inNight.Live ∧ inNight.psq.wakeTimer = some 28800000 ∧ inNight.psq.mode = .night ∧
      inNight.psq.restart = .none ∧ inNight.psq.night = none) ∧
    (let s := withA .calling [.h2] (asleep true false false);
      s.Live ∧ s.cfg.wake.nozzle.get .a = true ∧ s.lifted .a ≠ []) ∧
    (hoseSide (asleep true false false).cfg.hoses .h2 = some .a ∧
      (asleep true false false).lines.nozzle.get .h2 = false ∧
      ((asleep true false false).sideState .a).busy = false ∧
      (asleep false false false).cfg.wake.nozzle.get .a = false) ∧
    (inNight.sli.tx = .idle ∧ inNight.sli.rx = .hunt ∧ (asleep false false false).Live ∧
      (asleep false false false).cfg.wake.armed = false ∧ (asleep false true true).Live ∧
      (asleep false true true).psq.overflowMark = true) ∧
    (let s := asleep false true false;
      s.Live ∧ s.cfg.wake.armed = true ∧ s.psq.overflowMark = false ∧ (0x7F : Byte).toNat < 128 ∧
      filterMatches s.cfg.wake 0xFF 0x7F [] = true ∧ 128 ≤ (0x80 : Byte).toNat ∧
      filterMatches { s.cfg.wake with port := some 1 } 7 0 [] = false) ∧
    (let s := { inRun with psq := { inRun.psq with confirmTimer := some 60000, wakeTimer := some 90000 } };
      s.Live ∧ s.psq.confirmTimer = some 60000 ∧ s.psq.wakeTimer = some 90000 ∧ s.psq.mode ≠ .night ∧
      storeIdle s = true) ∧
    (let s := { restartDrain with psq := { inRun.psq with confirmTimer := some 60000 } };
      s.Live ∧ storeIdle s = false) ∧
    (∀ sd, inRun.cfg.wake.nozzle.get sd = false) :=
  ⟨by decide +kernel, by decide +kernel, by decide +kernel, by decide +kernel, by decide +kernel,
    by decide +kernel, by decide +kernel, fun sd => by cases sd <;> decide +kernel⟩

end Sys2Proof.Tests
end

section

/-! ## The amount's rounding (R24) -/

namespace Sys2Proof.Machine

open Sys2Proof

/-- The amount unit counted in units of the product Q is never zero. -/
theorem amountUnit_pos (sc : Scale) : 0 < 10 ^ sc.exponent := Nat.pow_pos (by decide)

theorem amountOf_down {sc : Scale} (hdown : sc.rounding = .down) (v p : Nat) :
    amountOf sc v p = v * p / 10 ^ sc.exponent := by
  simp only [amountOf, hdown]

/-- One equation for HALF_UP: the model's separate case e = 0 is the same quotient, since half of 1 is 0. -/
theorem amountOf_halfUp {sc : Scale} (hup : sc.rounding = .halfUp) (v p : Nat) :
    amountOf sc v p = (v * p + 10 ^ sc.exponent / 2) / 10 ^ sc.exponent := by
  simp only [amountOf, hup]
  split
  · next he => simp [he]
  · rfl

/-- Adding half a unit `d` before the division gives the nearest multiple of `d`, and the upper one at exactly half. -/
theorem div_add_half_nearest (q : Nat) {d : Nat} (hd : 0 < d) :
    2 * ((q + d / 2) / d * d) ≤ 2 * q + d ∧ 2 * q < 2 * ((q + d / 2) / d * d) + d := by
  have hlower : (q + d / 2) / d * d ≤ q + d / 2 := Nat.div_mul_le_self _ _
  have hupper : q + d / 2 < (q + d / 2) / d * d + d := Nat.lt_div_mul_add hd
  omega

/-- Settles O14: DOWN is the quotient of the product by the unit, HALF_UP the same quotient after half a unit is
added. -/
theorem theAmountIsRoundedAsTheScaleSays : Obligations.TheAmountIsRoundedAsTheScaleSays := by
  intro sc v p
  have hunit := amountUnit_pos sc
  constructor
  · intro hdown
    rw [amountOf_down hdown]
    exact ⟨Nat.div_mul_le_self _ _, Nat.lt_mul_of_div_lt (Nat.lt_succ_self _) hunit⟩
  · intro hup
    rw [amountOf_halfUp hup]
    exact div_add_half_nearest (v * p) hunit

end Sys2Proof.Machine
end

section

/-! ## Taking a served request (R183, R190, R149) -/

namespace Sys2Proof.Machine

open Sys2Proof

/-- In RUN, outside a restart drain, every request goes to its owner; the wake confirm changes neither. -/
theorem admission_confirmWake_of_serves {s : State} (hs : s.Serves) (m : AddrMode) (k : ReqKind) :
    admission k (confirmWake m s) = .serve := by
  obtain ⟨-, hrun, hrestart, -, -⟩ := hs
  unfold confirmWake
  split <;> simp [admission, State.restartDraining, hrun, hrestart]

theorem confirmWake_mode (m : AddrMode) (s : State) : (confirmWake m s).psq.mode = s.psq.mode := by
  unfold confirmWake
  split <;> rfl

/-- The wake confirm asks no drain and ends none. -/
theorem settled_confirmWake {s : State} (hs : s.Settled) (m : AddrMode) : (confirmWake m s).Settled := by
  refine settled_of_eq hs ?_ ?_ ?_ <;> unfold confirmWake <;> split <;> rfl

theorem replyTo_eq_withReplyIn (m : AddrMode) (k : ReqKind) (r : Result) {t : State} (hmode : t.psq.mode ≠ .night) :
    replyTo m k t.sli.line.address ⟨t, r, [], none⟩ = t.withReplyIn m k r := by
  cases m <;> simp [replyTo, sendReply, State.withReplyIn, State.withReply, hmode]

/-- A served request without data in its reply: the owner acts after the wake confirm, a reply is put in waiting where
the mode asks one, and the event ends. -/
theorem request_of_serves {s t : State} {m : AddrMode} {k : ReqKind} {owner : State → Answered} {r : Result}
    (hs : s.Serves) (hm : k.allows m = true) (howner : owner (confirmWake m s) = ⟨t, r, [], none⟩)
    (hmode : t.psq.mode = s.psq.mode) (hline : t.sli.line = s.sli.line) :
    request m k owner s = .next (finish (t.withReplyIn m k r)) := by
  have hadmit := admission_confirmWake_of_serves hs m k
  obtain ⟨hpow, hrun, -, hidle, -⟩ := hs
  have hreply := replyTo_eq_withReplyIn m k r (t := t) (by simp [hmode, hrun])
  simp only [request, event, hpow, if_true, arriveRequest, hidle, takeRequest, hm, admitRequest, hadmit,
    serveRequest, howner]
  rw [← hreply, hline]
  simp

theorem finish_withReplyIn_of_settled {t : State} (ht : t.Settled) (m : AddrMode) (k : ReqKind) (r : Result) :
    finish (t.withReplyIn m k r) = t.withReplyIn m k r := by
  refine finish_eq_of_eq ht ?_ ?_ ?_ <;> cases m <;> rfl

/-- A served request that leaves the store and the sequencer as they were after the wake confirm ends with the reply. -/
theorem request_of_serves_store_kept {s t : State} {m : AddrMode} {k : ReqKind} {owner : State → Answered} {r : Result}
    (hs : s.Serves) (hm : k.allows m = true) (howner : owner (confirmWake m s) = ⟨t, r, [], none⟩)
    (hnvs : t.nvs = s.nvs) (hpsq : t.psq = (confirmWake m s).psq) (hline : t.sli.line = s.sli.line) :
    request m k owner s = .next (t.withReplyIn m k r) := by
  have ⟨_, _, _, _, hbefore⟩ := hs
  have hsettled : t.Settled :=
    settled_of_eq (settled_confirmWake hbefore m) (by simp [hnvs]) (by rw [hpsq]) (by rw [hpsq])
  rw [request_of_serves hs hm howner (by rw [hpsq, confirmWake_mode]) hline,
    finish_withReplyIn_of_settled hsettled]

/-- A served request that its owner refuses changes nothing but the wake confirm and the reply (R159). -/
theorem request_refused {s : State} {m : AddrMode} {k : ReqKind} {owner : State → Answered} {r : Result}
    (hs : s.Serves) (hm : k.allows m = true)
    (howner : owner (confirmWake m s) = refuse r (confirmWake m s)) :
    request m k owner s = .next ((confirmWake m s).withReplyIn m k r) :=
  request_of_serves_store_kept hs hm howner (by simp) rfl (by simp)

/-- A kind that waits in the queue still waits after the start of a write, or its write has begun (R174). -/
theorem beginWrite_queued_or_begun {k : Kind} {s : State} (hk : k ∈ s.nvs.queue) :
    k ∈ (beginWrite s).nvs.queue ∨ (beginWrite s).nvs.job.map WriteJob.content = some (takeContent s k) := by
  rcases beginWrite_cases s with ⟨hsame, -⟩ | ⟨front, rest, -, -, hqueue, hbegun⟩
  · exact .inl (by rwa [hsame])
  · rw [hqueue, List.mem_cons] at hk
    rw [hbegun]
    rcases hk with rfl | hrest
    · exact .inr rfl
    · exact .inl hrest

@[simp] theorem State.withReply_frame (s : State) (k : ReqKind) (r : Result) (d : List Byte) :
    (s.withReply k r d).now = s.now ∧ (s.withReply k r d).lines = s.lines ∧ (s.withReply k r d).cfg = s.cfg ∧
    (s.withReply k r d).mci = s.mci ∧ (s.withReply k r d).sides = s.sides ∧ (s.withReply k r d).ptu = s.ptu ∧
    (s.withReply k r d).sru = s.sru ∧ (s.withReply k r d).stack = s.stack ∧ (s.withReply k r d).lbc = s.lbc ∧
    (s.withReply k r d).riu = s.riu ∧ (s.withReply k r d).nvs = s.nvs ∧ (s.withReply k r d).psq = s.psq := by
  simp [State.withReply]

/-! The reads of a side and of a channel see through the wake confirm, the reply and the start of a write. -/

@[simp] theorem confirmWake_side (m : AddrMode) (s : State) (sd : Side) :
    (confirmWake m s).side sd = s.side sd := by
  simp [State.side]

@[simp] theorem State.withReply_side (s : State) (k : ReqKind) (r : Result) (d : List Byte) (sd : Side) :
    (s.withReply k r d).side sd = s.side sd := rfl

@[simp] theorem beginWrite_side (s : State) (sd : Side) : (beginWrite s).side sd = s.side sd := by
  simp [State.side]

@[simp] theorem confirmWake_channel (m : AddrMode) (s : State) (c : Meter) :
    (confirmWake m s).channel c = s.channel c := by
  simp [State.channel]

@[simp] theorem State.withReply_channel (s : State) (k : ReqKind) (r : Result) (d : List Byte) (c : Meter) :
    (s.withReply k r d).channel c = s.channel c := rfl

@[simp] theorem beginWrite_channel (s : State) (c : Meter) : (beginWrite s).channel c = s.channel c := by
  simp [State.channel]

theorem sideOf_num (sd : Side) : sideOf sd.num = some sd := by cases sd <;> rfl

theorem sideOf_eq_none {v : Nat} (ha : v ≠ 1) (hb : v ≠ 2) : sideOf v = none := by
  unfold sideOf
  split
  · exact absurd rfl ha
  · exact absurd rfl hb
  · rfl

end Sys2Proof.Machine
end

section

/-! ## STOP (R43) -/

namespace Sys2Proof.Machine

open Sys2Proof

theorem enterOpen_line (sd : Side) (s : State) : (enterOpen sd s).sli.line = s.sli.line := by
  rcases enterOpen_cases sd s with ⟨-, h⟩ | ⟨-, h⟩ <;> rw [h] <;> rfl

theorem stopSide_of_not_busy {sd : Side} {s : State} (h : (s.sideState sd).busy = false) : stopSide sd s = s := by
  unfold stopSide
  split
  · next ha => simp [ha, SideState.busy] at h
  · next hp => simp [hp, SideState.busy] at h
  · rfl

theorem stopSide_of_authorized {sd : Side} {s : State} {a : Auth} (h : s.sideState sd = .authorized a) :
    stopSide sd s = enterOpen sd s := by
  simp only [stopSide, h]

theorem stopSide_of_sale {sd : Side} {s : State} {p : Phase} {ctx : Sale} (h : s.sideState sd = .sale p ctx) :
    stopSide sd s = stopSale sd .siteStop none s := by
  simp only [stopSide, h]

/-- A sale in STOPPED keeps the end it has. -/
theorem stopSale_of_stopped {sd : Side} {s : State} {e : Ended} {ctx : Sale}
    (h : s.sideState sd = .sale (.stopped e) ctx) (reason : EndReason) (fault : Option Meter) :
    stopSale sd reason fault s = s := by
  simp only [stopSale, h]

theorem stopSale_of_not_stopped {sd : Side} {s : State} {p : Phase} {ctx : Sale} (h : s.sideState sd = .sale p ctx)
    (hp : ∀ e, p ≠ .stopped e) (reason : EndReason) (fault : Option Meter) :
    stopSale sd reason fault s = s.withSideState sd
      (.sale (.stopped ⟨reason, fault, ctx.figures.volume, settleAtEntry s ctx⟩) ctx) := by
  rcases stopSale_cases sd reason fault s with ⟨-, hstopped⟩ | ⟨q, c, hq, -, heq⟩
  · obtain ⟨e, he⟩ := hstopped p ctx h
    exact absurd he (hp e)
  · cases h.symm.trans hq
    exact heq

theorem stopSide_line (sd : Side) (s : State) : (stopSide sd s).sli.line = s.sli.line := by
  cases h : s.sideState sd with
  | authorized a => rw [stopSide_of_authorized h, enterOpen_line]
  | sale p ctx => rw [stopSide_of_sale h]; simp
  | closed r => rw [stopSide_of_not_busy (by simp [h, SideState.busy])]
  | idle => rw [stopSide_of_not_busy (by simp [h, SideState.busy])]
  | calling => rw [stopSide_of_not_busy (by simp [h, SideState.busy])]

theorem stop_allows (m : AddrMode) : ReqKind.stop.allows m = true := by cases m <;> rfl

theorem ownStop_badField {v : Nat} (hv : v = 0 ∨ 3 < v) (s : State) : ownStop v s = refuse .badField s := by
  unfold ownStop
  split
  case h_4 => rfl
  all_goals omega

/-- An accepted STOP touches the sides and their call events alone, so nothing follows it but the reply. -/
theorem exec_stop_accepted {m : AddrMode} {s : State} (hs : s.Serves) {v : Nat} {f : State → State}
    (hown : ∀ u, ownStop v u = okay (f u))
    (hkeeps : ∀ u, (f u).nvs = u.nvs ∧ (f u).psq = u.psq ∧ (f u).sli.line = u.sli.line) :
    exec (.stop m v) s = .next ((f (confirmWake m s)).withReplyIn m .stop .ok) := by
  obtain ⟨hnvs, hpsq, hline⟩ := hkeeps (confirmWake m s)
  exact request_of_serves_store_kept hs (stop_allows m) (hown _) (by simp [hnvs]) hpsq (by simp [hline])

/-- Settles O24: the request by its side field, and then what STOP makes of each side state. -/
theorem stopEndsAuthorizationsAndSales : Obligations.StopEndsAuthorizationsAndSales := by
  refine ⟨fun m s hs => ⟨?sideA, ?sideB, ?both, ?badField⟩, fun sd s => ⟨?kept, ?authorized, ?sale⟩⟩
  case sideA => exact exec_stop_accepted hs (fun _ => rfl) fun u => by simp [stopSide_line]
  case sideB => exact exec_stop_accepted hs (fun _ => rfl) fun u => by simp [stopSide_line]
  case both =>
    exact exec_stop_accepted hs (f := fun u => stopSide .b (stopSide .a u)) (fun _ => rfl)
      fun u => by simp [stopSide_line]
  case badField =>
    intro v hv
    exact request_refused hs (stop_allows m) (ownStop_badField hv _)
  case kept =>
    rintro (⟨r, h⟩ | h | h | ⟨e, ctx, h⟩)
    · exact stopSide_of_not_busy (by simp [h, SideState.busy])
    · exact stopSide_of_not_busy (by simp [h, SideState.busy])
    · exact stopSide_of_not_busy (by simp [h, SideState.busy])
    · rw [stopSide_of_sale h, stopSale_of_stopped h]
  case authorized =>
    intro a h
    rw [stopSide_of_authorized h]
    rfl
  case sale =>
    intro p ctx h hp
    rw [stopSide_of_sale h, stopSale_of_not_stopped h hp]
    rfl

end Sys2Proof.Machine
end

section

/-! ## OPEN_SIDE (R62) -/

namespace Sys2Proof.Machine

open Sys2Proof

/-! ### The operations an opened side goes through -/

theorem Event.number_lt (e : Event) : e.number < 16 := by
  unfold Event.number
  split <;> decide

theorem raised_raise (e : Event) (s : State) : (raise e s).raised e = true := by
  simp [raise, State.raised, Event.bit, e.number_lt]

theorem formPanel_congr {s t : State} (sd : Side) (hstate : t.sideState sd = s.sideState sd)
    (hhoses : t.cfg.hoses = s.cfg.hoses) (hptu : t.ptu = s.ptu) : formPanel t sd = formPanel s sd := by
  simp [formPanel, panelGroup, openGroup, hstate, hhoses, hptu]

theorem enterOpen_sideState (sd : Side) (s : State) :
    (enterOpen sd s).sideState sd = if s.lifted sd = [] then .idle else .calling := by
  rcases enterOpen_cases sd s with ⟨hl, h⟩ | ⟨hl, h⟩ <;> rw [h]
  · simp [hl]
  · rw [if_neg hl]
    exact State.sideState_withSideState s sd .calling

theorem enterOpen_raised {sd : Side} {s : State} (hl : s.lifted sd ≠ []) :
    (enterOpen sd s).raised (.call sd) = true := by
  rcases enterOpen_cases sd s with ⟨hempty, -⟩ | ⟨-, h⟩
  · exact absurd hempty hl
  · rw [h, raised_raise]

theorem enterOpen_side_other (sd : Side) (s : State) : (enterOpen sd s).side sd.other = s.side sd.other := by
  rcases enterOpen_cases sd s with ⟨-, h⟩ | ⟨-, h⟩ <;> rw [h] <;> simp [State.side]

theorem resetStrays_channel (sd : Side) (s : State) (m : Meter) :
    (resetStrays sd s).channel m =
      if owningSide s.cfg.hoses m = some sd then { s.channel m with stray := 0, strayTold := false }
      else s.channel m := by
  simp [resetStrays, State.channel, Channel.strayReset]

/-! ### What an accepted OPEN_SIDE leaves -/

section
variable (sd : Side) (s : State)

theorem openSide_sideState :
    (openSide sd s).sideState sd = if s.lifted sd = [] then .idle else .calling :=
  enterOpen_sideState sd _

theorem openSide_raised (hl : s.lifted sd ≠ []) : (openSide sd s).raised (.call sd) = true :=
  enterOpen_raised hl

theorem openSide_cfg : (openSide sd s).cfg = { s.cfg with sideOpen := s.cfg.sideOpen.set sd true } := by
  simp [openSide, setCfg]

theorem openSide_queues_config : Kind.config ∈ (openSide sd s).nvs.queue := by
  simp [openSide, setCfg, requestWrite, mem_enqueueKind]

theorem openSide_line : (openSide sd s).sli.line = s.sli.line :=
  enterOpen_line sd _

theorem openSide_channel (m : Meter) :
    (openSide sd s).channel m =
      if owningSide s.cfg.hoses m = some sd then { s.channel m with stray := 0, strayTold := false }
      else s.channel m := by
  have hopen := resetStrays_channel sd (setCfg { s.cfg with sideOpen := s.cfg.sideOpen.set sd true } s) m
  simpa [openSide, State.channel, setCfg] using hopen

theorem openSide_side_other : (openSide sd s).side sd.other = s.side sd.other :=
  enterOpen_side_other sd _

theorem openSide_panel : (openSide sd s).lbc.panels.get sd = formPanel (openSide sd s) sd := by
  simp only [openSide, handPanel, State.withLbc_lbc, PerSide.get_set_same]
  exact formPanel_congr sd rfl rfl rfl

end

/-! ### The checks -/

/-- Checks 2 to 5 of R62 in the words of the rule. -/
theorem openAllowed_iff (s : State) (sd : Side) :
    openAllowed s sd = true ↔
      (∃ r, s.sideState sd = .closed r) ∧ (∃ h, hoseSide s.cfg.hoses h = some sd) ∧
      (s.lbc.modules.sale.get sd).present = true ∧ (s.lbc.modules.panel.get sd).present = true ∧
      s.nvs.condition = .clear := by
  have hclosed : s.closedSide sd = true ↔ ∃ r, s.sideState sd = .closed r := by
    unfold State.closedSide
    cases s.sideState sd <;> simp
  have hmapped : sideMapped s.cfg.hoses sd = true ↔ ∃ h, hoseSide s.cfg.hoses h = some sd := by
    have hall : ∀ h : Hose, h ∈ Hose.all := by intro h; cases h <;> decide
    simp [sideMapped, hall]
  simp [openAllowed, State.sideLost, hclosed, hmapped, and_assoc]

/-- The checks read nothing that the wake confirm changes. -/
theorem openAllowed_confirmWake (m : AddrMode) (s : State) (sd : Side) :
    openAllowed (confirmWake m s) sd = openAllowed s sd := by
  simp [openAllowed, State.closedSide, State.sideState, State.side, State.sideLost]

theorem ownOpenSide_num (sd : Side) (s : State) :
    ownOpenSide sd.num s = if openAllowed s sd then okay (openSide sd s) else refuse .state s := by
  simp [ownOpenSide, sideOf_num, orRefuse]

theorem ownOpenSide_badField {v : Nat} (ha : v ≠ 1) (hb : v ≠ 2) (s : State) :
    ownOpenSide v s = refuse .badField s := by
  simp [ownOpenSide, sideOf_eq_none ha hb, orRefuse]

theorem exec_openSide_accepted {s : State} (hs : s.Serves) {sd : Side} (hallowed : openAllowed s sd = true) :
    exec (.openSide .unicast sd.num) s =
      .next (beginWrite ((openSide sd (confirmWake .unicast s)).withReply .openSide .ok [])) := by
  have hown : ownOpenSide sd.num (confirmWake .unicast s) = okay (openSide sd (confirmWake .unicast s)) := by
    rw [ownOpenSide_num, openAllowed_confirmWake, if_pos hallowed]
  have hreq := request_of_serves (k := .openSide) hs rfl hown (by simp [confirmWake_mode]) (by simp [openSide_line])
  exact hreq.trans (congrArg _ (finish_of_queue (List.ne_nil_of_mem (openSide_queues_config sd _))))

theorem exec_openSide_refused {s : State} (hs : s.Serves) {sd : Side} (hrefused : openAllowed s sd = false) :
    exec (.openSide .unicast sd.num) s = .next (s.answeredWith .openSide .state []) := by
  have hown : ownOpenSide sd.num (confirmWake .unicast s) = refuse .state (confirmWake .unicast s) := by
    rw [ownOpenSide_num, openAllowed_confirmWake, hrefused, if_neg (by simp)]
  exact request_refused hs rfl hown

/-- What an accepted OPEN_SIDE leaves of the state: the opened side after the wake confirm, read through the reply and
the start of the CONFIG write. -/
theorem opened_after_event (sd : Side) (s : State) :
    let t := beginWrite ((openSide sd (confirmWake .unicast s)).withReply .openSide .ok [])
    t.sideState sd = (if s.lifted sd = [] then .idle else .calling) ∧
    (s.lifted sd ≠ [] → t.raised (.call sd) = true) ∧
    t.cfg = { s.cfg with sideOpen := s.cfg.sideOpen.set sd true } ∧
    (.config ∈ t.nvs.queue ∨ t.nvs.job.map WriteJob.content = some (.config t.cfg)) ∧
    t.sli.tx = .waiting (replyFrame s.sli.line.address 3 0x2D .ok []) none ∧
    (∀ m, owningSide s.cfg.hoses m = some sd →
      t.channel m = { s.channel m with stray := 0, strayTold := false }) ∧
    (∀ m, owningSide s.cfg.hoses m ≠ some sd → t.channel m = s.channel m) ∧
    t.side sd.other = s.side sd.other ∧ t.lbc.panels.get sd = formPanel t sd ∧
    t.ptu = s.ptu ∧ t.sru = s.sru ∧ t.stack = s.stack ∧ t.riu = s.riu ∧ t.lines = s.lines ∧ t.now = s.now := by
  have hlifted : (confirmWake .unicast s).lifted sd = s.lifted sd := by simp [State.lifted]
  have hstate := openSide_sideState sd (confirmWake .unicast s)
  have hraised := openSide_raised sd (confirmWake .unicast s)
  rw [hlifted] at hstate hraised
  refine ⟨?state, ?event, ?cfg, ?write, ?reply, ?strays, ?channels, ?other, ?panel, ?rest⟩
  case state => simpa [State.sideState] using hstate
  case event => simpa [State.raised, State.withReply] using hraised
  case cfg => simp [openSide_cfg]
  case write =>
    have hqueued := openSide_queues_config sd (confirmWake .unicast s)
    simpa [takeContent] using
      beginWrite_queued_or_begun (s := (openSide sd (confirmWake .unicast s)).withReply .openSide .ok [])
        (by simpa using hqueued)
  case reply => simp [State.withReply, openSide_line, ReqKind.port, ReqKind.code]
  case strays =>
    intro m hm
    simp [openSide_channel, hm]
  case channels =>
    intro m hm
    simp [openSide_channel, hm]
  case other => simp [openSide_side_other]
  case panel =>
    have hpanel := openSide_panel sd (confirmWake .unicast s)
    rw [formPanel_congr (s := openSide sd (confirmWake .unicast s)) sd (by simp [State.sideState]) (by simp) (by simp)]
    simpa using hpanel
  case rest => simp

/-- Settles O36: the checks in the words of the rule, the accepted request, and the two refusals. -/
theorem openSideOpensOrRefuses : Obligations.OpenSideOpensOrRefuses := by
  intro s sd hs
  refine ⟨?accepted, ?refused, ?badField⟩
  case accepted =>
    intro r hclosed hhose hsale hpanel hclear
    have hallowed := (openAllowed_iff s sd).2 ⟨⟨r, hclosed⟩, hhose, hsale, hpanel, hclear⟩
    exact ⟨_, exec_openSide_accepted hs hallowed, opened_after_event sd s⟩
  case refused =>
    intro hfails
    refine exec_openSide_refused hs (Bool.eq_false_iff.2 fun hallowed => ?_)
    obtain ⟨⟨r, hclosed⟩, ⟨h, hhose⟩, hsale, hpanel, hclear⟩ := (openAllowed_iff s sd).1 hallowed
    rcases hfails with hnot | hnot | hnot | hnot | hnot
    · exact hnot r hclosed
    · exact hnot h hhose
    · exact absurd hsale (by simp [hnot])
    · exact absurd hpanel (by simp [hnot])
    · exact hnot hclear
  case badField =>
    intro v ha hb
    exact request_refused hs rfl (ownOpenSide_badField ha hb _)

end Sys2Proof.Machine
end

section

/-! ## The price table and the fields of its requests (R67, R71, R74) -/

namespace Sys2Proof.Machine

open Sys2Proof

/-! ### One entry of a table -/

@[simp] theorem PriceTable.entry_withEntry_same (t : PriceTable) (g : Grade) (l : Level) (v : Nat) :
    (t.withEntry g l v).entry g l = v := by
  simp [PriceTable.entry, PriceTable.withEntry, PerGrade.get_set, PerLevel.get_set]

theorem PriceTable.withEntry_entry (t : PriceTable) (g : Grade) (l : Level) :
    t.withEntry g l (t.entry g l) = t := by
  cases g <;> cases l <;> rfl

/-- Setting an entry changes the table exactly where the value is a different one. -/
theorem PriceTable.withEntry_eq_self_iff {t : PriceTable} {g : Grade} {l : Level} {v : Nat} :
    t.withEntry g l v = t ↔ t.entry g l = v := by
  constructor
  · intro h
    rw [← h, entry_withEntry_same]
  · rintro rfl
    exact t.withEntry_entry g l

/-! ### Grade and level fields -/

theorem gradeOf_num (g : Grade) : gradeOf g.num = some g := by cases g <;> rfl

theorem levelOf_num (l : Level) : levelOf l.num = some l := by cases l <;> rfl

theorem gradeOf_eq_none {v : Nat} (hv : v = 0 ∨ 8 < v) : gradeOf v = none := by
  unfold gradeOf
  split
  case h_9 => rfl
  all_goals omega

theorem levelOf_eq_none {v : Nat} (hv : v = 0 ∨ 2 < v) : levelOf v = none := by
  unfold levelOf
  split
  case h_3 => rfl
  all_goals omega

/-! The grade and level checks that STAGE_PRICE and REPLACE_PRICE share. -/

theorem gradeLevelChecks_num (g : Grade) (l : Level) (s : State) (f : Grade → Level → Answered) :
    (orRefuse .badField s (gradeOf g.num) fun a => orRefuse .badField s (levelOf l.num) fun b => f a b) = f g l := by
  simp only [gradeOf_num, levelOf_num, orRefuse]

theorem gradeLevelChecks_refuse {v w : Nat} (h : v = 0 ∨ 8 < v ∨ w = 0 ∨ 2 < w) (s : State)
    (f : Grade → Level → Answered) :
    (orRefuse .badField s (gradeOf v) fun a => orRefuse .badField s (levelOf w) fun b => f a b) =
      refuse .badField s := by
  by_cases hv : v = 0 ∨ 8 < v
  · rw [gradeOf_eq_none hv, orRefuse]
  · have hw : w = 0 ∨ 2 < w := by omega
    cases hg : gradeOf v with
    | none => rfl
    | some g => rw [orRefuse, levelOf_eq_none hw, orRefuse]

/-! ### A served request that queues a write -/

@[simp] theorem State.withReplyIn_nvs (s : State) (m : AddrMode) (k : ReqKind) (r : Result) :
    (s.withReplyIn m k r).nvs = s.nvs := by
  cases m <;> rfl

/-- A served request that leaves a block to be written ends with its write begun, where one may begin (R174). -/
theorem request_of_serves_queued {s t : State} {m : AddrMode} {k : ReqKind} {owner : State → Answered} {r : Result}
    (hs : s.Serves) (hm : k.allows m = true) (howner : owner (confirmWake m s) = ⟨t, r, [], none⟩)
    (hmode : t.psq.mode = s.psq.mode) (hline : t.sli.line = s.sli.line) (hqueue : t.nvs.queue ≠ []) :
    request m k owner s = .next (beginWrite (t.withReplyIn m k r)) := by
  rw [request_of_serves hs hm howner hmode hline, finish_of_queue (by simpa using hqueue)]

/-- A served request that changes the prices and queues PRICES, and nothing else. -/
theorem request_of_serves_prices {s : State} {m : AddrMode} {k : ReqKind} {owner : State → Answered} {p : Prices}
    (hs : s.Serves) (hm : k.allows m = true)
    (howner : owner (confirmWake m s) = okay (requestWrite .prices ((confirmWake m s).withPtu p))) :
    request m k owner s =
      .next (beginWrite ((requestWrite .prices ((confirmWake m s).withPtu p)).withReplyIn m k .ok)) :=
  request_of_serves_queued hs hm howner (by simp [confirmWake_mode]) (by simp) (requestWrite_queue_ne _ _)

/-- A served request that is accepted and changes nothing. -/
theorem request_of_serves_unchanged {s : State} {m : AddrMode} {k : ReqKind} {owner : State → Answered}
    (hs : s.Serves) (hm : k.allows m = true) (howner : owner (confirmWake m s) = okay (confirmWake m s)) :
    request m k owner s = .next ((confirmWake m s).withReplyIn m k .ok) :=
  request_of_serves_store_kept hs hm howner (by simp) rfl (by simp)

end Sys2Proof.Machine
end

section

/-! ## STAGE_PRICE (R71) -/

namespace Sys2Proof.Machine

open Sys2Proof

theorem stagePrice_allows (m : AddrMode) : ReqKind.stagePrice.allows m = true := by cases m <;> rfl

section
variable {p : Prices} (g : Grade) (l : Level) (price : Nat)

theorem stageEntry_of_absent (h : p.staged = none) :
    stageEntry g l price p = { p with staged := some (p.active.withEntry g l price), pending := false } := by
  simp only [stageEntry, h]

theorem stageEntry_of_present {t : PriceTable} (h : p.staged = some t) :
    stageEntry g l price p = { p with staged := some (t.withEntry g l price) } := by
  simp only [stageEntry, h]

/-- The creation of the staged table is a change whatever the price. -/
theorem stageEntry_ne_of_absent (h : p.staged = none) : stageEntry g l price p ≠ p := by
  intro heq
  have hstaged := congrArg Prices.staged heq
  simp [stageEntry_of_absent g l price h, h] at hstaged

/-- In a staged table that is present a price changes something exactly where it is a different one. -/
theorem stageEntry_eq_self_iff {t : PriceTable} (h : p.staged = some t) :
    stageEntry g l price p = p ↔ t.entry g l = price := by
  rw [stageEntry_of_present g l price h, ← PriceTable.withEntry_eq_self_iff]
  constructor
  · intro heq
    have hstaged := congrArg Prices.staged heq
    simpa [h] using hstaged
  · intro hsame
    rw [hsame, ← h]

end

theorem setStaged_of_ne {p : Prices} {s : State} (h : p ≠ s.ptu) :
    setStaged p s = requestWrite .prices (s.withPtu p) :=
  if_neg h

theorem setStaged_of_eq {p : Prices} {s : State} (h : p = s.ptu) : setStaged p s = s :=
  if_pos h

theorem ownStagePrice_num (g : Grade) (l : Level) (price : Nat) (s : State) :
    ownStagePrice g.num l.num price s =
      if 99999 < price then refuse .badField s else okay (setStaged (stageEntry g l price s.ptu) s) :=
  gradeLevelChecks_num g l s _

theorem ownStagePrice_badField {v w : Nat} (h : v = 0 ∨ 8 < v ∨ w = 0 ∨ 2 < w) (price : Nat) (s : State) :
    ownStagePrice v w price s = refuse .badField s :=
  gradeLevelChecks_refuse h s _

section
variable {m : AddrMode} {s : State} {g : Grade} {l : Level} {price : Nat}

theorem ownStagePrice_of_le (hprice : price ≤ 99999) (u : State) :
    ownStagePrice g.num l.num price u = okay (setStaged (stageEntry g l price u.ptu) u) := by
  rw [ownStagePrice_num, if_neg (Nat.not_lt.2 hprice)]

theorem exec_stagePrice_changed (hs : s.Serves) (hprice : price ≤ 99999)
    (hchanged : stageEntry g l price s.ptu ≠ s.ptu) :
    exec (.stagePrice m g.num l.num price) s =
      .next (beginWrite ((requestWrite .prices
        ((confirmWake m s).withPtu (stageEntry g l price s.ptu))).withReplyIn m .stagePrice .ok)) := by
  have hptu : (confirmWake m s).ptu = s.ptu := by simp
  refine request_of_serves_prices hs (stagePrice_allows m) ?_
  rw [ownStagePrice_of_le hprice, hptu, setStaged_of_ne (hptu ▸ hchanged)]

theorem exec_stagePrice_unchanged (hs : s.Serves) (hprice : price ≤ 99999)
    (hsame : stageEntry g l price s.ptu = s.ptu) :
    exec (.stagePrice m g.num l.num price) s = .next ((confirmWake m s).withReplyIn m .stagePrice .ok) := by
  have hptu : (confirmWake m s).ptu = s.ptu := by simp
  refine request_of_serves_unchanged hs (stagePrice_allows m) ?_
  rw [ownStagePrice_of_le hprice, hptu, setStaged_of_eq (hsame.trans hptu.symm)]

end

/-- Settles O26: by the checks of the request, and by whether the staged table is absent, takes a new value or has
the value already. -/
theorem stagePriceEditsTheStagedTable : Obligations.StagePriceEditsTheStagedTable := by
  intro m s g l price hs
  refine ⟨?absent, ?newValue, ?sameValue, ?badPrice, ?badPlace⟩
  case absent =>
    intro hprice habsent
    have hexec := exec_stagePrice_changed (m := m) hs hprice (stageEntry_ne_of_absent g l price habsent)
    rwa [stageEntry_of_absent g l price habsent] at hexec
  case newValue =>
    intro t hprice hpresent hnew
    have hexec := exec_stagePrice_changed (m := m) hs hprice (mt (stageEntry_eq_self_iff g l price hpresent).1 hnew)
    rwa [stageEntry_of_present g l price hpresent] at hexec
  case sameValue =>
    intro t hprice hpresent hsame
    exact exec_stagePrice_unchanged hs hprice ((stageEntry_eq_self_iff g l price hpresent).2 hsame)
  case badPrice =>
    intro hprice
    exact request_refused hs (stagePrice_allows m) (by rw [ownStagePrice_num, if_pos hprice])
  case badPlace =>
    intro v w hplace
    exact request_refused hs (stagePrice_allows m) (ownStagePrice_badField hplace price _)

end Sys2Proof.Machine
end

section

/-! ## REPLACE_PRICE and DISCARD_STAGED (R74, R75) -/

namespace Sys2Proof.Machine

open Sys2Proof

/-! ### REPLACE_PRICE -/

theorem replacePrice_allows {m : AddrMode} (hm : m ≠ .broadcast) : ReqKind.replacePrice.allows m = true := by
  cases m with
  | unicast => rfl
  | group => rfl
  | broadcast => exact absurd rfl hm

theorem setActive_of_eq {t : PriceTable} {s : State} (h : t = s.ptu.active) : setActive t s = s :=
  if_pos h

/-- PRICE_APPLIED and the reach to the sides do not touch the line settings in use. -/
theorem setActive_line (t : PriceTable) (s : State) : (setActive t s).sli.line = s.sli.line := by
  unfold setActive
  split
  · rfl
  · simp [raise]

theorem setActive_queues_prices {t : PriceTable} {s : State} (h : t ≠ s.ptu.active) :
    Kind.prices ∈ (setActive t s).nvs.queue := by
  simp [setActive, h, requestWrite, mem_enqueueKind]

theorem ownReplacePrice_num (g : Grade) (l : Level) (old new : Nat) (s : State) :
    ownReplacePrice g.num l.num old new s =
      if 99999 < old ∨ 99999 < new then refuse .badField s
      else if s.ptu.active.entry g l ≠ old then refuse .stale s
      else okay (setActive (s.ptu.active.withEntry g l new) s) :=
  gradeLevelChecks_num g l s _

theorem ownReplacePrice_badField {v w : Nat} (h : v = 0 ∨ 8 < v ∨ w = 0 ∨ 2 < w) (old new : Nat) (s : State) :
    ownReplacePrice v w old new s = refuse .badField s :=
  gradeLevelChecks_refuse h s _

section
variable {s : State} {g : Grade} {l : Level} {old new : Nat} (hold : old ≤ 99999) (hnew : new ≤ 99999)
include hold hnew

theorem ownReplacePrice_stale (hstale : s.ptu.active.entry g l ≠ old) :
    ownReplacePrice g.num l.num old new s = refuse .stale s := by
  rw [ownReplacePrice_num, if_neg (by omega), if_pos hstale]

theorem ownReplacePrice_accepted (hentry : s.ptu.active.entry g l = old) :
    ownReplacePrice g.num l.num old new s = okay (setActive (s.ptu.active.withEntry g l new) s) := by
  rw [ownReplacePrice_num, if_neg (by omega), if_neg (not_not.2 hentry)]

end

/-! ### DISCARD_STAGED -/

theorem discardStaged_allows (m : AddrMode) : ReqKind.discardStaged.allows m = true := by cases m <;> rfl

theorem ownDiscardStaged_of_present {s : State} {t : PriceTable} (h : s.ptu.staged = some t) :
    ownDiscardStaged s =
      okay (requestWrite .prices (s.withPtu { s.ptu with staged := none, pending := false })) := by
  simp [ownDiscardStaged, h, removeStaged]

theorem ownDiscardStaged_of_absent {s : State} (h : s.ptu.staged = none) : ownDiscardStaged s = okay s := by
  simp [ownDiscardStaged, h]

/-- Settles O28: REPLACE_PRICE by its checks and by whether the price is a new one, DISCARD_STAGED by whether there
is a staged table. -/
theorem replacePriceAndDiscardStaged : Obligations.ReplacePriceAndDiscardStaged := by
  intro m s hs
  have hptu : (confirmWake m s).ptu = s.ptu := by simp
  refine ⟨fun g l old new hm => ⟨?badPrice, ?stale, ?samePrice, ?newPrice⟩, ?badPlace, ?discard, ?nothing⟩
  case badPrice =>
    intro hprice
    exact request_refused hs (replacePrice_allows hm) (by rw [ownReplacePrice_num, if_pos hprice])
  case stale =>
    intro hold hnew hstale
    exact request_refused hs (replacePrice_allows hm) (ownReplacePrice_stale hold hnew (hptu.symm ▸ hstale))
  case samePrice =>
    intro hold hnew hentry hsame
    refine request_of_serves_unchanged hs (replacePrice_allows hm) ?_
    rw [ownReplacePrice_accepted hold hnew (hptu.symm ▸ hentry), setActive_of_eq]
    rw [hptu, PriceTable.withEntry_eq_self_iff, hentry, hsame]
  case newPrice =>
    intro hold hnew hentry hdiffers
    have hchanged : s.ptu.active.withEntry g l new ≠ (confirmWake m s).ptu.active := by
      rw [hptu, Ne, PriceTable.withEntry_eq_self_iff, hentry]
      exact hdiffers.symm
    refine request_of_serves_queued hs (replacePrice_allows hm) ?owner (by simp [confirmWake_mode])
      (by simp [setActive_line]) (List.ne_nil_of_mem (setActive_queues_prices hchanged))
    rw [ownReplacePrice_accepted hold hnew (hptu.symm ▸ hentry), hptu, okay]
  case badPlace =>
    intro v w old new hm hplace
    exact request_refused hs (replacePrice_allows hm) (ownReplacePrice_badField hplace old new _)
  case discard =>
    intro t hpresent
    have hown := ownDiscardStaged_of_present (s := confirmWake m s) (hptu.symm ▸ hpresent)
    rw [hptu] at hown
    exact request_of_serves_prices hs (discardStaged_allows m) hown
  case nothing =>
    intro habsent
    exact request_of_serves_unchanged hs (discardStaged_allows m) (ownDiscardStaged_of_absent (hptu.symm ▸ habsent))

end Sys2Proof.Machine
end

section

/-! ## CLEAR_SALE (R94) -/

namespace Sys2Proof.Machine

open Sys2Proof

theorem ownClearSale_num (sd : Side) {id : Nat} (hid : id ≠ 0) (s : State) :
    ownClearSale sd.num id s =
      orRefuse .notFound s (findSale id (s.stack.get sd)) fun r => okay (clearRecord sd r s) := by
  simp [ownClearSale, sideOf_num, orRefuse, hid]

/-- The sale id is checked on either side; 0 names no sale. -/
theorem ownClearSale_zero (sd : Side) (s : State) : ownClearSale sd.num 0 s = refuse .badField s := by
  simp [ownClearSale, sideOf_num, orRefuse]

theorem ownClearSale_badSide {v : Nat} (ha : v ≠ 1) (hb : v ≠ 2) (id : Nat) (s : State) :
    ownClearSale v id s = refuse .badField s := by
  simp [ownClearSale, sideOf_eq_none ha hb, orRefuse]

theorem ownClearSale_found {sd : Side} {id : Nat} {s : State} {r : SaleRecord} (hid : id ≠ 0)
    (hfind : findSale id (s.stack.get sd) = some r) :
    ownClearSale sd.num id s = okay (clearRecord sd r s) := by
  rw [ownClearSale_num sd hid, hfind, orRefuse]

theorem findSale_eq_none {id : Nat} {l : List SaleRecord} (h : ∀ r ∈ l, r.saleId ≠ id) : findSale id l = none := by
  simpa [findSale] using h

theorem ownClearSale_notFound {sd : Side} {id : Nat} {s : State} (hid : id ≠ 0)
    (habsent : ∀ r ∈ s.stack.get sd, r.saleId ≠ id) :
    ownClearSale sd.num id s = refuse .notFound s := by
  rw [ownClearSale_num sd hid, findSale_eq_none habsent, orRefuse]

/-- The cleared record written out field by field: of the sale records the journal alone changes, so the totals and
the sequence counter stay. -/
theorem clearRecord_eq (sd : Side) (r : SaleRecord) (s : State) :
    clearRecord sd r s = requestWrite .metrology { s with
      stack := s.stack.set sd (removeSale r.saleId (s.stack.get sd))
      sru := { s.sru with journal := s.sru.journal.map fun e =>
        if e.record.seq = r.seq then { e with paid := true } else e } } := rfl

theorem clearRecord_queue_ne (sd : Side) (r : SaleRecord) (s : State) : (clearRecord sd r s).nvs.queue ≠ [] :=
  requestWrite_queue_ne _ _

/-- An accepted CLEAR_SALE ends with the reply OK and the start of a write, where one may begin. -/
theorem exec_clearSale_found {s : State} (hs : s.Serves) {sd : Side} {id : Nat} {r : SaleRecord} (hid : id ≠ 0)
    (hfind : findSale id (s.stack.get sd) = some r) :
    exec (.clearSale .unicast sd.num id) s =
      .next (beginWrite ((clearRecord sd r (confirmWake .unicast s)).withReply .clearSale .ok [])) := by
  have hown : ownClearSale sd.num id (confirmWake .unicast s) = okay (clearRecord sd r (confirmWake .unicast s)) :=
    ownClearSale_found hid (by simpa using hfind)
  exact request_of_serves_queued (k := .clearSale) hs rfl hown (by simp [confirmWake_mode]) (by simp)
    (clearRecord_queue_ne sd r _)

/-- Settles O25: the record that is found and cleared, and the three refusals. -/
theorem clearSalePaysTheRecord : Obligations.ClearSalePaysTheRecord := by
  intro s sd id hs
  have hstack : (confirmWake .unicast s).stack = s.stack := by simp
  have hsru : (confirmWake .unicast s).sru = s.sru := by simp
  refine ⟨?found, ?notFound, ?zeroId, ?badSide⟩
  case found =>
    intro r hid hfind
    rw [exec_clearSale_found hs hid hfind, clearRecord_eq, hstack, hsru]
  case notFound =>
    intro hid habsent
    exact request_refused (k := .clearSale) hs rfl (ownClearSale_notFound hid (hstack ▸ habsent))
  case zeroId => exact request_refused (k := .clearSale) hs rfl (ownClearSale_zero sd _)
  case badSide =>
    intro v ha hb
    exact request_refused (k := .clearSale) hs rfl (ownClearSale_badSide ha hb id _)

end Sys2Proof.Machine
end

section

/-! ## Served requests that act on a reader -/

namespace Sys2Proof.Machine

open Sys2Proof

/-- The event of a served request: the owner acts after the wake confirm, its answer is put in waiting, and the event
ends (R149, R183, R190). -/
theorem request_eq_of_serves {s : State} (hs : s.Serves) {m : AddrMode} {k : ReqKind} (hm : k.allows m = true)
    (owner : State → Answered) :
    request m k owner s = .next (finish (replyTo m k s.sli.line.address (owner (confirmWake m s)))) := by
  have hadmit := admission_confirmWake_of_serves hs m k
  obtain ⟨hpow, -, -, hidle, -⟩ := hs
  simp [request, event, hpow, arriveRequest, hidle, takeRequest, hm, admitRequest, hadmit, serveRequest]

theorem replyTo_unicast {k : ReqKind} {r : Result} {d : List Byte} {t : State} (hmode : t.psq.mode ≠ .night) :
    replyTo .unicast k t.sli.line.address ⟨t, r, d, none⟩ = t.withReply k r d := by
  simp [replyTo, sendReply, State.withReply, hmode]

/-- A served unicast request that leaves the store and the sequencer as they were after the wake confirm ends with
its reply, whatever data the reply carries. -/
theorem request_replied {s t : State} {k : ReqKind} {owner : State → Answered} {r : Result} {d : List Byte}
    (hs : s.Serves) (howner : owner (confirmWake .unicast s) = ⟨t, r, d, none⟩)
    (hnvs : t.nvs = s.nvs) (hpsq : t.psq = (confirmWake .unicast s).psq) (hline : t.sli.line = s.sli.line) :
    request .unicast k owner s = .next (t.withReply k r d) := by
  have ⟨_, hrun, _, _, hbefore⟩ := hs
  have hmode : t.psq.mode ≠ .night := by simp [hpsq, confirmWake_mode, hrun]
  have hsettled : t.Settled :=
    settled_of_eq (settled_confirmWake hbefore .unicast) (by simp [hnvs]) (by rw [hpsq]) (by rw [hpsq])
  have hends : finish (t.withReply k r d) = t.withReply k r d := finish_eq_of_eq hsettled rfl rfl rfl
  rw [request_eq_of_serves hs rfl, howner, ← hline, replyTo_unicast hmode, hends]

/-- A served unicast request whose owner changes one reader record and no more. -/
theorem request_withReader {s : State} {sd : Side} {x : ReaderRec} {k : ReqKind} {owner : State → Answered}
    {r : Result} {d : List Byte} (hs : s.Serves)
    (howner : owner (confirmWake .unicast s) = ⟨(confirmWake .unicast s).withReader sd x, r, d, none⟩) :
    request .unicast k owner s = .next (((confirmWake .unicast s).withReader sd x).withReply k r d) :=
  request_replied hs howner (by simp) rfl (by simp)

@[simp] theorem confirmWake_reader (m : AddrMode) (s : State) (sd : Side) :
    (confirmWake m s).reader sd = s.reader sd := by
  simp [State.reader]

end Sys2Proof.Machine
end

section

/-! ## READER_ATTACH and READER_ISOLATE (R136, R137) -/

namespace Sys2Proof.Machine

open Sys2Proof

/-! ### READER_ATTACH: its checks, in their order -/

section
variable {s : State} {sd : Side}

theorem attachRefusal_of_live (hlive : (s.reader sd).state.live = true) : attachRefusal s sd = some .state :=
  if_pos hlive

theorem attachRefusal_of_tamper (hlive : (s.reader sd).state.live = false) (htamper : s.lines.tamper.get sd = true) :
    attachRefusal s sd = some .tamperActive := by
  simp [attachRefusal, hlive, htamper]

theorem attachRefusal_of_hold (hlive : (s.reader sd).state.live = false) (htamper : s.lines.tamper.get sd = false)
    (hquarantined : (s.reader sd).state = .quarantined) (hhold : (s.reader sd).hold ≠ .expired) :
    attachRefusal s sd = some .hold := by
  unfold attachRefusal
  rw [if_neg (by simp [hlive]), if_neg (by simp [htamper]), if_pos ⟨hquarantined, hhold⟩]

theorem attachRefusal_eq_none (hlive : (s.reader sd).state.live = false) (htamper : s.lines.tamper.get sd = false)
    (hfree : (s.reader sd).state ≠ .quarantined ∨ (s.reader sd).hold = .expired) : attachRefusal s sd = none := by
  have hnotHeld : ¬((s.reader sd).state = .quarantined ∧ (s.reader sd).hold ≠ .expired) := by tauto
  unfold attachRefusal
  rw [if_neg (by simp [hlive]), if_neg (by simp [htamper]), if_neg hnotHeld]

/-- The checks read the reader and the tamper line, which the wake confirm leaves alone. -/
theorem attachRefusal_confirmWake (m : AddrMode) (s : State) (sd : Side) :
    attachRefusal (confirmWake m s) sd = attachRefusal s sd := by
  simp [attachRefusal]

theorem ownReaderAttach_refused {e : Result} (h : attachRefusal s sd = some e) :
    ownReaderAttach sd.num s = refuse e s := by
  simp only [ownReaderAttach, sideOf_num, orRefuse, h]

theorem ownReaderAttach_accepted (h : attachRefusal s sd = none) :
    ownReaderAttach sd.num s = okay (powerReader sd s) := by
  simp only [ownReaderAttach, sideOf_num, orRefuse, h]

theorem exec_readerAttach_refused (hs : s.Serves) {e : Result} (h : attachRefusal s sd = some e) :
    exec (.readerAttach .unicast sd.num) s = .next (s.answeredWith .readerAttach e []) :=
  request_refused (k := .readerAttach) hs rfl
    (ownReaderAttach_refused ((attachRefusal_confirmWake .unicast s sd).trans h))

theorem powerReader_confirmWake (m : AddrMode) (s : State) (sd : Side) :
    powerReader sd (confirmWake m s) = (confirmWake m s).withReader sd { s.reader sd with
      state := .probing, hold := .stopped, probe := some (s.now + 2000) } := by
  simp [powerReader, Config.probeTime]

theorem exec_readerAttach_accepted (hs : s.Serves) (h : attachRefusal s sd = none) :
    exec (.readerAttach .unicast sd.num) s =
      .next (((confirmWake .unicast s).withReader sd { s.reader sd with
        state := .probing, hold := .stopped, probe := some (s.now + 2000) }).withReply .readerAttach .ok []) := by
  have howner := ownReaderAttach_accepted ((attachRefusal_confirmWake .unicast s sd).trans h)
  rw [powerReader_confirmWake] at howner
  exact request_withReader hs howner

end

/-! ### The supply of a reader (R118, R136) -/

theorem supplyEnabled_of_serves {s : State} (hs : s.Serves) : supplyEnabled s = true := by
  obtain ⟨hpow, hrun, hrestart, -, -⟩ := hs
  simp [supplyEnabled, State.inRun, State.restartDraining, hpow, hrun, hrestart]

theorem readerSupplyOut_of_probing {s : State} {sd : Side} {x : ReaderRec} (hs : s.Serves) (hx : x.state = .probing) :
    readerSupplyOut (s.withReader sd x) sd = true := by
  have henabled : supplyEnabled (s.withReader sd x) = true := supplyEnabled_of_serves hs
  simp [readerSupplyOut, henabled, hx, ReaderState.supplyDemand]

/-! ### READER_ISOLATE, by reader state -/

section
variable {s : State} {sd : Side}

theorem isolateReader_of_live (hlive : (s.reader sd).state.live = true) :
    isolateReader sd s = cutReader sd (.off .isolated) .stopped false s := by
  unfold isolateReader
  cases h : (s.reader sd).state with
  | probing => rfl
  | attached => rfl
  | off _ => simp [h, ReaderState.live] at hlive
  | quarantined => simp [h, ReaderState.live] at hlive
  | tampered => simp [h, ReaderState.live] at hlive

theorem isolateReader_of_off {r : OffReason} (h : (s.reader sd).state = .off r) :
    isolateReader sd s = s.withReader sd { s.reader sd with state := .off .isolated } := by
  simp only [isolateReader, h]

theorem isolateReader_of_held (h : (s.reader sd).state = .quarantined ∨ (s.reader sd).state = .tampered) :
    isolateReader sd s = s := by
  rcases h with h | h <;> simp only [isolateReader, h]

theorem ownReaderIsolate_num (sd : Side) (s : State) : ownReaderIsolate sd.num s = okay (isolateReader sd s) := by
  simp only [ownReaderIsolate, sideOf_num, orRefuse]

/-- A cut without a report raises no event, so the whole site line stays as it is. -/
theorem cutReader_silent_sli (sd : Side) (st : ReaderState) (hold : HoldTimer) (s : State) :
    (cutReader sd st hold false s).sli = s.sli := by
  simp [cutReader]

end

/-- Settles O38: READER_ATTACH by its first check that fails, READER_ISOLATE by the reader's state, and a field that
names no reader. -/
theorem readersAreAttachedAndIsolated : Obligations.ReadersAreAttachedAndIsolated := by
  intro s sd hs
  have hreader : (confirmWake .unicast s).reader sd = s.reader sd := confirmWake_reader .unicast s sd
  refine ⟨?attachLive, fun hlive => ⟨?attachTamper, fun htamper => ⟨?attachHold, ?attached⟩⟩, ?isolateLive,
    ?isolateOff, ?isolateHeld, ?supply, ?badField⟩
  case attachLive => exact fun hlive => exec_readerAttach_refused hs (attachRefusal_of_live hlive)
  case attachTamper => exact fun htamper => exec_readerAttach_refused hs (attachRefusal_of_tamper hlive htamper)
  case attachHold =>
    intro hquarantined hhold
    exact exec_readerAttach_refused hs (attachRefusal_of_hold hlive htamper hquarantined hhold)
  case attached => exact fun hfree => exec_readerAttach_accepted hs (attachRefusal_eq_none hlive htamper hfree)
  case isolateLive =>
    intro hlive
    have howner := ownReaderIsolate_num sd (confirmWake .unicast s)
    rw [isolateReader_of_live (hreader ▸ hlive)] at howner
    exact request_replied hs howner (by simp) (by simp) (by simp [cutReader_silent_sli])
  case isolateOff =>
    intro r hoff
    have howner := ownReaderIsolate_num sd (confirmWake .unicast s)
    rw [isolateReader_of_off (hreader ▸ hoff), hreader] at howner
    exact request_withReader hs howner
  case isolateHeld =>
    intro hheld
    have howner := ownReaderIsolate_num sd (confirmWake .unicast s)
    rw [isolateReader_of_held (hreader ▸ hheld)] at howner
    exact request_of_serves_unchanged (k := .readerIsolate) hs rfl howner
  case supply => exact fun x hx => readerSupplyOut_of_probing hs hx
  case badField =>
    intro v ha hb
    have hside := sideOf_eq_none ha hb
    exact ⟨request_refused (k := .readerAttach) hs rfl (by simp only [ownReaderAttach, hside, orRefuse]),
      request_refused (k := .readerIsolate) hs rfl (by simp only [ownReaderIsolate, hside, orRefuse])⟩

end Sys2Proof.Machine
end

section

/-! ## Tunnel frames and fetches (R121, R124, R126) -/

namespace Sys2Proof.Machine

open Sys2Proof

/-! ### The class of a frame -/

section
variable {rows : List RouteRow} {src : RouteSource} {payload : List Byte}

theorem classifyFrame_of_find_none (h : rows.find? (fun r => r.matchesCode src (payload.headD 0#8).toNat) = none) :
    classifyFrame rows src payload = .noRow := by
  unfold classifyFrame
  rw [h]

theorem classifyFrame_of_find_some {r : RouteRow}
    (h : rows.find? (fun r => r.matchesCode src (payload.headD 0#8).toNat) = some r) :
    classifyFrame rows src payload = if r.maxLen < payload.length then .tooLong else .act r.action := by
  unfold classifyFrame
  rw [h]

end

/-! ### A tunnel frame by its class -/

/-- What the owner answers to a frame of each class. -/
def tunnelAnswer (sd : Side) (payload : List Byte) (s : State) : RouteClass → Answered
  | .tooLong => refuse .refused s
  | .noRow => refuse .noRoute s
  | .act .drop => ⟨countDrop sd s, .accepted, [], none⟩
  | .act .violation => ⟨countViolation sd s, .refused, [], none⟩
  | .act .supervisor => refuse .noRoute s
  | .act .forward => forwardDown sd payload s

section
variable {s : State} {sd : Side} {payload : List Byte}

theorem ownTunnel_of_le (hlen : payload.length ≤ 96) :
    ownTunnel sd payload s = tunnelAnswer sd payload s (classifyFrame s.cfg.routes (.site sd) payload) := by
  have hshort : ¬Config.readerFrameMax < payload.length := Nat.not_lt.2 hlen
  rw [ownTunnel, if_neg hshort]
  cases classifyFrame s.cfg.routes (.site sd) payload with
  | noRow => rfl
  | tooLong => rfl
  | act a => cases a <;> rfl

theorem ownTunnel_badLength (hlen : 96 < payload.length) : ownTunnel sd payload s = refuse .badLength s :=
  if_pos hlen

/-- The owner's answer as the request meets it, after the wake confirm, which leaves the route table alone. -/
theorem ownTunnel_confirmWake (hlen : payload.length ≤ 96) {c : RouteClass}
    (hclass : classifyFrame s.cfg.routes (.site sd) payload = c) (m : AddrMode) :
    ownTunnel sd payload (confirmWake m s) = tunnelAnswer sd payload (confirmWake m s) c := by
  have hcfg : (confirmWake m s).cfg = s.cfg := by simp
  rw [ownTunnel_of_le hlen, hcfg, hclass]

/-- A frame that its row has room for gets the answer of the row's action. -/
theorem ownTunnel_of_row (hlen : payload.length ≤ 96) {r : RouteRow}
    (hfind : s.cfg.routes.find? (fun r => r.matchesCode (.site sd) (payload.headD 0#8).toNat) = some r)
    (hfits : payload.length ≤ r.maxLen) {a : RouteAction} (haction : r.action = a) (m : AddrMode) :
    ownTunnel sd payload (confirmWake m s) = tunnelAnswer sd payload (confirmWake m s) (.act a) := by
  subst haction
  exact ownTunnel_confirmWake hlen ((classifyFrame_of_find_some hfind).trans (if_neg (Nat.not_lt.2 hfits))) m

theorem forwardDown_unavailable (h : (s.reader sd).state ≠ .attached) :
    forwardDown sd payload s = refuse .readerUnavailable s :=
  if_pos h

theorem forwardDown_busy (h : (s.reader sd).state = .attached) (hfull : 2 ≤ (s.reader sd).down.length) :
    forwardDown sd payload s = refuse .busy s := by
  rw [forwardDown, if_neg (not_not.2 h), if_pos hfull]

theorem forwardDown_queued (h : (s.reader sd).state = .attached) (hroom : (s.reader sd).down.length < 2) :
    forwardDown sd payload s =
      ⟨s.withReader sd { s.reader sd with down := (s.reader sd).down ++ [payload] }, .accepted, [], none⟩ := by
  rw [forwardDown, if_neg (not_not.2 h), if_neg (Nat.not_le.2 hroom)]

/-! ### A fetch -/

theorem ownFetch_of_empty (h : (s.reader sd).up = []) :
    ownFetch sd s = okData s (fetchBytes (s.reader sd).state 0 []) := by
  simp only [ownFetch, h]

theorem ownFetch_of_cons {first : List Byte} {rest : List (List Byte)} (h : (s.reader sd).up = first :: rest) :
    ownFetch sd s = okData (s.withReader sd { s.reader sd with up := rest })
      (fetchBytes (s.reader sd).state rest.length first) := by
  simp only [ownFetch, h]

end

/-- Settles O40: a tunnel frame by its length, its class and, where it is forwarded, the reader's state and queue; a
fetch by whether a frame waits. -/
theorem tunnelFramesFollowTheRouteTable : Obligations.TunnelFramesFollowTheRouteTable := by
  intro s sd hs
  have hreader : (confirmWake .unicast s).reader sd = s.reader sd := confirmWake_reader .unicast s sd
  refine ⟨fun payload _ => ⟨?badLength, fun hlen => ⟨?noRoute, fun r hfind => ⟨?tooLong, fun hfits =>
    ⟨?drop, ?violation, fun hforward => ⟨?unavailable, ?busy, ?queued⟩⟩⟩⟩⟩, ?fetchEmpty, ?fetchFirst⟩
  case badLength =>
    exact fun hlong => request_refused (k := .tunnel sd) hs rfl (ownTunnel_badLength hlong)
  case noRoute =>
    intro hfind
    exact request_refused (k := .tunnel sd) hs rfl
      (ownTunnel_confirmWake hlen (classifyFrame_of_find_none hfind) .unicast)
  case tooLong =>
    intro hlong
    have hclass := (classifyFrame_of_find_some hfind).trans (if_pos hlong)
    exact request_refused (k := .tunnel sd) hs rfl (ownTunnel_confirmWake hlen hclass .unicast)
  case drop =>
    intro hdrop
    have howner := ownTunnel_of_row hlen hfind hfits hdrop .unicast
    rw [tunnelAnswer, countDrop, hreader] at howner
    exact request_withReader hs howner
  case violation =>
    intro hviolation
    have howner := ownTunnel_of_row hlen hfind hfits hviolation .unicast
    rw [tunnelAnswer, countViolation, hreader] at howner
    exact request_withReader hs howner
  case unavailable =>
    intro hstate
    have howner := ownTunnel_of_row hlen hfind hfits hforward .unicast
    rw [tunnelAnswer, forwardDown_unavailable (hreader ▸ hstate)] at howner
    exact request_refused (k := .tunnel sd) hs rfl howner
  case busy =>
    intro hstate hfull
    have howner := ownTunnel_of_row hlen hfind hfits hforward .unicast
    rw [tunnelAnswer, forwardDown_busy (hreader ▸ hstate) (hreader ▸ hfull)] at howner
    exact request_refused (k := .tunnel sd) hs rfl howner
  case queued =>
    intro hstate hroom
    have howner := ownTunnel_of_row hlen hfind hfits hforward .unicast
    rw [tunnelAnswer, forwardDown_queued (hreader ▸ hstate) (hreader ▸ hroom), hreader] at howner
    exact request_withReader hs howner
  case fetchEmpty =>
    intro hempty
    have howner := ownFetch_of_empty (s := confirmWake .unicast s) (hreader ▸ hempty)
    rw [hreader] at howner
    exact request_replied hs howner (by simp) rfl (by simp)
  case fetchFirst =>
    intro first rest hup
    have howner := ownFetch_of_cons (s := confirmWake .unicast s) (hreader ▸ hup)
    rw [hreader] at howner
    exact request_withReader hs howner

end Sys2Proof.Machine
end

section

/-! ## The end of every event leaves nothing over (R174, R178) -/

namespace Sys2Proof.Machine

open Sys2Proof

/-- Every sequence starts with an empty queue, or with a write that goes on, and with no drain asked. -/
theorem beginSequence_settled {s : State} (cause : WakeCause) (fresh : Bool) (hjob : s.nvs.job = none) :
    (beginSequence cause fresh s).Settled := by
  simp [State.Settled, State.nightDraining, State.restartDraining, beginSequence, beginLoad, hjob, beginReading,
    Psq.atStart]

theorem enterNight_night (r : NightRequest) (s : State) : (enterNight r s).psq.night = none := by
  simp [enterNight]

theorem enterNight_restart (r : NightRequest) (s : State) : (enterNight r s).psq.restart = s.psq.restart := by
  simp [enterNight, stopDisplays]

theorem storeIdle_iff (s : State) : storeIdle s = true ↔ s.nvs.job = none ∧ s.nvs.queue = [] := by
  simp [storeIdle]

/-- After `beginWrite` no write that may begin is left waiting. -/
theorem beginWrite_begun (s : State) :
    (beginWrite s).nvs.job = none → (beginWrite s).nvs.load = .none → (beginWrite s).nvs.queue = [] := by
  rcases beginWrite_cases s with ⟨h, hqueue⟩ | ⟨k, rest, -, -, -, h⟩ <;> rw [h]
  · exact hqueue
  · intro hjob
    simp at hjob

theorem endDrain_settled {s : State} (hidle : storeIdle s = true) : (endDrain s).Settled := by
  obtain ⟨hjob, hqueue⟩ := (storeIdle_iff s).1 hidle
  rcases endDrain_cases s with ⟨-, h⟩ | ⟨r, hrestart, -, -, h⟩ | ⟨hrestart, hnight, h⟩ <;> rw [h]
  · exact beginSequence_settled _ _ hjob
  · have hdraining : (enterNight r s).restartDraining = false := by
      rwa [State.restartDraining, enterNight_restart]
    refine ⟨fun _ _ => by simp [hqueue], fun hn => ?_, fun hr => ?_⟩
    · simp [State.nightDraining, enterNight_night] at hn
    · simp [hdraining] at hr
  · refine ⟨fun _ _ => hqueue, fun hn => ?_, fun hr => ?_⟩
    · simp [hnight] at hn
    · simp [hrestart] at hr

theorem finish_settled (s : State) : (finish s).Settled := by
  rcases finish_cases s with ⟨hbusy, h⟩ | ⟨hidle, h⟩ <;> rw [h]
  · exact ⟨beginWrite_begun s, fun _ => hbusy, fun _ => hbusy⟩
  · exact endDrain_settled hidle

/-! ## What an event can be -/

/-- Every command but POWER_ON and SUPPLY_LOST ends with `finish` while the part has supply, and leaves it without
supply where it has none. -/
theorem exec_event_or_supply (i : Instr) (s : State) :
    (∃ f : State → State, exec i s = event f s) ∨
    (∃ (lines : Lines → Lines) (f : State → State), exec i s = lineEvent lines f s) ∨
    exec i s = execPowerOn s ∨ exec i s = execSupplyLost s := by
  cases i with
  | powerOn => exact .inr (.inr (.inl rfl))
  | supplyLost => exact .inr (.inr (.inr rfl))
  | forwardPulse m => exact .inl ⟨fun s => pulse .forward m (endCycle m s), rfl⟩
  | tamperActive | tamperInactive | nozzleLift | nozzleHang | driveRailDown | driveRailUp | powerWarning
  | powerWarningRelease => exact .inr (.inl ⟨_, _, rfl⟩)
  | _ => exact .inl ⟨_, rfl⟩

/-- A cold power-on has LOAD reading and no drain. -/
theorem coldStart_settled (s : State) : (coldStart s).Settled := by
  simp [State.Settled, coldStart, State.reset, Nvs.blank, Psq.cold, State.nightDraining, State.restartDraining]

theorem exec_settled {i : Instr} {s t : State} (h : exec i s = .next t) : t.SettledIfPowered := by
  intro hpow
  rcases exec_event_or_supply i s with ⟨f, hf⟩ | ⟨lines, f, hf⟩ | hf | hf <;> rw [hf] at h
  · simp only [event, Host.Outcome.next.injEq] at h
    subst h
    split at hpow <;> rename_i hs
    · rw [if_pos hs]
      exact finish_settled _
    · exact absurd hpow hs
  · simp only [lineEvent, Host.Outcome.next.injEq] at h
    subst h
    split at hpow <;> rename_i hs
    · rw [if_pos hs]
      exact finish_settled _
    · exact absurd hpow hs
  · simp only [execPowerOn, Host.Outcome.next.injEq] at h
    subst h
    exact coldStart_settled _
  · simp only [execSupplyLost, Host.Outcome.next.injEq] at h
    subst h
    split at hpow <;> rename_i hs
    · simp at hpow
    · exact absurd hpow hs

/-- One step is a tick of the time base or the command at the front of the queue. -/
theorem step_cases (s : State) :
    (s.pending = [] ∧ step s = .next s.tick) ∨
    ∃ c rest, s.pending = c :: rest ∧ step s = exec c { s with pending := rest } := by
  cases h : s.pending with
  | nil => exact .inl ⟨rfl, by simp [step, h]⟩
  | cons c rest => exact .inr ⟨c, rest, rfl, by simp [step, h]⟩

/-- Settles O5: a tick changes nothing but the time, and every command ends settled, whatever came before it. -/
theorem stepKeepsTheStoreSettled : Obligations.StepKeepsTheStoreSettled := by
  intro s t hs hstep
  rcases step_cases s with ⟨-, h⟩ | ⟨c, rest, -, h⟩ <;> rw [h] at hstep
  · cases hstep
    exact hs
  · exact exec_settled hstep

end Sys2Proof.Machine
end

section

/-! ## Sales outside RUN (R66, R182) -/

namespace Sys2Proof.Machine

open Sys2Proof

/-- A part in RUN with an authorization on side A whose store is still at the last read of LOAD: the sales invariant
does not exclude it, and the attempt that ends LOAD takes the part out of RUN whatever its mode. -/
def authorizedInLoad : State :=
  { State.reset with
    pending := [.readAttempt true]
    sides := ⟨⟨.authorized ⟨1, ⟨true, false, false, false⟩, .l1, .none, none, .none⟩, [], 0, .none⟩, .cold⟩
    nvs := { Nvs.blank with slot1 := some ⟨.lost, 1⟩, load := .reading false .m1 1 false 0 }
    psq := { Psq.cold with mode := .run } }

theorem authorizedInLoad_salesOk : authorizedInLoad.SalesOk := by
  refine ⟨fun sd hbusy => ?_, fun h => ?_, fun h => ?_, fun h => ?_⟩
  · cases sd
    · exact ⟨rfl, rfl, rfl, rfl⟩
    · cases hbusy
  · exact ⟨rfl, rfl⟩
  · exact .inl rfl
  · cases h

theorem step_authorizedInLoad :
    ∃ t, step authorizedInLoad = .next t ∧ (t.sideState .a).busy = true ∧
      t.psq.mode = .poweringUp (.supplies .a) :=
  ⟨_, rfl, rfl, rfl⟩

/-- Refutes O11: LOAD ends by its last read alone, and nothing in the invariant says that a part whose store is being
read is not in RUN; from `authorizedInLoad` the authorization is carried into SUPPLIES. -/
theorem not_stepKeepsSalesInRun : ¬ Obligations.StepKeepsSalesInRun := by
  intro h
  obtain ⟨t, hstep, hbusy, hmode⟩ := step_authorizedInLoad
  obtain ⟨hsales, -, -, -⟩ := h authorizedInLoad t authorizedInLoad_salesOk hstep
  obtain ⟨hrun, -⟩ := hsales .a hbusy
  rw [hmode] at hrun
  cases hrun

end Sys2Proof.Machine
end

section

/-! ## The machine and its state at reset -/

namespace Sys2Proof.Machine

open Sys2Proof

/-- Settles O1, by the form of `step`. -/
theorem stepRunsTheFrontCommand : Obligations.StepRunsTheFrontCommand := by
  intro c rest s hpending
  simp only [step, hpending]

end Sys2Proof.Machine
end

section

/-! ## The hose map's invariant and the checks of SET_HOSE (R163, R164) -/

namespace Sys2Proof.Machine

open Sys2Proof

theorem Hose.mem_all (h : Hose) : h ∈ Hose.all := by cases h <;> decide

theorem Meter.mem_all (m : Meter) : m ∈ Meter.all := by cases m <;> decide

theorem placeTaken_eq_false_iff {map : PerHose (Option HoseRec)} {h : Hose} {r : HoseRec} :
    placeTaken map h r = false ↔
      ∀ o q, map.get o = some q → o ≠ h → q.side = r.side → q.position ≠ r.position := by
  simp only [placeTaken, List.any_eq_false]
  constructor
  · intro hnone o q ho hne hside hpos
    have := hnone o (Hose.mem_all o)
    simp [ho, hne, hside, hpos] at this
  · intro hfree o _
    cases ho : map.get o with
    | none => simp
    | some q =>
      by_cases hne : o = h
      · simp [hne]
      · by_cases hside : q.side = r.side
        · simp [hfree o q ho hne hside]
        · simp [hside]

theorem namedOn_iff {map : PerHose (Option HoseRec)} {m : Meter} {sd : Side} :
    namedOn map m sd = true ↔ ∃ h r, map.get h = some r ∧ r.side = sd ∧ r.names m = true := by
  simp only [namedOn, List.any_eq_true]
  constructor
  · rintro ⟨h, -, hh⟩
    cases hg : map.get h with
    | none => simp [hg] at hh
    | some r =>
      simp only [hg, Bool.and_eq_true, beq_iff_eq] at hh
      exact ⟨h, r, hg, hh⟩
  · rintro ⟨h, r, hg, hside, hnames⟩
    exact ⟨h, Hose.mem_all h, by simp [hg, hside, hnames]⟩

theorem meterShared_eq_false_iff {map : PerHose (Option HoseRec)} :
    meterShared map = false ↔
      ∀ h k q r m, map.get h = some q → map.get k = some r → q.names m = true → r.names m = true →
        q.side = r.side := by
  simp only [meterShared, List.any_eq_false, Bool.and_eq_true, not_and]
  constructor
  · intro hnone h k q r m hq hr hqm hrm
    have hapart := hnone m (Meter.mem_all m)
    simp only [namedOn_iff] at hapart
    cases hqs : q.side <;> cases hrs : r.side
    · rfl
    · exact absurd ⟨k, r, hr, hrs, hrm⟩ (hapart ⟨h, q, hq, hqs, hqm⟩)
    · exact absurd ⟨h, q, hq, hqs, hqm⟩ (hapart ⟨k, r, hr, hrs, hrm⟩)
    · rfl
  · intro hone m _ ha hb
    obtain ⟨h, q, hq, hqs, hqm⟩ := namedOn_iff.1 ha
    obtain ⟨k, r, hr, hrs, hrm⟩ := namedOn_iff.1 hb
    have := hone h k q r m hq hr hqm hrm
    simp [hqs, hrs] at this

/-- A legal map in the checks of R164. -/
theorem mapLegal_iff {map : PerHose (Option HoseRec)} :
    MapLegal map ↔ (∀ h q, map.get h = some q → placeTaken map h q = false) ∧
      (∀ h q, map.get h = some q → q.secondary ≠ some q.primary) ∧ meterShared map = false := by
  simp only [MapLegal, placeTaken_eq_false_iff, meterShared_eq_false_iff]
  constructor <;> rintro ⟨hplace, hmeters, hshared⟩ <;> refine ⟨?_, hmeters, hshared⟩
  · exact fun h q hq o r hr hne hside => hplace o h r q hr hq hne hside
  · exact fun h k q r hq hr hne hside => hplace k r hr h q hq hne hside

theorem mapLegal_defaultHoses : MapLegal defaultHoses := by
  refine mapLegal_iff.2 ⟨fun h q hq => ?_, fun h q hq => ?_, by decide⟩
  · cases h <;> cases hq <;> decide
  · cases h <;> cases hq <;> decide

/-- The record that passes the checks of R164 leaves the map legal; so does a hose without one. -/
theorem mapLegal_set {map : PerHose (Option HoseRec)} {h : Hose} {r : Option HoseRec} (hmap : MapLegal map)
    (hplace : ∀ q, r = some q → placeTaken map h q = false)
    (hmeters : ∀ q, r = some q → q.secondary ≠ some q.primary) (hshared : meterShared (map.set h r) = false) :
    MapLegal (map.set h r) := by
  obtain ⟨hplaces, hold, -⟩ := hmap
  refine ⟨fun k o p q hp hq hne hside => ?_, fun k q hq => ?_, meterShared_eq_false_iff.1 hshared⟩
  · rw [PerHose.get_set] at hp hq
    split at hp <;> split at hq <;> rename_i hk ho
    · exact absurd (hk.trans ho.symm) hne
    · exact (placeTaken_eq_false_iff.1 (hplace p hp) o q hq ho hside.symm).symm
    · exact placeTaken_eq_false_iff.1 (hplace q hq) k p hp hk hside
    · exact hplaces k o p q hp hq hne hside
  · rw [PerHose.get_set] at hq
    split at hq
    · exact hmeters q hq
    · exact hold k q hq

/-! ## The price table's invariant (R67) -/

theorem Grade.mem_all (g : Grade) : g ∈ Grade.all := by cases g <;> decide

theorem PriceTable.legal_iff {t : PriceTable} : t.Legal ↔ ∀ g l, t.entry g l ≤ Config.priceMax := by
  constructor
  · intro h g l
    obtain ⟨h1, h2⟩ := h g (Grade.mem_all g)
    cases l <;> assumption
  · exact fun h g _ => ⟨h g .l1, h g .l2⟩

theorem PriceTable.legal_withEntry {t : PriceTable} (ht : t.Legal) (g : Grade) (l : Level) {v : Nat}
    (hv : v ≤ Config.priceMax) : (t.withEntry g l v).Legal := by
  rw [legal_iff] at ht ⊢
  intro g' l'
  simp only [entry, withEntry, PerGrade.get_set]
  split
  · rw [PerLevel.get_set]
    split
    · exact hv
    · subst g'
      exact ht g l'
  · exact ht g' l'

theorem PriceTable.legal_zero : PriceTable.zero.Legal := fun g _ => by cases g <;> decide

theorem Prices.legal_lost : Prices.lost.Legal :=
  ⟨PriceTable.legal_zero, by decide, fun _ h => (by cases h), fun _ => rfl⟩

theorem ReaderRec.legal_cold (threshold : Nat) : ReaderRec.cold.Legal threshold :=
  ⟨fun _ => ⟨rfl, rfl⟩, Nat.zero_le _⟩

/-- Settles O2: at reset all blocks are bad and nothing is queued or counted, and the default map is legal. -/
theorem resetMeetsTheInvariants : Obligations.ResetMeetsTheInvariants := by
  refine ⟨?settled, ?store, ?prices, ?map, ?readers, ?line, ?sales⟩
  case settled => exact fun _ => by decide
  case store => exact ⟨List.nodup_nil, Nat.zero_le _, Nat.zero_le _, Nat.zero_le _⟩
  case prices => exact ⟨Prices.legal_lost, fun _ h => (by cases h), fun _ _ h => (by cases h)⟩
  case map => exact ⟨mapLegal_defaultHoses, fun _ h => (by cases h), fun _ _ h => (by cases h)⟩
  case readers => exact ⟨ReaderRec.legal_cold _, ReaderRec.legal_cold _⟩
  case line => exact ⟨by decide, fun h => (by cases h), by decide, fun _ h => (by cases h), fun _ _ h => (by cases h)⟩
  case sales =>
    refine ⟨fun sd hbusy => ?_, fun h => ?_, fun h => absurd rfl h, fun h => (by cases h)⟩
    · cases sd <;> cases hbusy
    · rcases h with h | h <;> exact absurd rfl h

end Sys2Proof.Machine
end

section

/-! ## Keeping the invariants of the store, the prices, the hose map, the readers and the line counter -/

namespace Sys2Proof.Machine

open Sys2Proof

/-- What holds of a change of the state that keeps the five invariants, each for itself. -/
structure Keeps (s t : State) : Prop where
  store : s.StoreOk → t.StoreOk
  prices : s.PricesOk → t.PricesOk
  map : s.MapOk → t.MapOk
  readers : s.ReadersOk → t.ReadersOk
  line : s.LineOk → t.LineOk

theorem Keeps.refl (s : State) : Keeps s s := ⟨id, id, id, id, id⟩

theorem Keeps.trans {s t u : State} (h : Keeps s t) (h' : Keeps t u) : Keeps s u :=
  ⟨h'.store ∘ h.store, h'.prices ∘ h.prices, h'.map ∘ h.map, h'.readers ∘ h.readers, h'.line ∘ h.line⟩

/-! ### Changes of one owner's part of the state -/

/-- The five invariants read nothing but these. -/
theorem keeps_of_frame {s t : State} (h : t.cfg = s.cfg ∧ t.ptu = s.ptu ∧ t.nvs = s.nvs ∧ t.riu = s.riu ∧
    t.sli.errors = s.sli.errors ∧ t.sli.overflow = s.sli.overflow) : Keeps s t := by
  obtain ⟨hcfg, hptu, hnvs, hriu, herrors, hoverflow⟩ := h
  constructor <;>
    simp only [State.StoreOk, State.PricesOk, State.MapOk, State.ReadersOk, State.LineOk, hcfg, hptu, hnvs, hriu,
      herrors, hoverflow, imp_self]

/-- What is there after a change that keeps or loses was there before. -/
theorem kept_of_kept_or_lost {α : Type} {new old : Option α} (h : new = old ∨ new = none) {x : α}
    (hx : new = some x) : old = some x := by
  rcases h with h | h
  · exact h ▸ hx
  · cases h.symm.trans hx

/-- A change of the store that brings no new content: a block, and the write in progress, is kept or lost. -/
theorem keeps_withNvs {s : State} {n : Nvs} (hqueue : s.nvs.queue.Nodup → n.queue.Nodup)
    (hfail : s.StoreOk → n.fail.config ≤ 3 ∧ n.fail.prices ≤ 3 ∧ n.fail.metrology ≤ 3)
    (hconfig : n.config = s.nvs.config ∨ n.config = none) (hprices : n.prices = s.nvs.prices ∨ n.prices = none)
    (hjob : n.job = s.nvs.job ∨ n.job = none) : Keeps s (s.withNvs n) where
  store h := ⟨hqueue h.1, hfail h⟩
  prices := by
    rintro ⟨hptu, hblock, hwrite⟩
    exact ⟨hptu, fun p hp => hblock p (kept_of_kept_or_lost hprices hp),
      fun j p hj hc => hwrite j p (kept_of_kept_or_lost hjob hj) hc⟩
  map := by
    rintro ⟨hcfg, hblock, hwrite⟩
    exact ⟨hcfg, fun c hc => hblock c (kept_of_kept_or_lost hconfig hc),
      fun j c hj hc => hwrite j c (kept_of_kept_or_lost hjob hj) hc⟩
  readers := id
  line := by
    rintro ⟨herrors, hover, hsite, hblock, hwrite⟩
    exact ⟨herrors, hover, hsite, fun c hc => hblock c (kept_of_kept_or_lost hconfig hc),
      fun j c hj hc => hwrite j c (kept_of_kept_or_lost hjob hj) hc⟩

/-- A change of the store apart from its blocks, its write, its queue and its failure counts. -/
theorem keeps_withNvs_same {s : State} {n : Nvs} (hqueue : n.queue = s.nvs.queue) (hfail : n.fail = s.nvs.fail)
    (hconfig : n.config = s.nvs.config) (hprices : n.prices = s.nvs.prices) (hjob : n.job = s.nvs.job) :
    Keeps s (s.withNvs n) :=
  keeps_withNvs (by rw [hqueue]; exact id) (fun h => by rw [hfail]; exact h.2) (.inl hconfig) (.inl hprices) (.inl hjob)

/-- New prices need be legal only where the prices were so at first. -/
theorem Keeps.withPtu {s u : State} {p : Prices} (h : Keeps s u) (hp : s.PricesOk → p.Legal) :
    Keeps s (u.withPtu p) where
  store := h.store
  prices hs := ⟨hp hs, (h.prices hs).2⟩
  map := h.map
  readers := h.readers
  line := h.line

/-- A change of settings other than the thresholds. -/
theorem keeps_withCfg {s : State} {c : Cfg} (hhoses : MapLegal s.cfg.hoses → MapLegal c.hoses)
    (hthresholds : c.thresholds = s.cfg.thresholds) : Keeps s (s.withCfg c) where
  store := id
  prices := id
  map hs := ⟨hhoses hs.1, hs.2⟩
  readers hs := by simpa [State.ReadersOk, hthresholds] using hs
  line hs := by simpa [State.LineOk, hthresholds] using hs

theorem keeps_withReader {s : State} {sd : Side} {r : ReaderRec}
    (h : (s.reader sd).Legal s.cfg.thresholds.reader → r.Legal s.cfg.thresholds.reader) :
    Keeps s (s.withReader sd r) where
  store := id
  prices := id
  map := id
  readers := by
    rintro ⟨ha, hb⟩
    cases sd
    · exact ⟨h ha, hb⟩
    · exact ⟨ha, h hb⟩
  line := id

theorem keeps_withSli {s : State} {l : Sli}
    (h : s.LineOk → l.errors ≤ s.cfg.thresholds.site ∧ (l.overflow = true → 0 < l.errors)) :
    Keeps s (s.withSli l) where
  store := id
  prices := id
  map := id
  readers := id
  line hs := ⟨(h hs).1, (h hs).2, hs.2.2⟩

theorem raise_keeps (e : Event) (s : State) : Keeps s (raise e s) := keeps_withSli fun h => ⟨h.1, h.2.1⟩

theorem raiseIf_keeps (bad : Bool) (e : Event) (s : State) : Keeps s (raiseIf bad e s) := by
  unfold raiseIf
  split
  · exact raise_keeps e s
  · exact .refl s

/-! ### The write queue (R173, R174, R177) -/

theorem enqueueKind_nodup (w : Bool) (k : Kind) {q : List Kind} (hq : q.Nodup) : (enqueueKind w k q).Nodup := by
  unfold enqueueKind
  split
  · exact hq
  · next hk =>
    split
    · exact List.nodup_cons.2 ⟨hk, hq⟩
    · exact List.nodup_append.2 ⟨hq, List.nodup_singleton k, by
        intro a ha b hb
        rw [List.mem_singleton] at hb
        exact fun heq => hk (hb ▸ heq ▸ ha)⟩

theorem urgentQueue_nodup {q : List Kind} (hq : q.Nodup) : (urgentQueue q).Nodup := by
  unfold urgentQueue
  split
  · exact List.nodup_cons.2 ⟨by simp, hq.filter _⟩
  · exact hq

theorem requestWrite_keeps (k : Kind) (s : State) : Keeps s (requestWrite k s) :=
  keeps_withNvs (enqueueKind_nodup _ k) (fun h => h.2) (.inl rfl) (.inl rfl) (.inl rfl)

/-- The content of a write is what its owners hold as it begins. -/
theorem beginWrite_keeps (s : State) : Keeps s (beginWrite s) := by
  rcases beginWrite_cases s with ⟨h, -⟩ | ⟨k, rest, -, -, hqueue, h⟩ <;> rw [h]
  · exact .refl s
  · constructor
    · rintro ⟨hnodup, hfail⟩
      rw [hqueue] at hnodup
      exact ⟨(List.nodup_cons.1 hnodup).2, hfail⟩
    · rintro ⟨hptu, hblock, -⟩
      refine ⟨hptu, hblock, fun j p hj hc => ?_⟩
      cases hj
      cases k <;> cases hc
      exact hptu
    · rintro ⟨hcfg, hblock, -⟩
      refine ⟨hcfg, hblock, fun j c hj hc => ?_⟩
      cases hj
      cases k <;> cases hc
      exact hcfg
    · exact id
    · rintro ⟨herrors, hover, hsite, hblock, -⟩
      refine ⟨herrors, hover, hsite, hblock, fun j c hj hc => ?_⟩
      cases hj
      cases k <;> cases hc
      exact hsite

end Sys2Proof.Machine
end

section

/-! ## The shared operations of the sides keep the invariants (chapter 03) -/

namespace Sys2Proof.Machine

open Sys2Proof

theorem handPanel_keeps (sd : Side) (s : State) : Keeps s (handPanel sd s) := keeps_of_frame (by simp)

theorem handPanels_keeps (s : State) : Keeps s (handPanels s) := keeps_of_frame (by simp)

theorem enterCalling_keeps (sd : Side) (s : State) : Keeps s (enterCalling sd s) :=
  (keeps_of_frame (t := s.withSideState sd .calling) (by simp)).trans (raise_keeps _ _)

theorem enterOpen_keeps (sd : Side) (s : State) : Keeps s (enterOpen sd s) := by
  rcases enterOpen_cases sd s with ⟨-, h⟩ | ⟨-, h⟩ <;> rw [h]
  · exact keeps_of_frame (by simp)
  · exact enterCalling_keeps sd s

theorem followLifted_keeps (sd : Side) (s : State) : Keeps s (followLifted sd s) := by
  unfold followLifted
  split
  · split
    · exact .refl s
    · exact enterCalling_keeps sd s
  · split
    · exact keeps_of_frame (by simp)
    · exact .refl s
  · exact .refl s

theorem clearSideOpen_keeps (sd : Side) (s : State) : Keeps s (clearSideOpen sd s) := by
  rcases clearSideOpen_cases sd s with ⟨-, h⟩ | ⟨-, h⟩ <;> rw [h]
  · exact .refl s
  · refine .trans ?_ (requestWrite_keeps _ _)
    exact keeps_withCfg id rfl

theorem enterClosed_keeps (sd : Side) (reason : ClosedReason) (s : State) : Keeps s (enterClosed sd reason s) := by
  have hcleared : Keeps s (clearSideOpen sd (s.withSideState sd (.closed reason))) :=
    (keeps_of_frame (by simp)).trans (clearSideOpen_keeps sd _)
  simp only [enterClosed]
  split
  · exact (hcleared.trans (raise_keeps _ _)).trans (handPanel_keeps sd _)
  · exact hcleared.trans (handPanel_keeps sd _)

theorem enterStarting_keeps (sd : Side) (a : Auth) (h : Hose) (r : HoseRec) (price : Nat) (s : State) :
    Keeps s (enterStarting sd a h r price s) := by
  have hside : Keeps s (s.withSideState sd
      (.sale (.starting (s.now + s.cfg.timers.zero)) (startContext s sd a h r price))) := keeps_of_frame (by simp)
  have hreader := keeps_withReader (s := s.withSideState sd
      (.sale (.starting (s.now + s.cfg.timers.zero)) (startContext s sd a h r price))) (sd := sd)
    (r := { s.reader sd with lastFigures := none }) id
  exact (hside.trans hreader).trans (keeps_of_frame ⟨rfl, rfl, rfl, rfl, rfl, rfl⟩)

theorem testStart_keeps (sd : Side) (s : State) : Keeps s (testStart sd s) := by
  rcases testStart_cases sd s with ⟨h, -⟩ | ⟨a, b, -, -, h⟩ | ⟨a, x, r, price, -, -, h⟩ <;> rw [h]
  · exact .refl s
  · exact keeps_of_frame (by simp)
  · exact enterStarting_keeps sd a x r price s

theorem stackRecord_keeps (sd : Side) (ctx : Sale) (r : SaleRecord) (s : State) :
    Keeps s (stackRecord sd ctx r s) := by
  refine .trans ?_ (requestWrite_keeps _ _)
  exact keeps_of_frame (by simp)

theorem recordSale_keeps (sd : Side) (e : Ended) (ctx : Sale) (s : State) : Keeps s (recordSale sd e ctx s) := by
  unfold recordSale
  split
  · exact keeps_of_frame (by simp)
  · exact (stackRecord_keeps sd ctx (buildRecord s sd e ctx) s).trans (keeps_of_frame (by simp))

theorem afterCompletion_keeps (sd : Side) (e : Ended) (ctx : Sale) (s : State) :
    Keeps s (afterCompletion sd e ctx s) := by
  rcases afterCompletion_cases sd e ctx s with ⟨r, -, h⟩ | ⟨-, -, h⟩ <;> rw [h]
  · exact enterClosed_keeps sd r s
  · exact (enterOpen_keeps sd s).trans (handPanel_keeps sd _)

theorem completeSale_keeps (sd : Side) (s : State) : Keeps s (completeSale sd s) := by
  rcases completeSale_cases sd s with ⟨h, -⟩ | ⟨e, ctx, -, h⟩ <;> rw [h]
  · exact .refl s
  · have hrecorded : Keeps s (resetStrays sd (recordSale sd e ctx s)) :=
      (recordSale_keeps sd e ctx s).trans (keeps_of_frame (by simp))
    exact (hrecorded.trans (raise_keeps _ _)).trans (afterCompletion_keeps sd e ctx _)

theorem takeStray_keeps (sd : Side) (m : Meter) (s : State) : Keeps s (takeStray sd m s) := by
  unfold takeStray
  split
  · exact .refl s
  · exact enterClosed_keeps sd _ s
  · exact enterClosed_keeps sd _ s
  · exact enterClosed_keeps sd _ s
  · exact keeps_of_frame (by simp)
  · exact keeps_of_frame (by simp)

theorem takeLoss_keeps (sd : Side) (s : State) : Keeps s (takeLoss sd s) := by
  unfold takeLoss
  split
  · exact .refl s
  · exact enterClosed_keeps sd _ s
  · exact enterClosed_keeps sd _ s
  · exact enterClosed_keeps sd _ s
  · exact keeps_of_frame (by simp)
  · exact keeps_of_frame (by simp)

theorem takeStoreFailure_keeps (sd : Side) (s : State) : Keeps s (takeStoreFailure sd s) := by
  unfold takeStoreFailure
  split
  · exact .refl s
  · exact enterClosed_keeps sd _ s
  · exact enterClosed_keeps sd _ s
  · exact enterClosed_keeps sd _ s
  · exact keeps_of_frame (by simp)

theorem stopSide_keeps (sd : Side) (s : State) : Keeps s (stopSide sd s) := by
  unfold stopSide
  split
  · exact enterOpen_keeps sd s
  · exact keeps_of_frame (by simp)
  · exact .refl s

theorem closeSide_keeps (sd : Side) (s : State) : Keeps s (closeSide sd s) := by
  unfold closeSide
  split
  · exact clearSideOpen_keeps sd s
  · exact enterClosed_keeps sd _ s
  · exact enterClosed_keeps sd _ s
  · exact enterClosed_keeps sd _ s
  · refine .trans ?_ (clearSideOpen_keeps sd _)
    exact keeps_of_frame (by simp)

theorem powerFailSide_keeps (sd : Side) (s : State) : Keeps s (powerFailSide sd s) :=
  (keeps_of_frame (t := stopSale sd .powerFail none s) (by simp)).trans (completeSale_keeps sd _)

end Sys2Proof.Machine
end

section

/-! ## The reader operations and the local bus keep the invariants (chapters 06 and 07) -/

namespace Sys2Proof.Machine

open Sys2Proof

/-! ### Leaving service (R119) -/

theorem abandonReaderSlot_keeps (sd : Side) (s : State) : Keeps s (abandonReaderSlot sd s) := keeps_of_frame (by simp)

theorem cutReader_keeps (sd : Side) (st : ReaderState) (hold : HoldTimer) (report : Bool) (s : State) :
    Keeps s (cutReader sd st hold report s) := by
  have hcut : Keeps s (s.withReader sd { s.reader sd with
      state := st, probe := none, hold := hold, up := [], down := []
      flushed := wrap32 ((s.reader sd).flushed + ((s.reader sd).up.length + (s.reader sd).down.length)) }) :=
    keeps_withReader fun h => ⟨fun _ => ⟨rfl, rfl⟩, h.2⟩
  have hslot := hcut.trans (abandonReaderSlot_keeps sd _)
  simp only [cutReader]
  split
  · exact hslot.trans (raise_keeps _ _)
  · exact hslot

theorem enterOff_keeps (sd : Side) (reason : OffReason) (s : State) : Keeps s (enterOff sd reason s) :=
  cutReader_keeps sd _ _ _ s

theorem enterQuarantined_keeps (sd : Side) (s : State) : Keeps s (enterQuarantined sd s) :=
  cutReader_keeps sd _ _ _ s

theorem enterTampered_keeps (sd : Side) (s : State) : Keeps s (enterTampered sd s) := by
  unfold enterTampered
  split
  · exact .refl s
  · exact cutReader_keeps sd _ _ _ s

theorem powerOff_keeps (sd : Side) (s : State) : Keeps s (powerOff sd s) := by
  unfold powerOff
  split
  · exact .refl s
  · exact enterOff_keeps sd _ s

theorem powerOffReaders_keeps (s : State) : Keeps s (powerOffReaders s) :=
  (powerOff_keeps .a s).trans (powerOff_keeps .b _)

/-! ### The answers of a reader (R122, R130 to R133, R138) -/

theorem countReaderError_keeps (sd : Side) (s : State) : Keeps s (countReaderError sd s) := by
  have hcounted : Keeps s (s.withReader sd { s.reader sd with
      err := min ((s.reader sd).err + 1) s.cfg.thresholds.reader }) :=
    keeps_withReader fun h => ⟨h.1, Nat.min_le_right _ _⟩
  simp only [countReaderError]
  split
  · exact hcounted.trans (enterQuarantined_keeps sd _)
  · exact hcounted

theorem countReaderGood_keeps (sd : Side) (s : State) : Keeps s (countReaderGood sd s) :=
  keeps_withReader fun h => ⟨h.1, Nat.le_trans (Nat.sub_le _ _) h.2⟩

theorem countDrop_keeps (sd : Side) (s : State) : Keeps s (countDrop sd s) := keeps_withReader fun h => ⟨h.1, h.2⟩

theorem countViolation_keeps (sd : Side) (s : State) : Keeps s (countViolation sd s) :=
  keeps_withReader fun h => ⟨h.1, h.2⟩

theorem supervise_keeps (sd : Side) (payload : List Byte) (s : State) : Keeps s (supervise sd payload s) := by
  unfold supervise
  split
  · exact countDrop_keeps sd s
  · split
    · exact enterTampered_keeps sd s
    · split
      · exact enterOff_keeps sd _ s
      · exact .refl s

/-- A reader that is not cut off may take a frame. -/
theorem withUp_keeps {sd : Side} {s : State} {l : List (List Byte)} (h : (s.reader sd).state.cut = false) :
    Keeps s (s.withReader sd { s.reader sd with up := l }) :=
  keeps_withReader fun hr => ⟨fun hcut => by simp [h] at hcut, hr.2⟩

theorem withDown_keeps {sd : Side} {s : State} {l : List (List Byte)} (h : (s.reader sd).state.cut = false) :
    Keeps s (s.withReader sd { s.reader sd with down := l }) :=
  keeps_withReader fun hr => ⟨fun hcut => by simp [h] at hcut, hr.2⟩

theorem deliverReaderFrame_keeps {sd : Side} {s : State} (payload : List Byte)
    (hattached : (s.reader sd).state = .attached) : Keeps s (deliverReaderFrame sd payload s) := by
  unfold deliverReaderFrame
  split
  · exact countReaderError_keeps sd s
  · exact (countViolation_keeps sd s).trans (countReaderError_keeps sd _)
  · exact (countViolation_keeps sd s).trans (countReaderError_keeps sd _)
  · exact countDrop_keeps sd s
  · exact (countReaderGood_keeps sd s).trans (supervise_keeps sd payload _)
  · refine (countReaderGood_keeps sd s).trans (withUp_keeps ?_)
    simp [countReaderGood, hattached, ReaderState.cut]

theorem takeAttachedAnswer_keeps {sd : Side} {s : State} (ans : Answer)
    (hattached : (s.reader sd).state = .attached) : Keeps s (takeAttachedAnswer sd ans s) := by
  unfold takeAttachedAnswer
  split
  · exact countReaderError_keeps sd s
  · exact countReaderError_keeps sd s
  · split
    · exact .refl s
    · exact deliverReaderFrame_keeps _ hattached

theorem attachReader_keeps (sd : Side) (s : State) : Keeps s (attachReader sd s) :=
  keeps_withReader fun _ => ⟨fun hcut => by simp [ReaderState.cut] at hcut, Nat.zero_le _⟩

theorem takeProbeAnswer_keeps (sd : Side) (ans : Answer) (s : State) : Keeps s (takeProbeAnswer sd ans s) := by
  unfold takeProbeAnswer
  split
  · split
    · exact .refl s
    · split
      · exact enterTampered_keeps sd s
      · split
        · exact attachReader_keeps sd s
        · exact .refl s
  · exact .refl s

theorem takeReaderAnswer_keeps (sd : Side) (ans : Answer) (s : State) : Keeps s (takeReaderAnswer sd ans s) := by
  unfold takeReaderAnswer
  split
  · next h => exact takeAttachedAnswer_keeps ans h
  · exact takeProbeAnswer_keeps sd ans s
  · exact .refl s

theorem takeEcho_keeps (m : DisplayModule) (sl : Slot) (ans : Answer) (s : State) : Keeps s (takeEcho m sl ans s) :=
  keeps_of_frame (by simp)

theorem takeAnswer_keeps (sl : Slot) (ans : Answer) (s : State) : Keeps s (takeAnswer sl ans s) := by
  unfold takeAnswer
  split
  · exact takeEcho_keeps _ sl ans s
  · exact takeReaderAnswer_keeps _ ans s

/-! ### The slots of a round (R101, R128) -/

/-- A downstream frame is sent from an ATTACHED reader's queue alone (R128). -/
theorem slotChoice_down {s : State} {sd : Side} {payload : List Byte} {rest : List (List Byte)}
    (h : slotChoice s sd = .down payload rest) : (s.reader sd).state = .attached := by
  unfold slotChoice at h
  dsimp only at h
  split at h
  case h_5 hattached => exact hattached
  case h_4 => split at h <;> cases h
  all_goals cases h

theorem readerSlot_keeps (sd : Side) (payload : List Byte) (s : State) : Keeps s (readerSlot sd payload s) :=
  keeps_of_frame (by simp)

theorem beginReaderSlot?_keeps {sd : Side} {s t : State} (h : beginReaderSlot? sd s = some t) : Keeps s t := by
  unfold beginReaderSlot? at h
  split at h
  · cases h
  · next payload rest hchoice =>
    cases h
    exact (withDown_keeps (by simp [slotChoice_down hchoice, ReaderState.cut])).trans (readerSlot_keeps _ _ _)
  · cases h
    refine .trans ?_ (readerSlot_keeps _ _ _)
    exact keeps_withReader fun h => ⟨h.1, h.2⟩
  · cases h
    exact readerSlot_keeps _ _ _

theorem beginDisplaySlot_keeps (m : DisplayModule) (s : State) : Keeps s (beginDisplaySlot m s) := keeps_of_frame (by simp)

theorem beginSlotB_keeps (s : State) : Keeps s (beginSlotB s) := by
  unfold beginSlotB
  cases h : beginReaderSlot? .b s with
  | none => exact beginDisplaySlot_keeps _ s
  | some t => exact beginReaderSlot?_keeps h

theorem beginSlot_keeps (i : SlotId) (s : State) : Keeps s (beginSlot i s) := by
  cases i with
  | display m => exact beginDisplaySlot_keeps m s
  | reader sd =>
    cases sd with
    | b => exact beginSlotB_keeps s
    | a =>
      unfold beginSlot
      cases h : beginReaderSlot? .a s with
      | none => exact beginSlotB_keeps s
      | some t => exact beginReaderSlot?_keeps h

theorem endSlot_keeps (s : State) : Keeps s (endSlot s) := by
  unfold endSlot
  split
  · exact beginSlot_keeps _ s
  · exact .refl s

theorem startRounds_keeps (s : State) : Keeps s (startRounds s) := beginSlot_keeps _ s

end Sys2Proof.Machine
end

section

/-! ## The price operations keep the invariants (chapter 04) -/

namespace Sys2Proof.Machine

open Sys2Proof

theorem reachSides_keeps (s : State) : Keeps s (reachSides s) :=
  ((testStart_keeps .a s).trans (testStart_keeps .b _)).trans (handPanels_keeps _)

theorem generationStep_le (n : Nat) : generationStep n ≤ 65535 := by
  unfold generationStep
  split <;> omega

/-- The price table that becomes active need be legal only where the prices were so at first. -/
theorem Keeps.setActive {s u : State} {t : PriceTable} (h : Keeps s u) (ht : s.PricesOk → t.Legal) :
    Keeps s (setActive t u) := by
  unfold Machine.setActive
  split
  · exact h
  · refine .trans ?_ (reachSides_keeps _)
    refine .trans ?_ (requestWrite_keeps _ _)
    refine .trans ?_ (raise_keeps _ _)
    refine h.withPtu fun hs => ?_
    obtain ⟨⟨-, -, hstaged, hpending⟩, -⟩ := h.prices hs
    exact ⟨ht hs, generationStep_le _, hstaged, hpending⟩

theorem removeStaged_keeps (s : State) : Keeps s (removeStaged s) := by
  refine .trans ?_ (requestWrite_keeps _ _)
  refine (Keeps.refl s).withPtu ?_
  rintro ⟨⟨hactive, hgen, -, -⟩, -⟩
  refine ⟨hactive, hgen, ?_, fun _ => rfl⟩
  rintro t ⟨⟩

theorem staged_legal {t : PriceTable} {s : State} (hstaged : s.ptu.staged = some t) (hs : s.PricesOk) : t.Legal := by
  obtain ⟨⟨-, -, hlegal, -⟩, -⟩ := hs
  exact hlegal t hstaged

theorem commitStaged_keeps {t : PriceTable} {s : State} (hstaged : s.ptu.staged = some t) :
    Keeps s (commitStaged t s) :=
  (removeStaged_keeps s).setActive (staged_legal hstaged)

theorem applyScheduled_keeps (s : State) : Keeps s (applyScheduled s) := by
  unfold applyScheduled
  split
  · next hstaged =>
    split
    · exact commitStaged_keeps hstaged
    · exact .refl s
  · exact .refl s

end Sys2Proof.Machine
end

section

/-! ## The power sequence keeps the invariants (chapters 10 and 11) -/

namespace Sys2Proof.Machine

open Sys2Proof

/-! ### The start of a sequence, and the supply (R174, R177, R181, R191) -/

theorem beginReading_keeps (fresh : Bool) (s : State) : Keeps s (beginReading fresh s) :=
  keeps_withNvs (fun _ => List.nodup_nil) (fun _ => ⟨Nat.zero_le _, Nat.zero_le _, Nat.zero_le _⟩) (.inl rfl)
    (.inl rfl) (.inl rfl)

theorem beginLoad_keeps (fresh : Bool) (s : State) : Keeps s (beginLoad fresh s) := by
  unfold beginLoad
  split
  · exact beginReading_keeps fresh s
  · exact keeps_withNvs_same rfl rfl rfl rfl rfl

theorem ReaderRec.legal_atStart {r : ReaderRec} {threshold : Nat} (fresh : Bool) (h : r.Legal threshold) :
    (r.atStart fresh).Legal threshold :=
  ⟨h.1, Nat.zero_le _⟩

theorem beginSequence_keeps (cause : WakeCause) (fresh : Bool) (s : State) :
    Keeps s (beginSequence cause fresh s) := by
  refine .trans ?_ (beginLoad_keeps fresh _)
  refine .trans ?_ (handPanels_keeps _)
  refine ⟨id, id, id, fun h => ⟨ReaderRec.legal_atStart fresh h.1, ReaderRec.legal_atStart fresh h.2⟩, fun h => ?_⟩
  refine ⟨Nat.zero_le _, ?_, h.2.2⟩
  intro hover
  cases hover

theorem wake_keeps (cause : WakeCause) (s : State) : Keeps s (wake cause s) := beginSequence_keeps cause false s

theorem cut_keeps (s : State) : Keeps s (s.withNvs s.nvs.cut) := by
  unfold Nvs.cut
  split
  · exact .refl s
  · next j _ =>
    cases j.content with
    | metrology n c =>
      cases n <;> exact keeps_withNvs id (fun h => h.2) (.inl rfl) (.inl rfl) (.inr rfl)
    | config c => exact keeps_withNvs id (fun h => h.2) (.inr rfl) (.inl rfl) (.inr rfl)
    | prices p => exact keeps_withNvs id (fun h => h.2) (.inl rfl) (.inr rfl) (.inr rfl)

theorem loseSupply_keeps (s : State) : Keeps s (loseSupply s) :=
  (cut_keeps s).trans (keeps_of_frame (t := loseSupply s) ⟨rfl, rfl, rfl, rfl, rfl, rfl⟩)

/-- A cold power-on keeps the blocks, which are legal, and has defaults for the rest. -/
theorem coldStart_keeps (s : State) : Keeps s (coldStart s) where
  store _ := ⟨List.nodup_nil, Nat.zero_le _, Nat.zero_le _, Nat.zero_le _⟩
  prices h := ⟨Prices.legal_lost, h.2.1, fun _ _ hj => (by cases hj)⟩
  map h := ⟨mapLegal_defaultHoses, h.2.1, fun _ _ hj => (by cases hj)⟩
  readers _ := ⟨ReaderRec.legal_cold _, ReaderRec.legal_cold _⟩
  line := by
    rintro ⟨-, -, -, hblock, -⟩
    exact ⟨Nat.zero_le _, fun h => (by cases h), (by decide : 1 ≤ 24), hblock, fun _ _ hj => (by cases hj)⟩

/-! ### The stages after LOAD (R84, R140, R192, R193) -/

theorem withStage_keeps (st : Stage) (timer : Option Nat) (s : State) : Keeps s (withStage st timer s) :=
  keeps_of_frame (by simp)

theorem enterSupplies_keeps (s : State) : Keeps s (enterSupplies s) := keeps_of_frame (by simp)

theorem enterApply_keeps (s : State) : Keeps s (enterApply s) := by
  simp only [enterApply]
  split
  · exact (applyScheduled_keeps s).trans (withStage_keeps _ _ _)
  · exact (applyScheduled_keeps s).trans (enterSupplies_keeps _)

theorem supplyReader_keeps (sd : Side) (s : State) : Keeps s (supplyReader sd s) := by
  unfold supplyReader
  split
  · exact enterTampered_keeps sd s
  · exact keeps_withReader fun h => ⟨fun hcut => (by cases hcut), h.2⟩

theorem expireAt_keeps (d : Nat) (s : State) : Keeps s (s.expireAt d) := keeps_of_frame (by simp)

theorem supplyStep_keeps (s : State) : Keeps s (supplyStep s) := by
  unfold supplyStep
  split
  · exact ((expireAt_keeps _ s).trans (supplyReader_keeps .a _)).trans (withStage_keeps _ _ _)
  · exact (((expireAt_keeps _ s).trans (supplyReader_keeps .b _)).trans (withStage_keeps _ _ _)).trans
      (startRounds_keeps _)
  · exact .refl s

theorem displayTestEnd_keeps (s : State) : Keeps s (displayTestEnd s) := keeps_of_frame (by simp)

theorem startProbe_keeps (sd : Side) (s : State) : Keeps s (startProbe sd s) := by
  unfold startProbe
  split
  · exact keeps_withReader fun h => ⟨h.1, h.2⟩
  · exact .refl s

theorem sideAtReady_keeps (sd : Side) (s : State) : Keeps s (sideAtReady sd s) := by
  unfold sideAtReady
  split
  · exact clearSideOpen_keeps sd s
  · split
    · exact (enterOpen_keeps sd s).trans (handPanel_keeps sd _)
    · exact .refl s

theorem reportLost_keeps (m : DisplayModule) (s : State) : Keeps s (reportLost m s) := by
  unfold reportLost
  split
  · exact .refl s
  · exact takeLoss_keeps _ s

theorem reportLostAll_keeps (s : State) : Keeps s (reportLostAll s) :=
  (((reportLost_keeps _ s).trans (reportLost_keeps _ _)).trans (reportLost_keeps _ _)).trans (reportLost_keeps _ _)

theorem withEvents_keeps (ev : BitVec 16) (s : State) : Keeps s (s.withEvents ev) :=
  keeps_withSli fun h => ⟨h.1, h.2.1⟩

theorem eventsAtReady_keeps (s : State) : Keeps s (eventsAtReady s) := by
  unfold eventsAtReady
  split
  · exact (withEvents_keeps _ s).trans (raise_keeps _ _)
  · exact (withEvents_keeps _ s).trans (raise_keeps _ _)
  · exact (raise_keeps _ s).trans (raise_keeps _ _)
  · exact raise_keeps _ s
  · exact raise_keeps _ s
  · exact raise_keeps _ s

theorem withPsq_keeps (p : Psq) (s : State) : Keeps s (s.withPsq p) := keeps_of_frame (by simp)

theorem timersAtReady_keeps (s : State) : Keeps s (timersAtReady s) := keeps_of_frame (by simp)

theorem ready_keeps (s : State) : Keeps s (ready s) := by
  refine .trans ?_ (timersAtReady_keeps _)
  refine .trans ?_ (reportLostAll_keeps _)
  refine .trans ?_ (sideAtReady_keeps .b _)
  refine .trans ?_ (sideAtReady_keeps .a _)
  refine .trans ?_ (withPsq_keeps _ _)
  exact (withPsq_keeps _ s).trans (eventsAtReady_keeps _)

theorem readyCheck_keeps (s : State) : Keeps s (readyCheck s) := by
  rcases readyCheck_cases s with h | ⟨-, -, h⟩ <;> rw [h]
  · exact .refl s
  · exact ready_keeps s

theorem recordDisplays_keeps (sd : Side) (s : State) : Keeps s (recordDisplays sd s) := keeps_of_frame (by simp)

theorem showFoundBoth_keeps (s : State) : Keeps s (showFoundBoth s) := keeps_of_frame (by simp)

theorem displaysEnd_keeps (s : State) : Keeps s (displaysEnd s) := by
  unfold displaysEnd
  split
  · refine .trans ?_ (readyCheck_keeps _)
    refine .trans ?_ (startProbe_keeps .b _)
    refine .trans ?_ (startProbe_keeps .a _)
    refine .trans ?_ (withStage_keeps _ _ _)
    refine .trans ?_ (showFoundBoth_keeps _)
    exact ((expireAt_keeps _ s).trans (recordDisplays_keeps .a _)).trans (recordDisplays_keeps .b _)
  · exact .refl s

/-! ### LOAD (R179, R180) -/

theorem syncLine_errors (s : State) : (syncLine s).sli.errors = s.sli.errors := by
  rcases syncLine_cases s with ⟨-, h⟩ | ⟨-, -, h⟩ | ⟨-, -, h⟩ <;> rw [h] <;> rfl

theorem syncLine_overflow (s : State) : (syncLine s).sli.overflow = s.sli.overflow := by
  rcases syncLine_cases s with ⟨-, h⟩ | ⟨-, -, h⟩ | ⟨-, -, h⟩ <;> rw [h] <;> rfl

theorem boundCounters_errors (s : State) :
    (boundCounters s).sli.errors = min s.sli.errors s.cfg.thresholds.site := rfl

/-- A configuration brings the counters into the range of its thresholds. -/
theorem boundCounters_keeps {s : State} {c : Cfg} (hmap : s.MapOk → MapLegal c.hoses)
    (hsite : s.LineOk → 1 ≤ c.thresholds.site) : Keeps s (boundCounters (syncLine (s.withCfg c))) where
  store := by simp [State.StoreOk]
  prices := by simp [State.PricesOk]
  map h := by
    have hlegal := hmap h
    obtain ⟨-, hblocks⟩ := h
    simpa [State.MapOk, hlegal] using hblocks
  readers := by
    rintro ⟨ha, hb⟩
    have hcfg : (boundCounters (syncLine (s.withCfg c))).cfg = c := by simp
    have hriu : (boundCounters (syncLine (s.withCfg c))).riu =
        ⟨{ s.riu.a with err := min s.riu.a.err c.thresholds.reader },
          { s.riu.b with err := min s.riu.b.err c.thresholds.reader }⟩ := by simp [boundCounters]
    rw [State.ReadersOk, hcfg, hriu]
    exact ⟨⟨ha.1, Nat.min_le_right _ _⟩, ⟨hb.1, Nat.min_le_right _ _⟩⟩
  line h := by
    have hpos := hsite h
    obtain ⟨-, hover, -, hblocks⟩ := h
    have herrors : (boundCounters (syncLine (s.withCfg c))).sli.errors = min s.sli.errors c.thresholds.site := by
      simp [boundCounters_errors, syncLine_errors]
    have hoverflow : (boundCounters (syncLine (s.withCfg c))).sli.overflow = s.sli.overflow :=
      syncLine_overflow _
    refine ⟨?_, fun ho => ?_, ?_, ?_⟩
    · rw [herrors]
      simp
    · have := hover (hoverflow ▸ ho)
      rw [herrors]
      omega
    · simpa using hpos
    · simpa using hblocks

theorem takeConfig_keeps {s : State} {c : Cfg} (fresh : Bool) (hmap : s.MapOk → MapLegal c.hoses)
    (hsite : s.LineOk → 1 ≤ c.thresholds.site) : Keeps s (takeConfig fresh c s) := by
  have hbound := boundCounters_keeps hmap hsite
  simp only [takeConfig]
  split
  · exact hbound.trans (keeps_of_frame (t := buildLifted _) ⟨rfl, rfl, rfl, rfl, rfl, rfl⟩)
  · exact hbound

theorem loadConfig_keeps {s : State} {found : Option Cfg} (fresh : Bool)
    (hfound : ∀ c, found = some c → s.nvs.config = some c) : Keeps s (loadConfig fresh found s) := by
  unfold loadConfig
  split
  · next c =>
    have hblock := hfound c rfl
    exact takeConfig_keeps fresh (fun h => h.2.1 c hblock) (fun h => h.2.2.2.1 c hblock)
  · have hdefault : Keeps s (takeConfig fresh .default s) :=
      takeConfig_keeps fresh (fun _ => mapLegal_defaultHoses) (fun _ => by decide)
    refine .trans ?_ (showFoundBoth_keeps _)
    refine .trans ?_ (withPsq_keeps _ _)
    exact (hdefault.trans (raise_keeps _ _)).trans (requestWrite_keeps _ _)

theorem loadPrices_keeps {s : State} {found : Option Prices} (hfound : ∀ p, found = some p → s.nvs.prices = some p) :
    Keeps s (loadPrices found s) := by
  unfold loadPrices
  split
  · next p =>
    refine .trans ?_ (handPanels_keeps _)
    exact (Keeps.refl s).withPtu fun h => h.2.1 p (hfound p rfl)
  · refine .trans ?_ (handPanels_keeps _)
    refine .trans ?_ (requestWrite_keeps _ _)
    refine .trans ?_ (raise_keeps _ _)
    exact (Keeps.refl s).withPtu fun _ => Prices.legal_lost

theorem takeMetrology_keeps (m : Metrology) (s : State) : Keeps s (takeMetrology m s) := keeps_of_frame (by simp)

theorem loadMetrology_keeps (chosen : Option (SlotNo × Stamped)) (s : State) : Keeps s (loadMetrology chosen s) := by
  unfold loadMetrology
  split
  · next n st =>
    refine (takeMetrology_keeps st.content s).trans ?_
    exact keeps_withNvs_same rfl rfl rfl rfl rfl
  · refine .trans ?_ (showFoundBoth_keeps _)
    refine .trans ?_ (clearSideOpen_keeps .b _)
    refine .trans ?_ (clearSideOpen_keeps .a _)
    refine .trans ?_ (withPsq_keeps _ _)
    refine (takeMetrology_keeps .lost s).trans ?_
    exact keeps_withNvs_same rfl rfl rfl rfl rfl

theorem endLoad_keeps (s : State) : Keeps s (endLoad s) := by
  refine .trans ?_ (enterApply_keeps _)
  exact ⟨id, id, id, id, id⟩

theorem readNext_keeps (fresh : Bool) (b : Block) (attempt : Nat) (good0 : Bool) (s : State) :
    Keeps s (readNext fresh b attempt good0 s) :=
  keeps_withNvs_same rfl rfl rfl rfl rfl

theorem blockRead_keeps (fresh good : Bool) (b : Block) (good0 : Bool) (s : State) :
    Keeps s (blockRead fresh good b good0 s) := by
  cases b with
  | config =>
    refine .trans ?_ (readNext_keeps _ _ _ _ _)
    exact loadConfig_keeps fresh (by cases good <;> simp)
  | prices =>
    refine .trans ?_ (readNext_keeps _ _ _ _ _)
    exact loadPrices_keeps (by cases good <;> simp)
  | m0 => exact (raiseIf_keeps _ _ s).trans (readNext_keeps _ _ _ _ _)
  | m1 => exact ((raiseIf_keeps _ _ s).trans (loadMetrology_keeps _ _)).trans (endLoad_keeps _)

theorem readAttempt_keeps (crcMatches : Bool) (s : State) : Keeps s (readAttempt crcMatches s) := by
  unfold readAttempt
  split
  · simp only
    split
    · exact (expireAt_keeps _ s).trans (blockRead_keeps _ _ _ _ _)
    · split
      · exact (expireAt_keeps _ s).trans (readNext_keeps _ _ _ _ _)
      · exact (expireAt_keeps _ s).trans (blockRead_keeps _ _ _ _ _)
  · exact .refl s

/-! ### Aborts, the power warning, and WAIT (R65, R177, R194, R196) -/

theorem stopDisplays_keeps (s : State) : Keeps s (stopDisplays s) := keeps_of_frame (by simp)

theorem abortSequence_keeps (s : State) : Keeps s (abortSequence s) := by
  have hoff : Keeps s (powerOffReaders (stopDisplays s)) := (stopDisplays_keeps s).trans (powerOffReaders_keeps _)
  simp only [abortSequence]
  split
  · refine .trans ?_ (withStage_keeps _ _ _)
    exact (hoff.trans (withPsq_keeps _ _)).trans (showFoundBoth_keeps _)
  · refine .trans ?_ (withPsq_keeps _ _)
    exact (hoff.trans (withPsq_keeps _ _)).trans (showFoundBoth_keeps _)

theorem waitTimer_keeps (s : State) : Keeps s (waitTimer s) := by
  unfold waitTimer
  split
  · exact (expireAt_keeps _ s).trans (beginSequence_keeps _ _ _)
  · exact .refl s

theorem drawn_keeps (s : State) : Keeps s s.drawn := keeps_of_frame (by simp)

theorem completeBoth_keeps (s : State) : Keeps s (completeBoth s) := by
  unfold completeBoth
  split
  · exact ((drawn_keeps s).trans (powerFailSide_keeps .b _)).trans (powerFailSide_keeps .a _)
  · exact ((drawn_keeps s).trans (powerFailSide_keeps .a _)).trans (powerFailSide_keeps .b _)

theorem renewBlocked_keeps (sd : Side) (s : State) : Keeps s (renewBlocked sd s) := keeps_of_frame (by simp)

theorem warnSides_keeps (s : State) : Keeps s (warnSides s) := by
  refine .trans ?_ (renewBlocked_keeps .b _)
  refine .trans ?_ (renewBlocked_keeps .a _)
  refine .trans ?_ (raiseIf_keeps _ _ _)
  split
  · exact completeBoth_keeps s
  · exact (powerFailSide_keeps .a s).trans (powerFailSide_keeps .b _)

theorem withLines_keeps (l : Lines) (s : State) : Keeps s (s.withLines l) := keeps_of_frame (by simp)

theorem powerWarning_keeps (s : State) : Keeps s (powerWarning s) := by
  have hasserted : Keeps s ((s.withLines { s.lines with warning := true }).withNvs
      { s.nvs with queue := urgentQueue s.nvs.queue }) :=
    (withLines_keeps _ s).trans (keeps_withNvs urgentQueue_nodup (fun h => h.2) (.inl rfl) (.inl rfl) (.inl rfl))
  simp only [powerWarning]
  split
  · exact hasserted.trans (warnSides_keeps _)
  · exact hasserted.trans (abortSequence_keeps _)
  · exact hasserted.trans (abortSequence_keeps _)
  · exact hasserted.trans (abortSequence_keeps _)
  all_goals exact hasserted

theorem warningReleased_keeps (s : State) : Keeps s (warningReleased s) := by
  simp only [warningReleased]
  split
  · exact ((withLines_keeps _ s).trans (testStart_keeps .a _)).trans (testStart_keeps .b _)
  · exact (withLines_keeps _ s).trans (enterSupplies_keeps _)
  · exact withLines_keeps _ s

/-! ### Drains and night entry (R170, R178, R185) -/

theorem syncLine_keeps (s : State) : Keeps s (syncLine s) :=
  keeps_of_frame (by simp [syncLine_errors, syncLine_overflow])

theorem quietAfterReply_keeps (s : State) : Keeps s (quietAfterReply s) := by
  rcases quietAfterReply_cases s with ⟨-, h⟩ | ⟨-, -, h⟩ <;> rw [h]
  · exact .refl s
  · exact keeps_of_frame (by simp)

theorem enterNight_keeps (r : NightRequest) (s : State) : Keeps s (enterNight r s) := by
  refine .trans ?_ (withPsq_keeps _ _)
  refine .trans ?_ (quietAfterReply_keeps _)
  refine .trans ?_ (syncLine_keeps _)
  refine ((powerOffReaders_keeps s).trans (stopDisplays_keeps _)).trans ?_
  exact keeps_withSli fun _ => ⟨Nat.zero_le _, fun h => (by cases h)⟩

theorem endDrain_keeps (s : State) : Keeps s (endDrain s) := by
  rcases endDrain_cases s with ⟨-, h⟩ | ⟨r, -, -, -, h⟩ | ⟨-, -, h⟩ <;> rw [h]
  · exact beginSequence_keeps _ _ s
  · exact enterNight_keeps r s
  · exact .refl s

theorem finish_keeps (s : State) : Keeps s (finish s) := by
  rcases finish_cases s with ⟨-, h⟩ | ⟨-, h⟩ <;> rw [h]
  · exact beginWrite_keeps s
  · exact (beginWrite_keeps s).trans (endDrain_keeps _)

theorem beginRestartDrain_keeps (s : State) : Keeps s (beginRestartDrain s) :=
  ((powerOffReaders_keeps s).trans (stopDisplays_keeps _)).trans (withPsq_keeps _ _)

theorem replyEnded_keeps (s : State) : Keeps s (replyEnded s) := by
  have hline : Keeps s (quietAfterReply (syncLine s)) := (syncLine_keeps s).trans (quietAfterReply_keeps _)
  unfold replyEnded
  dsimp only
  split
  · refine .trans ?_ (beginRestartDrain_keeps _)
    split
    · exact hline.trans (withPsq_keeps _ _)
    · exact hline
  all_goals
    split
    · exact hline.trans (withPsq_keeps _ _)
    · exact hline

/-- A change of the site line apart from its error counter and its flag. -/
theorem keeps_withSli_same {s : State} {l : Sli} (herrors : l.errors = s.sli.errors)
    (hoverflow : l.overflow = s.sli.overflow) : Keeps s (s.withSli l) :=
  keeps_withSli fun h => by
    rw [herrors, hoverflow]
    exact ⟨h.1, h.2.1⟩

theorem abandonReply_keeps (s : State) : Keeps s (abandonReply s) := by
  unfold abandonReply
  split
  · exact .refl s
  · exact .refl s
  · refine .trans ?_ (replyEnded_keeps _)
    exact keeps_withSli_same rfl rfl
  · refine .trans ?_ (replyEnded_keeps _)
    exact keeps_withSli_same rfl rfl

theorem confirmExpired_keeps (s : State) : Keeps s (confirmExpired s) := by
  unfold confirmExpired
  split
  · exact .refl s
  · exact ((expireAt_keeps _ s).trans (raise_keeps _ _)).trans (withPsq_keeps _ _)

theorem wakeExpired_keeps (s : State) : Keeps s (wakeExpired s) := by
  unfold wakeExpired
  split
  · exact .refl s
  · dsimp only
    split
    · exact ((expireAt_keeps _ s).trans (withPsq_keeps _ _)).trans (wake_keeps _ _)
    · exact (expireAt_keeps _ s).trans (withPsq_keeps _ _)

theorem nightNozzleWake_keeps (s : State) : Keeps s (nightNozzleWake s) := by
  unfold nightNozzleWake
  split
  · exact wake_keeps _ s
  · exact .refl s

/-! ### The end of a write (R174, R175) -/

theorem FailCounts.set_le {f : FailCounts} {v : Nat} (k : Kind) (hv : v ≤ 3)
    (hf : f.config ≤ 3 ∧ f.prices ≤ 3 ∧ f.metrology ≤ 3) :
    (f.set v k).config ≤ 3 ∧ (f.set v k).prices ≤ 3 ∧ (f.set v k).metrology ≤ 3 := by
  obtain ⟨hc, hp, hm⟩ := hf
  cases k
  · exact ⟨hv, hp, hm⟩
  · exact ⟨hc, hv, hm⟩
  · exact ⟨hc, hp, hv⟩

/-- A verified write retains what its owners held as it began. -/
theorem writeVerified_keeps {s : State} {j : WriteJob} (hjob : s.nvs.job = some j) :
    Keeps s (writeVerified j.content (s.withNvs { s.nvs with job := none })) := by
  have hstore : s.StoreOk → ∀ k, (s.nvs.fail.set 0 k).config ≤ 3 ∧ (s.nvs.fail.set 0 k).prices ≤ 3 ∧
      (s.nvs.fail.set 0 k).metrology ≤ 3 := fun h k => FailCounts.set_le k (Nat.zero_le _) h.2
  unfold writeVerified
  split
  · next c hc =>
    refine ⟨fun h => ⟨h.1, hstore h _⟩, fun h => ⟨h.1, h.2.1, fun _ _ hj => (by cases hj)⟩, fun h => ?_, id, fun h => ?_⟩
    · refine ⟨h.1, fun c' hc' => ?_, fun _ _ hj => (by cases hj)⟩
      cases hc'
      exact h.2.2 j c hjob hc
    · refine ⟨h.1, h.2.1, h.2.2.1, fun c' hc' => ?_, fun _ _ hj => (by cases hj)⟩
      cases hc'
      exact h.2.2.2.2 j c hjob hc
  · next p hp =>
    refine ⟨fun h => ⟨h.1, hstore h _⟩, fun h => ?_, fun h => ⟨h.1, h.2.1, fun _ _ hj => (by cases hj)⟩, id, fun h => ?_⟩
    · refine ⟨h.1, fun p' hp' => ?_, fun _ _ hj => (by cases hj)⟩
      cases hp'
      exact h.2.2 j p hjob hp
    · exact ⟨h.1, h.2.1, h.2.2.1, h.2.2.2.1, fun _ _ hj => (by cases hj)⟩
  · exact keeps_withNvs (s := s) id (fun h => hstore h _) (.inl rfl) (.inl rfl) (.inr rfl)
  · exact keeps_withNvs (s := s) id (fun h => hstore h _) (.inl rfl) (.inl rfl) (.inr rfl)

theorem thirdFailure_keeps (s : State) : Keeps s (thirdFailure s) := by
  refine ((takeStoreFailure_keeps .a s).trans (takeStoreFailure_keeps .b _)).trans ?_
  exact keeps_withNvs_same rfl rfl rfl rfl rfl

theorem failBlock_keeps (c : WriteContent) (s : State) : Keeps s (s.withNvs (failBlock c s.nvs)) :=
  keeps_withNvs_same (by simp) (by simp) (by simp) (by simp) (by simp)

theorem writeFailed_keeps (c : WriteContent) (s : State) : Keeps s (writeFailed c s) := by
  have hqueued : Keeps s (requestWrite c.kind (raise .nvFault (s.withNvs (failBlock c s.nvs)))) :=
    ((failBlock_keeps c s).trans (raise_keeps _ _)).trans (requestWrite_keeps _ _)
  have hcounted (u : State) (n : Nat) :
      Keeps u (u.withNvs { u.nvs with fail := u.nvs.fail.set (min n 3) c.kind }) :=
    keeps_withNvs id (fun h => FailCounts.set_le _ (Nat.min_le_right _ _) h.2) (.inl rfl) (.inl rfl) (.inl rfl)
  have hthird (u : State) (p : Prop) [Decidable p] : Keeps u (if p then thirdFailure u else u) := by
    split
    · exact thirdFailure_keeps u
    · exact .refl u
  simp only [writeFailed]
  split
  · refine .trans ?_ (endDrain_keeps _)
    refine .trans ?_ (hthird _ _)
    exact hqueued.trans (hcounted _ _)
  · refine .trans ?_ (hthird _ _)
    exact hqueued.trans (hcounted _ _)

theorem resumeLoad_keeps (s : State) : Keeps s (resumeLoad s) := by
  unfold resumeLoad
  split
  · exact beginReading_keeps _ s
  · exact .refl s

theorem writeComplete_keeps (readBackEqual : Bool) (s : State) : Keeps s (writeComplete readBackEqual s) := by
  unfold writeComplete
  split
  · exact .refl s
  · next j hjob =>
    refine .trans ?_ (resumeLoad_keeps _)
    split
    · exact (expireAt_keeps j.deadline s).trans (writeVerified_keeps (s := s.expireAt j.deadline) hjob)
    · refine .trans ?_ (writeFailed_keeps _ _)
      refine (expireAt_keeps j.deadline s).trans ?_
      exact keeps_withNvs id (fun h => h.2) (.inl rfl) (.inl rfl) (.inr rfl)

end Sys2Proof.Machine
end

section

/-! ## The requests keep the invariants (chapters 02 to 05 and 07 to 11) -/

namespace Sys2Proof.Machine

open Sys2Proof

/-! ### The way of a request (R147 to R149, R183, R190) -/

theorem confirmWake_keeps (m : AddrMode) (s : State) : Keeps s (confirmWake m s) := keeps_of_frame (by simp)

theorem countModeReject_keeps (s : State) : Keeps s (countModeReject s) := keeps_withSli_same rfl rfl

theorem sendReply_keeps (m : AddrMode) (frame : List Byte) (second : Option (List Byte)) (s : State) :
    Keeps s (sendReply m frame second s) := by
  cases m with
  | unicast =>
    simp only [sendReply]
    split
    · exact .refl s
    · exact keeps_withSli_same rfl rfl
  | group => exact .refl s
  | broadcast => exact .refl s

theorem serveRequest_keeps {owner : State → Answered} (hown : ∀ s, Keeps s (owner s).st) (m : AddrMode) (k : ReqKind)
    (s : State) : Keeps s (serveRequest m k owner s) := by
  unfold serveRequest replyTo
  exact (hown s).trans (sendReply_keeps _ _ _ _)

theorem takeRequest_keeps {owner : State → Answered} (hown : ∀ s, Keeps s (owner s).st) (m : AddrMode) (k : ReqKind)
    (s : State) : Keeps s (takeRequest m k owner s) := by
  unfold takeRequest
  split
  · refine (confirmWake_keeps m s).trans ?_
    simp only [admitRequest]
    split
    · exact serveRequest_keeps hown m k _
    · exact serveRequest_keeps (fun s => .refl s) m k _
    · exact .refl _
  · exact countModeReject_keeps s

theorem arriveRequest_keeps {owner : State → Answered} (hown : ∀ s, Keeps s (owner s).st) (m : AddrMode)
    (k : ReqKind) (s : State) : Keeps s (arriveRequest m k owner s) := by
  have habandon : Keeps s (finish (abandonReply s)) := (abandonReply_keeps s).trans (finish_keeps _)
  unfold arriveRequest
  split
  · exact .refl s
  · exact takeRequest_keeps hown m k s
  · exact habandon.trans (takeRequest_keeps hown m k _)
  · exact habandon.trans (takeRequest_keeps hown m k _)

/-- A check of a field that refuses changes nothing. -/
theorem orRefuse_keeps {α : Type} {r : Result} {s : State} {v : Option α} {f : α → Answered}
    (h : ∀ x, v = some x → Keeps s (f x).st) : Keeps s (orRefuse r s v f).st := by
  cases v with
  | none => exact .refl s
  | some x => exact h x rfl

/-! ### Sale requests (R41, R43, R51, R52, R94) -/

theorem authorizeOpen_keeps (sd : Side) (saleId : Nat) (auth : Option Auth) (s : State) :
    Keeps s (authorizeOpen sd saleId auth s).st := by
  unfold authorizeOpen
  split
  · exact .refl s
  · refine orRefuse_keeps fun a _ => ?_
    split
    · exact .refl s
    · split
      · exact .refl s
      · refine .trans ?_ (testStart_keeps sd _)
        exact keeps_of_frame (by simp)

theorem ownAuthorize_keeps (side saleId allowed level limitType limitValue : Nat) (s : State) :
    Keeps s (ownAuthorize side saleId allowed level limitType limitValue s).st := by
  refine orRefuse_keeps fun sd _ => ?_
  split
  · split <;> exact .refl s
  · exact authorizeOpen_keeps sd saleId _ s
  · exact authorizeOpen_keeps sd saleId _ s
  · exact .refl s
  · exact .refl s

theorem withSideState_keeps (sd : Side) (st : SideState) (s : State) : Keeps s (s.withSideState sd st) :=
  keeps_of_frame (by simp)

theorem ownSuspend_keeps (side : Nat) (s : State) : Keeps s (ownSuspend side s).st := by
  refine orRefuse_keeps fun sd _ => ?_
  split
  · exact withSideState_keeps sd _ s
  · exact withSideState_keeps sd _ s
  · exact .refl s

theorem actOnQuery_keeps (sd : Side) (ctx : Sale) (s : State) : Keeps s (actOnQuery sd ctx s) := keeps_of_frame (by simp)

theorem ownResume_keeps (side : Nat) (s : State) : Keeps s (ownResume side s).st := by
  refine orRefuse_keeps fun sd _ => ?_
  split
  · exact actOnQuery_keeps sd _ s
  · exact .refl s

theorem ownStop_keeps (side : Nat) (s : State) : Keeps s (ownStop side s).st := by
  unfold ownStop
  split
  · exact stopSide_keeps .a s
  · exact stopSide_keeps .b s
  · exact (stopSide_keeps .a s).trans (stopSide_keeps .b _)
  · exact .refl s

theorem clearRecord_keeps (sd : Side) (r : SaleRecord) (s : State) : Keeps s (clearRecord sd r s) := by
  refine .trans ?_ (requestWrite_keeps _ _)
  exact ⟨id, id, id, id, id⟩

theorem ownClearSale_keeps (side saleId : Nat) (s : State) : Keeps s (ownClearSale side saleId s).st := by
  refine orRefuse_keeps fun sd _ => ?_
  split
  · exact .refl s
  · exact orRefuse_keeps fun r _ => clearRecord_keeps sd r s

theorem ownReadSale_keeps (side kind value : Nat) (s : State) : Keeps s (ownReadSale side kind value s).st :=
  orRefuse_keeps fun _ _ => orRefuse_keeps fun _ _ => orRefuse_keeps fun _ _ => .refl s

/-! ### Price requests (R71 to R75) -/

theorem stageEntry_legal {g : Grade} {l : Level} {price : Nat} {p : Prices} (hprice : price ≤ Config.priceMax)
    (hp : p.Legal) : (stageEntry g l price p).Legal := by
  obtain ⟨hactive, hgen, hstaged, hpending⟩ := hp
  unfold stageEntry
  split
  · next t ht =>
    refine ⟨hactive, hgen, fun t' ht' => ?_, fun h => by cases h⟩
    cases ht'
    exact PriceTable.legal_withEntry (hstaged t ht) g l hprice
  · refine ⟨hactive, hgen, fun t' ht' => ?_, fun _ => rfl⟩
    cases ht'
    exact PriceTable.legal_withEntry hactive g l hprice

theorem ownStagePrice_keeps (grade level price : Nat) (s : State) : Keeps s (ownStagePrice grade level price s).st := by
  refine orRefuse_keeps fun g _ => orRefuse_keeps fun l _ => ?_
  split
  · exact .refl s
  · next hprice =>
    simp only [okay, setStaged]
    split
    · exact .refl s
    · refine .trans ?_ (requestWrite_keeps _ _)
      exact (Keeps.refl s).withPtu fun hs => stageEntry_legal (Nat.le_of_not_lt hprice) hs.1

theorem ownCommitPrices_keeps (generation mode : Nat) (s : State) :
    Keeps s (ownCommitPrices generation mode s).st := by
  refine orRefuse_keeps fun md _ => orRefuse_keeps fun t ht => ?_
  split
  · cases md with
    | now => exact commitStaged_keeps ht
    | atPowerUp =>
      simp only [okay, commit]
      split
      · exact .refl s
      · refine .trans ?_ (requestWrite_keeps _ _)
        refine (Keeps.refl s).withPtu ?_
        rintro ⟨⟨hactive, hgen, hstaged, -⟩, -⟩
        exact ⟨hactive, hgen, hstaged, fun h => by cases h.symm.trans ht⟩
  · exact .refl s

theorem ownReplacePrice_keeps (grade level old new : Nat) (s : State) :
    Keeps s (ownReplacePrice grade level old new s).st := by
  refine orRefuse_keeps fun g _ => orRefuse_keeps fun l _ => ?_
  split
  · exact .refl s
  · next hrange =>
    split
    · exact .refl s
    · refine (Keeps.refl s).setActive fun hs => PriceTable.legal_withEntry hs.1.1 g l ?_
      exact Nat.le_of_not_lt fun hlt => hrange (.inr hlt)

theorem ownDiscardStaged_keeps (s : State) : Keeps s (ownDiscardStaged s).st := by
  simp only [ownDiscardStaged, okay]
  split
  · exact removeStaged_keeps s
  · exact .refl s

/-! ### Control requests (R153, R170, R176, R184) -/

theorem clearEvents_keeps (mask : BitVec 16) (s : State) : Keeps s (clearEvents mask s) := withEvents_keeps _ s

theorem ownClearEvents_keeps (mask : Nat) (s : State) : Keeps s (ownClearEvents mask s).st := by
  simp only [ownClearEvents, okData, acknowledge]
  split
  · exact (clearEvents_keeps _ s).trans (requestWrite_keeps _ _)
  · exact clearEvents_keeps _ s

theorem ownEnterNight_keeps (m : AddrMode) (delay : Nat) (s : State) : Keeps s (ownEnterNight m delay s).st := by
  unfold ownEnterNight
  split
  · exact withPsq_keeps _ s
  · exact .refl s

theorem ownRestart_keeps (s : State) : Keeps s (ownRestart s).st := by
  unfold ownRestart
  split
  · exact withPsq_keeps _ s
  · exact .refl s

/-! ### Settings (R1, R20, R123, R159 to R168) -/

/-- An accepted setting other than SET_HOSE and SET_THRESHOLDS. -/
theorem setCfg_keeps {c : Cfg} {s : State} (hhoses : c.hoses = s.cfg.hoses)
    (hthresholds : c.thresholds = s.cfg.thresholds) : Keeps s (setCfg c s) :=
  (keeps_withCfg (fun h => hhoses ▸ h) hthresholds).trans (requestWrite_keeps _ _)

theorem ownSetAddress_keeps (address group : Nat) (s : State) : Keeps s (ownSetAddress address group s).st := by
  unfold ownSetAddress
  split
  · exact setCfg_keeps rfl rfl
  · exact .refl s

theorem ownSetLine_keeps (speed : Nat) (s : State) : Keeps s (ownSetLine speed s).st := by
  refine orRefuse_keeps fun v _ => ?_
  have hset : Keeps s (setCfg { s.cfg with speed := v } s) := setCfg_keeps rfl rfl
  exact hset.trans (keeps_withSli_same rfl rfl)

theorem forgetReference_keeps (m : Meter) (s : State) : Keeps s (forgetReference m s) := ⟨id, id, id, id, id⟩

theorem setMeter_keeps (m : Meter) (c : MeterConfig) (s : State) : Keeps s (setMeter m c s) := by
  simp only [setMeter]
  split
  · exact setCfg_keeps rfl rfl
  · refine .trans ?_ (forgetReference_keeps m _)
    exact setCfg_keeps rfl rfl

theorem ownSetMeter_keeps (meter mode k : Nat) (trim : Int) (ra sa fmax : Nat) (s : State) :
    Keeps s (ownSetMeter meter mode k trim ra sa fmax s).st := by
  refine orRefuse_keeps fun m _ => orRefuse_keeps fun c _ => ?_
  split
  · exact setMeter_keeps m c s
  · exact .refl s

theorem ownSetScale_keeps (dv dp da rounding : Nat) (s : State) : Keeps s (ownSetScale dv dp da rounding s).st := by
  refine orRefuse_keeps fun sc _ => ?_
  split
  · refine .trans ?_ (handPanels_keeps _)
    exact setCfg_keeps rfl rfl
  · exact .refl s

theorem ownSetTimers_keeps (t : TimerFields) (s : State) : Keeps s (ownSetTimers t s).st :=
  orRefuse_keeps fun _ _ => setCfg_keeps rfl rfl

theorem ownSetRoute_keeps (row inUse source low high maxLen action : Nat) (s : State) :
    Keeps s (ownSetRoute row inUse source low high maxLen action s).st := by
  refine orRefuse_keeps fun i _ => orRefuse_keeps fun r _ => ?_
  split
  · exact .refl s
  · exact setCfg_keeps rfl rfl

theorem ownClearRoute_keeps (row : Nat) (s : State) : Keeps s (ownClearRoute row s).st := by
  refine orRefuse_keeps fun i _ => ?_
  split
  · exact .refl s
  · split
    · exact .refl s
    · exact setCfg_keeps rfl rfl

theorem ownSetWake_keeps (w : WakeFields) (s : State) : Keeps s (ownSetWake w s).st :=
  orRefuse_keeps fun _ _ => setCfg_keeps rfl rfl

theorem ownArmWake_keeps (s : State) : Keeps s (ownArmWake s).st := by
  unfold ownArmWake
  split
  · exact .refl s
  · exact setCfg_keeps rfl rfl

theorem resetStrays_keeps (sd : Side) (s : State) : Keeps s (resetStrays sd s) := keeps_of_frame (by simp)

theorem ownOpenSide_keeps (side : Nat) (s : State) : Keeps s (ownOpenSide side s).st := by
  refine orRefuse_keeps fun sd _ => ?_
  split
  · refine .trans ?_ (handPanel_keeps sd _)
    refine .trans ?_ (enterOpen_keeps sd _)
    refine .trans ?_ (resetStrays_keeps sd _)
    exact setCfg_keeps rfl rfl
  · exact .refl s

theorem ownCloseSide_keeps (side : Nat) (s : State) : Keeps s (ownCloseSide side s).st :=
  orRefuse_keeps fun sd _ => closeSide_keeps sd s

/-! ### SET_HOSE (R164) -/

theorem moveLifted_keeps (h : Hose) (old new : Option Side) (s : State) : Keeps s (moveLifted h old new s) :=
  keeps_of_frame (by simp)

theorem resetMoved_keeps (old : PerHose (Option HoseRec)) (s : State) : Keeps s (resetMoved old s) :=
  ⟨id, id, id, id, id⟩

/-- Check 2 of R164: no assigned record names one meter twice. -/
theorem hoseRecOf_secondary {assigned side position grade primary secondary : Nat} {q : HoseRec}
    (h : hoseRecOf assigned side position grade primary secondary = some (some q)) :
    q.secondary ≠ some q.primary := by
  unfold hoseRecOf at h
  split at h
  · cases h
  · cases h
  · split at h
    · split at h
      · cases h
      · next hne =>
        cases h
        exact hne
    · cases h

/-- Checks 3 and 4 of R164. -/
theorem hoseRefusal_none {s : State} {h : Hose} {r : Option HoseRec} (hnone : hoseRefusal s h r = none) :
    (∀ q, r = some q → placeTaken s.cfg.hoses h q = false) ∧ meterShared (s.cfg.hoses.set h r) = false := by
  unfold hoseRefusal at hnone
  simp only [ite_eq_iff, reduceCtorEq, and_false, false_or] at hnone
  obtain ⟨hfree, -⟩ := hnone
  · rw [Bool.or_eq_true, not_or, Bool.not_eq_true, Bool.not_eq_true] at hfree
    obtain ⟨htaken, hshared⟩ := hfree
    refine ⟨?_, hshared⟩
    rintro q rfl
    exact htaken

theorem setHose_keeps {h : Hose} {r : Option HoseRec} {s : State}
    (hmap : MapLegal s.cfg.hoses → MapLegal (s.cfg.hoses.set h r)) : Keeps s (setHose h r s) := by
  refine .trans ?_ (handPanels_keeps _)
  refine .trans ?_ (resetMoved_keeps _ _)
  refine .trans ?_ (moveLifted_keeps _ _ _ _)
  refine .trans ?_ (requestWrite_keeps _ _)
  exact keeps_withCfg hmap rfl

theorem ownSetHose_keeps (hose assigned side position grade primary secondary : Nat) (s : State) :
    Keeps s (ownSetHose hose assigned side position grade primary secondary s).st := by
  refine orRefuse_keeps fun h _ => orRefuse_keeps fun r hr => ?_
  split
  · exact .refl s
  · next hnone =>
    obtain ⟨hplace, hshared⟩ := hoseRefusal_none hnone
    refine setHose_keeps fun hmap => mapLegal_set hmap hplace (fun q hq => ?_) hshared
    exact hoseRecOf_secondary (hq ▸ hr)

/-! ### SET_THRESHOLDS (R134, R145, R167) -/

theorem thresholdsOf_site {margin reader site feedA feedB : Nat} {v : Thresholds}
    (h : thresholdsOf margin reader site feedA feedB = some v) : 1 ≤ v.site := by
  unfold thresholdsOf at h
  split at h
  · split at h
    · next hrange =>
      cases h
      simp only [within, Bool.and_eq_true, decide_eq_true_eq] at hrange
      obtain ⟨-, hsite, -⟩ := hrange
      exact hsite
    · cases h
  · cases h

theorem raise_reader (e : Event) (s : State) (d : Side) : (raise e s).reader d = s.reader d := rfl

theorem abandonReaderSlot_reader (sd : Side) (s : State) (d : Side) :
    (abandonReaderSlot sd s).reader d = s.reader d := by
  simp [State.reader]

theorem cutReader_reader (sd : Side) (st : ReaderState) (hold : HoldTimer) (report : Bool) (s : State) :
    (cutReader sd st hold report s).reader sd = { s.reader sd with
      state := st, probe := none, hold := hold, up := [], down := []
      flushed := wrap32 ((s.reader sd).flushed + ((s.reader sd).up.length + (s.reader sd).down.length)) } := by
  simp only [cutReader]
  split <;> simp [raise_reader, abandonReaderSlot_reader]

theorem cutReader_reader_other {sd d : Side} (h : d ≠ sd) (st : ReaderState) (hold : HoldTimer) (report : Bool)
    (s : State) : (cutReader sd st hold report s).reader d = s.reader d := by
  simp only [cutReader]
  split <;> simp [raise_reader, abandonReaderSlot_reader, State.reader_withReader_other, h]

theorem clampReader_reader_other {sd d : Side} (h : d ≠ sd) (s : State) :
    (clampReader sd s).reader d = s.reader d := by
  simp only [clampReader]
  split
  · split
    · rw [enterQuarantined, cutReader_reader_other h]
      exact State.reader_withReader_other s _ h
    · exact State.reader_withReader_other s _ h
  · rfl

/-- Whatever the counter was, it comes into the range of the threshold. -/
theorem clampReader_legal {sd : Side} {s : State}
    (hcut : (s.reader sd).state.cut = true → (s.reader sd).up = [] ∧ (s.reader sd).down = []) :
    ((clampReader sd s).reader sd).Legal s.cfg.thresholds.reader := by
  simp only [clampReader]
  split
  · split
    · rw [enterQuarantined, cutReader_reader]
      simp [ReaderRec.Legal]
    · simpa [ReaderRec.Legal] using hcut
  · next hlow => exact ⟨hcut, Nat.le_of_not_lt hlow⟩

theorem clampReader_keeps (sd : Side) (s : State) : Keeps s (clampReader sd s) := by
  have hbrought : Keeps s (s.withReader sd { s.reader sd with err := s.cfg.thresholds.reader }) :=
    keeps_withReader fun h => ⟨h.1, Nat.le_refl _⟩
  simp only [clampReader]
  split
  · split
    · exact hbrought.trans (enterQuarantined_keeps sd _)
    · exact hbrought
  · exact .refl s

theorem clampSite_line {s : State} {v : Thresholds} (hsite : 1 ≤ v.site) (h : s.LineOk) :
    (clampSite (setCfg { s.cfg with thresholds := v } s)).LineOk := by
  obtain ⟨-, hover, -, hblocks⟩ := h
  refine ⟨Nat.min_le_right _ _, fun ho => ?_, hsite, hblocks⟩
  exact Nat.lt_min.2 ⟨hover ho, hsite⟩

theorem ownSetThresholds_keeps (margin reader site feedA feedB : Nat) (s : State) :
    Keeps s (ownSetThresholds margin reader site feedA feedB s).st := by
  refine orRefuse_keeps fun v hv => ?_
  have hset : Keeps s (requestWrite .config s) := requestWrite_keeps _ s
  have hclamp (u : State) : Keeps u (clampReader .b (clampReader .a u)) :=
    (clampReader_keeps .a u).trans (clampReader_keeps .b _)
  refine ⟨fun h => (hclamp _).store (hset.store h), fun h => (hclamp _).prices (hset.prices h),
    fun h => (hclamp _).map (hset.map h), fun h => ?_,
    fun h => (hclamp _).line (clampSite_line (thresholdsOf_site hv) h)⟩
  obtain ⟨ha, hb⟩ := h
  have ha' := clampReader_legal (sd := .a) (s := clampSite (setCfg { s.cfg with thresholds := v } s)) ha.1
  have hb' := clampReader_legal (sd := .b)
    (s := clampReader .a (clampSite (setCfg { s.cfg with thresholds := v } s)))
    (by rw [clampReader_reader_other (by decide)]; exact hb.1)
  rw [← clampReader_reader_other (sd := .b) (d := .a) (by decide)] at ha'
  have hcfg (sd : Side) (u : State) : (clampReader sd u).cfg = u.cfg := by simp
  rw [hcfg] at hb'
  rw [State.ReadersOk, okay, hcfg, hcfg]
  exact ⟨ha', hb'⟩

/-! ### Requests of the readers and tunnel frames (R124, R126, R136, R137) -/

theorem powerReader_keeps (sd : Side) (s : State) : Keeps s (powerReader sd s) :=
  keeps_withReader fun h => ⟨fun hcut => (by cases hcut), h.2⟩

theorem ownReaderAttach_keeps (reader : Nat) (s : State) : Keeps s (ownReaderAttach reader s).st := by
  refine orRefuse_keeps fun sd _ => ?_
  split
  · exact .refl s
  · exact powerReader_keeps sd s

theorem isolateReader_keeps (sd : Side) (s : State) : Keeps s (isolateReader sd s) := by
  unfold isolateReader
  split
  · exact enterOff_keeps sd _ s
  · exact enterOff_keeps sd _ s
  · next hoff =>
    refine keeps_withReader fun h => ⟨fun _ => h.1 ?_, h.2⟩
    rw [hoff]
    rfl
  · exact .refl s
  · exact .refl s

theorem ownReaderIsolate_keeps (reader : Nat) (s : State) : Keeps s (ownReaderIsolate reader s).st :=
  orRefuse_keeps fun sd _ => isolateReader_keeps sd s

theorem forwardDown_keeps (sd : Side) (payload : List Byte) (s : State) : Keeps s (forwardDown sd payload s).st := by
  unfold forwardDown
  split
  · exact .refl s
  · next hattached =>
    rw [ne_eq, not_not] at hattached
    split
    · exact .refl s
    · exact withDown_keeps (by rw [hattached]; rfl)

theorem ownTunnel_keeps (sd : Side) (payload : List Byte) (s : State) : Keeps s (ownTunnel sd payload s).st := by
  unfold ownTunnel
  split
  · exact .refl s
  · split
    · exact .refl s
    · exact .refl s
    · exact countDrop_keeps sd s
    · exact countViolation_keeps sd s
    · exact .refl s
    · exact forwardDown_keeps sd payload s

theorem ownFetch_keeps (sd : Side) (s : State) : Keeps s (ownFetch sd s).st := by
  simp only [ownFetch]
  split
  · exact .refl s
  · next hup =>
    refine keeps_withReader fun h => ⟨fun hcut => ?_, h.2⟩
    cases (h.1 hcut).1.symm.trans hup

/-! ### Reads (chapters 02, 04, 05, 07, 09) -/

theorem ownReadLive_keeps (side : Nat) (s : State) : Keeps s (ownReadLive side s).st := orRefuse_keeps fun _ _ => .refl s

theorem ownReadRoute_keeps (row : Nat) (s : State) : Keeps s (ownReadRoute row s).st := orRefuse_keeps fun _ _ => .refl s

theorem ownReadConfig_keeps (sect meter : Nat) (s : State) : Keeps s (ownReadConfig sect meter s).st :=
  orRefuse_keeps fun _ _ => .refl s

theorem ownReadJournal_keeps (index : Nat) (s : State) : Keeps s (ownReadJournal index s).st := by
  unfold ownReadJournal
  split
  · exact .refl s
  · exact orRefuse_keeps fun _ _ => .refl s

/-! ### Every request -/

/-- What the owner of a request does keeps the invariants. -/
theorem ownerOf_keeps {i : Instr} {owner : State → Answered} (h : ownerOf i = some owner) (s : State) :
    Keeps s (owner s).st := by
  cases i <;> cases h
  case poll => exact .refl s
  case clearEvents => exact ownClearEvents_keeps _ s
  case authorize => exact ownAuthorize_keeps _ _ _ _ _ _ s
  case suspend => exact ownSuspend_keeps _ s
  case resume => exact ownResume_keeps _ s
  case stop => exact ownStop_keeps _ s
  case clearSale => exact ownClearSale_keeps _ _ s
  case readSale => exact ownReadSale_keeps _ _ _ s
  case readLive => exact ownReadLive_keeps _ s
  case readPrices => exact .refl s
  case stagePrice => exact ownStagePrice_keeps _ _ _ s
  case commitPrices => exact ownCommitPrices_keeps _ _ s
  case replacePrice => exact ownReplacePrice_keeps _ _ _ _ s
  case discardStaged => exact ownDiscardStaged_keeps s
  case enterNight => exact ownEnterNight_keeps _ _ s
  case readIdent => exact .refl s
  case setAddress => exact ownSetAddress_keeps _ _ s
  case setLine => exact ownSetLine_keeps _ s
  case setHose => exact ownSetHose_keeps _ _ _ _ _ _ _ s
  case setMeter => exact ownSetMeter_keeps _ _ _ _ _ _ _ s
  case setScale => exact ownSetScale_keeps _ _ _ _ s
  case setTimers => exact ownSetTimers_keeps _ s
  case setThresholds => exact ownSetThresholds_keeps _ _ _ _ _ s
  case setRoute => exact ownSetRoute_keeps _ _ _ _ _ _ _ s
  case clearRoute => exact ownClearRoute_keeps _ s
  case readRoute => exact ownReadRoute_keeps _ s
  case setWake => exact ownSetWake_keeps _ s
  case armWake => exact ownArmWake_keeps s
  case openSide => exact ownOpenSide_keeps _ s
  case closeSide => exact ownCloseSide_keeps _ s
  case readerAttach => exact ownReaderAttach_keeps _ s
  case readerIsolate => exact ownReaderIsolate_keeps _ s
  case readConfig => exact ownReadConfig_keeps _ _ s
  case readJournal => exact ownReadJournal_keeps _ s
  case readTotals => exact .refl s
  case readCounters => exact .refl s
  case restart => exact ownRestart_keeps s
  case tunnel => exact ownTunnel_keeps _ _ s
  case fetch => exact ownFetch_keeps _ s

/-- A command that has an owner is a request of its kind and mode. -/
theorem exec_of_owner {i : Instr} {owner : State → Answered} (h : ownerOf i = some owner) :
    ∃ k m, i.request? = some (k, m) ∧ ∀ s, exec i s = request m k owner s := by
  cases i <;> cases h <;> exact ⟨_, _, rfl, fun _ => rfl⟩

end Sys2Proof.Machine
end

section

/-! ## The events keep the invariants, and so does every step -/

namespace Sys2Proof.Machine

open Sys2Proof

/-! ### The site line (R143, R144, R146, R148, R188) -/

theorem withReceiver_keeps (r : Receiver) (s : State) : Keeps s (withReceiver r s) := keeps_withSli_same rfl rfl

theorem takeInstr_keeps (i : Instr) (s : State) : Keeps s (takeInstr i s) := by
  unfold takeInstr
  split
  · next howner => exact takeRequest_keeps (ownerOf_keeps howner) _ _ s
  · exact .refl s

theorem sliRefuse_keeps (m : AddrMode) (port code : Nat) (r : Result) (s : State) : Keeps s (sliRefuse m port code r s) :=
  sendReply_keeps _ _ _ s

theorem takeFrame_keeps (m : AddrMode) (port : Nat) (payload : List Byte) (s : State) :
    Keeps s (takeFrame m port payload s) := by
  unfold takeFrame
  split
  · exact sliRefuse_keeps _ _ _ _ s
  · exact sliRefuse_keeps _ _ _ _ s
  · split
    · exact countModeReject_keeps s
    · split
      · exact takeInstr_keeps _ s
      · exact sliRefuse_keeps _ _ _ _ s

theorem acceptFrame_keeps (address port : Byte) (payload : List Byte) (s : State) :
    Keeps s (acceptFrame address port payload s) := by
  unfold acceptFrame
  split
  · exact .refl s
  · exact countModeReject_keeps s
  · exact takeFrame_keeps _ _ payload s

theorem goodFrame_keeps (address port : Byte) (payload : List Byte) (s : State) :
    Keeps s (goodFrame address port payload s) := by
  have haccept := acceptFrame_keeps address port payload s
  unfold goodFrame
  split
  · exact .refl s
  · split
    · exact haccept.trans (wake_keeps _ _)
    · exact haccept

/-- The overflow flag becomes set at the threshold, which is at least 1. -/
theorem setOverflow_keeps {s : State} (hfull : s.cfg.thresholds.site ≤ s.sli.errors) : Keeps s (setOverflow s) := by
  have hset : Keeps s (raise .linkDegraded (s.withSli { s.sli with overflow := true })) := by
    refine .trans ?_ (raise_keeps _ _)
    refine keeps_withSli ?_
    rintro ⟨herrors, -, hsite, -⟩
    exact ⟨herrors, fun _ => Nat.lt_of_lt_of_le hsite hfull⟩
  simp only [setOverflow]
  split
  · exact .refl s
  · split
    · exact hset.trans (withPsq_keeps _ _)
    · exact hset

theorem countError_keeps (s : State) : Keeps s (countError s) := by
  rcases countError_cases s with ⟨hlow, h⟩ | ⟨hfull, h⟩ <;> rw [h]
  · exact keeps_withSli fun _ => ⟨hlow, fun _ => Nat.succ_pos _⟩
  · refine .trans ?_ (setOverflow_keeps hfull)
    exact keeps_withSli_same rfl rfl

theorem countGood_keeps (s : State) : Keeps s (countGood s) := by
  refine keeps_withSli ?_
  rintro ⟨herrors, -⟩
  refine ⟨Nat.le_trans (Nat.sub_le _ _) herrors, fun hover => ?_⟩
  rw [Bool.and_eq_true, decide_eq_true_eq] at hover
  exact Nat.sub_pos_of_lt hover.2

theorem abandonFrame_keeps (s : State) : Keeps s (abandonFrame s) :=
  (withReceiver_keeps _ s).trans (countError_keeps _)

theorem frameStart_keeps (s : State) : Keeps s (frameStart s) := by
  simp only [frameStart]
  split
  · exact (withReceiver_keeps _ s).trans (wake_keeps _ _)
  · exact withReceiver_keeps _ s

theorem frameByte_keeps (got : List Byte) (s : State) : Keeps s (frameByte got s) := by
  unfold frameByte
  split
  · exact withReceiver_keeps _ s
  · exact abandonFrame_keeps s
  · split
    · exact ((withReceiver_keeps _ s).trans (countGood_keeps _)).trans (goodFrame_keeps _ _ _ _)
    · exact abandonFrame_keeps s

theorem receive_keeps (c : SiteChar) (s : State) : Keeps s (receive c s) := by
  unfold receive
  split
  · exact .refl s
  · split
    · exact frameStart_keeps s
    · exact withReceiver_keeps _ s
  · exact abandonFrame_keeps s
  · exact frameByte_keeps _ s
  · exact abandonFrame_keeps s

theorem siteChar_keeps (c : SiteChar) (s : State) : Keeps s (siteChar c s) := by
  have habandon : Keeps s (finish (abandonReply s)) := (abandonReply_keeps s).trans (finish_keeps _)
  unfold siteChar
  split
  · exact .refl s
  · exact receive_keeps c s
  · exact habandon.trans (receive_keeps c _)
  · exact habandon.trans (receive_keeps c _)

theorem feed_keeps (l : List Byte) (s : State) : Keeps s (feed l s) := by
  induction l generalizing s with
  | nil => exact .refl s
  | cons b l ih => exact ((siteChar_keeps _ s).trans (finish_keeps _)).trans (ih _)

theorem quiet_keeps (s : State) : Keeps s (quiet s) := by
  unfold quiet
  split
  · split
    · exact .refl s
    · exact withReceiver_keeps _ s
  · exact .refl s

theorem gapInFrame_keeps (s : State) : Keeps s (gapInFrame s) := by
  unfold gapInFrame
  split
  · split
    · exact .refl s
    · exact abandonFrame_keeps s
  · exact .refl s

theorem replySend_keeps (s : State) : Keeps s (replySend s) := by
  unfold replySend
  split
  · exact keeps_withSli_same rfl rfl
  · exact .refl s

theorem replySent_keeps (s : State) : Keeps s (replySent s) := by
  unfold replySent
  split
  · refine .trans ?_ (replyEnded_keeps _)
    exact keeps_withSli_same rfl rfl
  · exact keeps_withSli_same rfl rfl
  · exact .refl s

theorem totalsSecond_keeps (s : State) : Keeps s (totalsSecond s) := by
  unfold totalsSecond
  split
  · exact keeps_withSli_same rfl rfl
  · exact .refl s

/-! ### The local bus and the readers (R100 to R106, R134, R135, R138) -/

theorem frameSent_keeps (s : State) : Keeps s (frameSent s) := keeps_of_frame (by simp)

theorem judge_keeps (sl : Slot) (ans : Answer) (s : State) : Keeps s (judge sl ans s) := by
  unfold judge
  split
  · refine .trans ?_ (readyCheck_keeps _)
    refine .trans ?_ (takeAnswer_keeps _ _ _)
    exact keeps_of_frame (by simp)
  · exact .refl s

theorem answerEnds_keeps (ans : LocalAnswer) (s : State) : Keeps s (answerEnds ans s) := by
  unfold answerEnds
  split
  · split
    · exact (judge_keeps _ _ s).trans (endSlot_keeps _)
    · exact .refl s
  · exact .refl s

theorem noAnswer_keeps (s : State) : Keeps s (noAnswer s) := by
  unfold noAnswer
  split
  · split
    · refine .trans ?_ (endSlot_keeps _)
      exact (expireAt_keeps _ s).trans (judge_keeps _ _ _)
    · exact .refl s
  · exact .refl s

theorem characterGap_keeps (s : State) : Keeps s (characterGap s) := by
  unfold characterGap
  split
  · split
    · exact judge_keeps _ _ s
    · exact .refl s
  · exact .refl s

theorem slotExpires_keeps (s : State) : Keeps s (slotExpires s) := by
  unfold slotExpires
  split
  · refine .trans ?_ (endSlot_keeps _)
    exact (expireAt_keeps _ s).trans (judge_keeps _ _ _)
  · exact .refl s

theorem withDisplayModule_keeps (m : DisplayModule) (r : ModuleRec) (s : State) :
    Keeps s (s.withDisplayModule m r) := keeps_of_frame (by simp)

theorem lossExpires_keeps (m : DisplayModule) (s : State) : Keeps s (lossExpires m s) := by
  unfold lossExpires
  split
  · next d _ _ =>
    have hlost : Keeps s ((s.expireAt d).withDisplayModule m .lost) :=
      (expireAt_keeps d s).trans (withDisplayModule_keeps m _ _)
    unfold reportLoss
    split
    · exact hlost.trans (takeLoss_keeps _ _)
    · exact hlost
  · exact .refl s

theorem probeExpires_keeps (sd : Side) (s : State) : Keeps s (probeExpires sd s) := by
  unfold probeExpires
  split
  · refine .trans ?_ (readyCheck_keeps _)
    exact (expireAt_keeps _ s).trans (enterOff_keeps sd _ _)
  · exact .refl s

theorem holdExpires_keeps (sd : Side) (s : State) : Keeps s (holdExpires sd s) := by
  unfold holdExpires
  split
  · next d _ =>
    refine (expireAt_keeps d s).trans ?_
    exact keeps_withReader fun h => ⟨h.1, h.2⟩
  · exact .refl s

theorem tamperActive_keeps (sd : Side) (s : State) : Keeps s (tamperActive sd s) := by
  unfold tamperActive
  split
  · exact .refl s
  · refine .trans ?_ (readyCheck_keeps _)
    exact (withLines_keeps _ s).trans (enterTampered_keeps sd _)

/-! ### The meter channels (R3 to R14) -/

theorem withChannel_keeps (m : Meter) (c : Channel) (s : State) : Keeps s (s.withChannel m c) := keeps_of_frame (by simp)

theorem freePulse_keeps (m : Meter) (s : State) : Keeps s (freePulse m s) := by
  rcases freePulse_cases m s with ⟨-, h⟩ | ⟨-, -, h⟩ | ⟨sd, -, -, h⟩ <;> rw [h]
  · exact withChannel_keeps m _ s
  · exact (withChannel_keeps m _ s).trans (raise_keeps _ _)
  · exact ((withChannel_keeps m _ s).trans (raise_keeps _ _)).trans (takeStray_keeps sd m _)

theorem pulse_keeps (d : Direction) (m : Meter) (s : State) : Keeps s (pulse d m s) := by
  unfold pulse
  split
  · exact keeps_of_frame (by simp)
  · exact freePulse_keeps m s

theorem phaseError_keeps (m : Meter) (s : State) : Keeps s (phaseError m s) := keeps_of_frame (by simp)

theorem endCycle_keeps (m : Meter) (s : State) : Keeps s (endCycle m s) := withChannel_keeps m _ s

theorem reversePulse_keeps (m : Meter) (s : State) : Keeps s (reversePulse m s) := by
  unfold reversePulse
  split
  · exact (endCycle_keeps m s).trans (pulse_keeps _ m _)
  · exact .refl s

theorem phaseYield_keeps (m : Meter) (s : State) : Keeps s (phaseYield m s) := by
  unfold phaseYield
  split
  · exact (endCycle_keeps m s).trans (phaseError_keeps m _)
  · exact .refl s

theorem withDecoder_keeps (m : Meter) (reference : LineState) (pos : Int) (s : State) :
    Keeps s (withDecoder m reference pos s) := withChannel_keeps m _ s

theorem observeQuad_keeps (m : Meter) (reference seen : LineState) (s : State) :
    Keeps s (observeQuad m reference seen s) := by
  have hdecoder (pos : Int) : Keeps s (withDecoder m seen pos s) := withDecoder_keeps m seen pos s
  simp only [observeQuad]
  split
  · exact hdecoder _
  · split
    · exact (hdecoder 0).trans (pulse_keeps _ m _)
    · exact hdecoder _
  · split
    · exact (hdecoder 0).trans (pulse_keeps _ m _)
    · exact hdecoder _
  · exact (hdecoder 0).trans (phaseError_keeps m _)

theorem observeSingle_keeps (m : Meter) (reference seen : LineState) (s : State) :
    Keeps s (observeSingle m reference seen s) := by
  simp only [observeSingle]
  split
  · exact (withDecoder_keeps m seen 0 s).trans (pulse_keeps _ m _)
  · exact withDecoder_keeps m seen 0 s

theorem observe_keeps (m : Meter) (seen : LineState) (s : State) : Keeps s (observe m seen s) := by
  unfold observe
  split
  · exact withDecoder_keeps m seen 0 s
  · split
    · exact observeQuad_keeps m _ seen s
    · exact observeSingle_keeps m _ seen s

/-! ### The events of the sides (R37, R39, R42, R47, R50, R51, R55, R58, R64, R188) -/

theorem withLifted_keeps (sd : Side) (l : List Hose) (s : State) : Keeps s (s.withLifted sd l) := keeps_of_frame (by simp)

theorem sideLift_keeps (sd : Side) (h : Hose) (s : State) : Keeps s (sideLift sd h s) := by
  have hlift : Keeps s (testStart sd (followLifted sd (s.withLifted sd (s.lifted sd ++ [h])))) :=
    ((withLifted_keeps sd _ s).trans (followLifted_keeps sd _)).trans (testStart_keeps sd _)
  simp only [sideLift]
  split
  · exact hlift.trans (wake_keeps _ _)
  · exact hlift

theorem nozzleLift_keeps (h : Hose) (s : State) : Keeps s (nozzleLift h s) := by
  unfold nozzleLift
  split
  · exact .refl s
  · dsimp only
    split
    · exact (withLines_keeps _ s).trans (sideLift_keeps _ h _)
    · exact withLines_keeps _ s

theorem hangActive_keeps (sd : Side) (s : State) : Keeps s (hangActive sd s) := keeps_of_frame (by simp)

theorem sideHang_keeps (sd : Side) (h : Hose) (s : State) : Keeps s (sideHang sd h s) := by
  have hleft : Keeps s (s.withLifted sd ((s.lifted sd).filter (· ≠ h))) := withLifted_keeps sd _ s
  simp only [sideHang]
  split
  · exact hleft.trans (hangActive_keeps sd _)
  · exact (hleft.trans (followLifted_keeps sd _)).trans (testStart_keeps sd _)

theorem nozzleHang_keeps (h : Hose) (s : State) : Keeps s (nozzleHang h s) := by
  unfold nozzleHang
  split
  · exact .refl s
  · dsimp only
    split
    · exact (withLines_keeps _ s).trans (sideHang_keeps _ h _)
    · exact withLines_keeps _ s

theorem stopSale_keeps (sd : Side) (r : EndReason) (m : Option Meter) (s : State) : Keeps s (stopSale sd r m s) :=
  keeps_of_frame (by simp)

theorem authExpires_keeps (sd : Side) (s : State) : Keeps s (authExpires sd s) := by
  unfold authExpires
  split
  · split
    · refine .trans ?_ (enterOpen_keeps sd _)
      exact (expireAt_keeps _ s).trans (raise_keeps _ _)
    · exact .refl s
  · exact .refl s

theorem zeroExpires_keeps (sd : Side) (s : State) : Keeps s (zeroExpires sd s) := by
  unfold zeroExpires
  split
  · dsimp only
    split
    · exact (expireAt_keeps _ s).trans (actOnQuery_keeps sd _ _)
    · exact (expireAt_keeps _ s).trans (stopSale_keeps sd _ _ _)
  · exact .refl s

theorem noFlowExpires_keeps (sd : Side) (s : State) : Keeps s (noFlowExpires sd s) := by
  unfold noFlowExpires
  split
  · exact (expireAt_keeps _ s).trans (stopSale_keeps sd _ _ _)
  · exact (expireAt_keeps _ s).trans (stopSale_keeps sd _ _ _)
  · exact .refl s

theorem suspendExpires_keeps (sd : Side) (s : State) : Keeps s (suspendExpires sd s) := by
  unfold suspendExpires
  split
  · exact (expireAt_keeps _ s).trans (stopSale_keeps sd _ _ _)
  · exact .refl s

theorem settleExpires_keeps (sd : Side) (s : State) : Keeps s (settleExpires sd s) := by
  unfold settleExpires
  split
  · split
    · exact (expireAt_keeps _ s).trans (completeSale_keeps sd _)
    · exact .refl s
  · exact .refl s

theorem railFault_keeps (sd : Side) (s : State) : Keeps s (railFault sd s) :=
  (stopSale_keeps sd _ _ s).trans (renewBlocked_keeps sd _)

theorem railDown_keeps (s : State) : Keeps s (railDown s) := by
  unfold railDown
  split
  · exact ((withLines_keeps _ s).trans (railFault_keeps .a _)).trans (railFault_keeps .b _)
  · exact .refl s

theorem railUp_keeps (s : State) : Keeps s (railUp s) := by
  unfold railUp
  split
  · exact .refl s
  · exact ((withLines_keeps _ s).trans (testStart_keeps .a _)).trans (testStart_keeps .b _)

/-! ### Every command -/

theorem warningRaised_keeps (s : State) : Keeps s (warningRaised s) := by
  unfold warningRaised
  split
  · exact .refl s
  · exact powerWarning_keeps s

theorem warningDropped_keeps (s : State) : Keeps s (warningDropped s) := by
  unfold warningDropped
  split
  · exact warningReleased_keeps s
  · exact .refl s

/-- Every next state that an outcome names keeps the invariants. -/
def OutcomeKeeps (s : State) (o : Host.Outcome State Fault Refusal) : Prop := ∀ t, o = .next t → Keeps s t

theorem event_keeps {f : State → State} {s : State} (h : Keeps s (f s)) : OutcomeKeeps s (event f s) := by
  rintro t ⟨⟩
  split
  · exact h.trans (finish_keeps _)
  · exact .refl s

theorem lineEvent_keeps {lines : Lines → Lines} {f : State → State} {s : State} (h : Keeps s (f s)) :
    OutcomeKeeps s (lineEvent lines f s) := by
  rintro t ⟨⟩
  split
  · exact h.trans (finish_keeps _)
  · exact withLines_keeps _ s

theorem execSupplyLost_keeps (s : State) : OutcomeKeeps s (execSupplyLost s) := by
  rintro t ⟨⟩
  split
  · exact loseSupply_keeps s
  · exact .refl s

theorem execPowerOn_keeps (s : State) : OutcomeKeeps s (execPowerOn s) := by
  rintro t ⟨⟩
  refine .trans ?_ (coldStart_keeps _)
  split
  · exact loseSupply_keeps s
  · exact .refl s

theorem request_keeps {owner : State → Answered} (hown : ∀ s, Keeps s (owner s).st) (m : AddrMode) (k : ReqKind)
    (s : State) : OutcomeKeeps s (request m k owner s) :=
  event_keeps (arriveRequest_keeps hown m k s)

/-- A command without an owner is an event of the part. -/
theorem execEvent_keeps {i : Instr} (h : ownerOf i = none) (s : State) : OutcomeKeeps s (exec i s) := by
  cases i <;> cases h
  case siteCharacter c => exact event_keeps (siteChar_keeps c s)
  case lineQuiet => exact event_keeps (quiet_keeps s)
  case frameGap => exact event_keeps (gapInFrame_keeps s)
  case siteFrame address port payload check => exact event_keeps (feed_keeps _ s)
  case replySend => exact event_keeps (replySend_keeps s)
  case replySent => exact event_keeps (replySent_keeps s)
  case totalsPart2 => exact event_keeps (totalsSecond_keeps s)
  case localFrameSent => exact event_keeps (frameSent_keeps s)
  case localAnswer ans => exact event_keeps (answerEnds_keeps ans s)
  case localNoAnswer => exact event_keeps (noAnswer_keeps s)
  case localCharacterGap => exact event_keeps (characterGap_keeps s)
  case slotLimit => exact event_keeps (slotExpires_keeps s)
  case lossTimer m => exact event_keeps (lossExpires_keeps m s)
  case probeTimer sd => exact event_keeps (probeExpires_keeps sd s)
  case holdTimer sd => exact event_keeps (holdExpires_keeps sd s)
  case tamperActive sd => exact lineEvent_keeps (tamperActive_keeps sd s)
  case tamperInactive sd => exact lineEvent_keeps (withLines_keeps _ s)
  case forwardPulse m =>
    have hpulse : Keeps s (pulse .forward m (endCycle m s)) := (endCycle_keeps m s).trans (pulse_keeps .forward m _)
    exact event_keeps (f := fun s => pulse .forward m (endCycle m s)) hpulse
  case reversePulse m => exact event_keeps (reversePulse_keeps m s)
  case phaseError m => exact event_keeps (phaseYield_keeps m s)
  case nozzleLift h => exact lineEvent_keeps (nozzleLift_keeps h s)
  case nozzleHang h => exact lineEvent_keeps (nozzleHang_keeps h s)
  case authTimer sd => exact event_keeps (authExpires_keeps sd s)
  case zeroTimer sd => exact event_keeps (zeroExpires_keeps sd s)
  case noFlow sd => exact event_keeps (noFlowExpires_keeps sd s)
  case suspendTimeout sd => exact event_keeps (suspendExpires_keeps sd s)
  case settleTimer sd => exact event_keeps (settleExpires_keeps sd s)
  case driveRailDown => exact lineEvent_keeps (railDown_keeps s)
  case driveRailUp => exact lineEvent_keeps (railUp_keeps s)
  case powerWarning => exact lineEvent_keeps (warningRaised_keeps s)
  case powerWarningRelease => exact lineEvent_keeps (warningDropped_keeps s)
  case powerOn => exact execPowerOn_keeps s
  case supplyLost => exact execSupplyLost_keeps s
  case readAttempt crcMatches => exact event_keeps (readAttempt_keeps crcMatches s)
  case supplyStep => exact event_keeps (supplyStep_keeps s)
  case displayTestEnd => exact event_keeps (displayTestEnd_keeps s)
  case displaysEnd => exact event_keeps (displaysEnd_keeps s)
  case waitTimer => exact event_keeps (waitTimer_keeps s)
  case writeComplete readBackEqual => exact event_keeps (writeComplete_keeps readBackEqual s)
  case nightNozzleWake => exact event_keeps (nightNozzleWake_keeps s)
  case wakeTimer => exact event_keeps (wakeExpired_keeps s)
  case confirmTimer => exact event_keeps (confirmExpired_keeps s)
  case pulserObservation m lines => exact event_keeps (observe_keeps m lines s)

theorem exec_keeps (i : Instr) (s : State) : OutcomeKeeps s (exec i s) := by
  cases h : ownerOf i with
  | none => exact execEvent_keeps h s
  | some owner =>
    obtain ⟨k, m, -, hexec⟩ := exec_of_owner h
    rw [hexec]
    exact request_keeps (ownerOf_keeps h) m k s

theorem step_keeps {s t : State} (h : step s = .next t) : Keeps s t := by
  rcases step_cases s with ⟨-, hstep⟩ | ⟨c, rest, -, hstep⟩ <;> rw [hstep] at h
  · cases h
    exact ⟨id, id, id, id, id⟩
  · have hqueue : Keeps s { s with pending := rest } := ⟨id, id, id, id, id⟩
    exact hqueue.trans (exec_keeps c _ t h)

/-- Settles O6: `step_keeps` for the write queue and the failure counts. -/
theorem stepKeepsTheQueueLegal : Obligations.StepKeepsTheQueueLegal :=
  fun _ _ hs h => (step_keeps h).store hs

/-- Settles O7: `step_keeps` for the prices in force, retained, and being written. -/
theorem stepKeepsPricesLegal : Obligations.StepKeepsPricesLegal :=
  fun _ _ hs h => (step_keeps h).prices hs

/-- Settles O8: `step_keeps` for the hose map in force, retained, and being written. -/
theorem stepKeepsTheHoseMapLegal : Obligations.StepKeepsTheHoseMapLegal :=
  fun _ _ hs h => (step_keeps h).map hs

/-- Settles O9: `step_keeps` for the readers' queues and error counters. -/
theorem stepKeepsReadersLegal : Obligations.StepKeepsReadersLegal :=
  fun _ _ hs h => (step_keeps h).readers hs

/-- Settles O10: `step_keeps` for the site error counter and its flag. -/
theorem stepKeepsTheLineCounterLegal : Obligations.StepKeepsTheLineCounterLegal :=
  fun _ _ hs h => (step_keeps h).line hs

end Sys2Proof.Machine
end

section

/-! ## The outputs (R63, R118, R170, R182) -/

namespace Sys2Proof.Machine

open Sys2Proof

/-- With its drive disabled the part drives nothing. -/
theorem drivesNothing_of_disabled {s : State} (h : driveEnabled s = false) : s.DrivesNothing :=
  ⟨fun sd => by simp [motorOut, h], fun x => by simp [fastValveOut, h], fun x => by simp [slowValveOut, h]⟩

theorem driveEnabled_eq_false {s : State}
    (h : s.lines.railGood = false ∨ s.lines.warning = true ∨ s.psq.mode ≠ .run) : driveEnabled s = false := by
  rcases h with h | h | h <;> simp [driveEnabled, State.inRun, h]

theorem driveEnabled_eq_true {s : State} (hpow : s.powered = true) (hrail : s.lines.railGood = true)
    (hwarn : s.lines.warning = false) (hrun : s.psq.mode = .run) (hrestart : s.psq.restart ≠ .draining) :
    driveEnabled s = true := by
  simp [driveEnabled, State.inRun, State.restartDraining, hpow, hrail, hwarn, hrun, hrestart]

/-- A side without a sale demands no output. -/
theorem demands_of_no_sale {st : SideState} (h : st.sale? = none) (x : Hose) :
    st.motorDemand = false ∧ st.fastDemand x = false ∧ st.slowDemand x = false := by
  cases st with
  | sale p ctx => cases h
  | _ => exact ⟨rfl, rfl, rfl⟩

/-- With the sale on one side alone the valves follow that side. -/
theorem valves_of_sale_on_one_side {s : State} {sd : Side} (hon : driveEnabled s = true)
    (hother : (s.sideState sd.other).sale? = none) (x : Hose) :
    fastValveOut s x = (s.sideState sd).fastDemand x ∧ slowValveOut s x = (s.sideState sd).slowDemand x := by
  obtain ⟨-, hfast, hslow⟩ := demands_of_no_sale hother x
  cases sd <;> simp only [Side.other] at hfast hslow <;> simp [fastValveOut, slowValveOut, hon, hfast, hslow]

theorem supplyEnabled_eq_false {s : State} (h : s.psq.mode = .night ∨ s.psq.mode = .failsafe ∨
    s.psq.restart = .draining ∨ s.powered = false) : supplyEnabled s = false := by
  rcases h with h | h | h | h <;>
    simp [supplyEnabled, State.inRun, State.poweringUp, Mode.isPoweringUp, State.restartDraining, h]

theorem supplyEnabled_eq_true {s : State} (hpow : s.powered = true)
    (hmode : s.psq.mode = .run ∨ ∃ st, s.psq.mode = .poweringUp st) (hrestart : s.psq.restart ≠ .draining) :
    supplyEnabled s = true := by
  rcases hmode with h | ⟨st, h⟩ <;>
    simp [supplyEnabled, State.inRun, State.poweringUp, Mode.isPoweringUp, State.restartDraining, hpow, h, hrestart]

theorem supplyDemand_of_cut {st : ReaderState} (h : st.cut = true) : st.supplyDemand = false := by
  cases st with
  | probing => cases h
  | attached => cases h
  | _ => rfl

/-- Settles O12: the outputs by whether the drive and the supplies are enabled, and by the demands of the states. -/
theorem outputsFollowStateRailAndWarning : Obligations.OutputsFollowStateRailAndWarning := by
  refine ⟨fun s h => drivesNothing_of_disabled (driveEnabled_eq_false h), ?sales, ?off, ?on⟩
  case sales =>
    intro s sd p ctx hpow hrail hwarn hrun hrestart hsale hother
    have hdrive := driveEnabled_eq_true hpow hrail hwarn hrun hrestart
    have hvalves := valves_of_sale_on_one_side hdrive hother
    have hmotor := (demands_of_no_sale hother .h1).1
    simp only [hvalves, motorOut, hdrive, hsale, hmotor, Bool.true_and]
    cases p <;> simp [SideState.motorDemand, SideState.fastDemand, SideState.slowDemand]
  case off =>
    intro s h
    simp [displaySupplyOut, readerSupplyOut, supplyEnabled_eq_false h]
  case on =>
    intro s hpow hmode hrestart
    have hsupply := supplyEnabled_eq_true hpow hmode hrestart
    refine ⟨by simp [displaySupplyOut, hsupply], fun sd => ⟨?_, fun hcut => ?_⟩⟩
    · rintro (h | h) <;> simp [readerSupplyOut, hsupply, h, ReaderState.supplyDemand]
    · simp [readerSupplyOut, supplyDemand_of_cut hcut]

end Sys2Proof.Machine
end

section

/-! ## The figures and their test (R22 to R27) -/

namespace Sys2Proof.Machine

open Sys2Proof

theorem meterVolume_bounds (c : MeterConfig) (h : Nat) (hk : 1 ≤ c.k) (htrim : -10000 ≤ c.trim) :
    (meterVolume c h : Int) * (c.k * 10000) ≤ h * 1000 * (10000 + c.trim) ∧
    h * 1000 * (10000 + c.trim) < ((meterVolume c h : Int) + 1) * (c.k * 10000) := by
  obtain ⟨t, ht⟩ := Int.eq_ofNat_of_zero_le (show 0 ≤ 10000 + c.trim by omega)
  have hpos : 0 < c.k * 10000 := by omega
  rw [meterVolume, ht, Int.toNat_natCast]
  have hlow := Nat.div_mul_le_self (h * 1000 * t) (c.k * 10000)
  have hhigh := Nat.lt_mul_of_div_lt (Nat.lt_succ_self (h * 1000 * t / (c.k * 10000))) hpos
  exact ⟨by exact_mod_cast hlow, by exact_mod_cast hhigh⟩

theorem meterVolume_mono (c : MeterConfig) {h1 h2 : Nat} (h : h1 ≤ h2) : meterVolume c h1 ≤ meterVolume c h2 :=
  Nat.div_le_div_right (Nat.mul_le_mul_right _ (Nat.mul_le_mul_right _ h))

theorem displayUnits_mono (sc : Scale) {u v : Nat} (h : u ≤ v) : displayUnits sc u ≤ displayUnits sc v := by
  unfold displayUnits
  split
  · exact Nat.div_le_div_right h
  · exact h

theorem amountOf_mono (sc : Scale) (price : Nat) {u v : Nat} (h : u ≤ v) :
    amountOf sc u price ≤ amountOf sc v price := by
  have hq : u * price ≤ v * price := Nat.mul_le_mul_right _ h
  cases hr : sc.rounding with
  | down =>
    rw [amountOf_down hr, amountOf_down hr]
    exact Nat.div_le_div_right hq
  | halfUp =>
    rw [amountOf_halfUp hr, amountOf_halfUp hr]
    exact Nat.div_le_div_right (Nat.add_le_add_right hq _)

/-- The figures of stages 3 and 4 rise with the hose volume. -/
theorem pricedFigures_mono (f : Figures) (price : Nat) {u1 u2 v1 v2 : Nat} (h1 : u1 ≤ v1) (h2 : u2 ≤ v2) :
    (pricedFigures f price u1 u2).volume ≤ (pricedFigures f price v1 v2).volume ∧
    (pricedFigures f price u1 u2).amount ≤ (pricedFigures f price v1 v2).amount ∧
    ((pricedFigures f price u1 u2).saturated = true → (pricedFigures f price v1 v2).saturated = true) := by
  have hunits := displayUnits_mono f.scale (Nat.add_le_add h1 h2)
  have hvolume : min (displayUnits f.scale (u1 + u2)) Config.displayMax ≤
      min (displayUnits f.scale (v1 + v2)) Config.displayMax := by omega
  have hmoney := amountOf_mono f.scale price hvolume
  refine ⟨hvolume, min_le_min_right _ hmoney, fun hsat => ?_⟩
  simp only [pricedFigures, Bool.or_eq_true, decide_eq_true_eq, or_assoc] at hsat ⊢
  exact hsat.imp_right (Or.imp (fun h => Nat.lt_of_lt_of_le h hunits) fun h => Nat.lt_of_lt_of_le h hmoney)

theorem reached_iff (figure : Nat) (t : Option Nat) : reached figure t = true ↔ ∃ n, t = some n ∧ n ≤ figure := by
  cases t <;> simp [reached]

theorem classifyFigures_eq_saturated_iff (l : Limit) (f : Figures) :
    classifyFigures l f = .saturated ↔ f.saturated = true := by
  unfold classifyFigures
  split
  · simp [*]
  · split
    · simp [*]
    · split <;> simp [*]

theorem classifyFigures_eq_limit_iff (l : Limit) (f : Figures) : classifyFigures l f = .limit ↔
    f.saturated = false ∧ ∃ n, f.stopAt = some n ∧ n ≤ comparedFigure f l := by
  rw [← reached_iff]
  unfold classifyFigures
  split
  · simp [*]
  · split
    · simp [*]
    · split <;> simp [*]

theorem classifyFigures_eq_slow_iff (l : Limit) (f : Figures) : classifyFigures l f = .slow ↔
    f.saturated = false ∧ (∀ n, f.stopAt = some n → comparedFigure f l < n) ∧
      ∃ n, f.slowAt = some n ∧ n ≤ comparedFigure f l := by
  have hstop : (∀ n, f.stopAt = some n → comparedFigure f l < n) ↔ reached (comparedFigure f l) f.stopAt = false := by
    cases f.stopAt <;> simp [reached]
  rw [← reached_iff, hstop]
  unfold classifyFigures
  split
  · simp [*]
  · split
    · simp [*]
    · split <;> simp [*]

theorem comparedFigure_mono {f g : Figures} (hvolume : f.volume ≤ g.volume) (hamount : f.amount ≤ g.amount)
    (l : Limit) : comparedFigure f l ≤ comparedFigure g l := by
  cases l
  · exact Nat.le_refl _
  · exact hamount
  · exact hvolume

/-- A threshold that has been reached stays reached as the figures rise. -/
theorem classify_of_reached {l : Limit} {g : Figures} {n : Nat} (hstop : g.stopAt = some n)
    (hn : n ≤ comparedFigure g l) : classifyFigures l g = .limit ∨ classifyFigures l g = .saturated := by
  cases hsat : g.saturated with
  | false => exact .inl ((classifyFigures_eq_limit_iff l g).2 ⟨hsat, n, hstop, hn⟩)
  | true => exact .inr ((classifyFigures_eq_saturated_iff l g).2 hsat)

theorem classify_ne_clear_of_reached {l : Limit} {g : Figures} {n : Nat} (hslow : g.slowAt = some n)
    (hn : n ≤ comparedFigure g l) : classifyFigures l g ≠ .clear := by
  have : reached (comparedFigure g l) g.slowAt = true := (reached_iff _ _).2 ⟨n, hslow, hn⟩
  rw [classifyFigures, this, if_pos rfl]
  split
  · simp
  · split <;> simp

/-- Settles O13: the stages are divisions and holds of sums and products, and the test compares figures with fixed
thresholds. -/
theorem figuresAndResultsOnlyRise : Obligations.FiguresAndResultsOnlyRise := by
  refine ⟨meterVolume_bounds, fun c h1 h2 => meterVolume_mono c, ?values, fun f price u1 u2 v1 v2 =>
    pricedFigures_mono f price, classifyFigures_eq_saturated_iff, classifyFigures_eq_limit_iff,
    classifyFigures_eq_slow_iff, ?rises⟩
  case values =>
    intro f price v1 v2
    refine ⟨rfl, rfl, rfl, rfl, rfl, ?_, rfl, rfl, rfl, rfl⟩
    simp only [pricedFigures, Bool.or_eq_true, decide_eq_true_iff, or_assoc]
    exact Iff.rfl
  case rises =>
    intro l f g hvolume hamount hsat hslow hstop
    have hrise := comparedFigure_mono hvolume hamount l
    refine ⟨fun h => ?_, fun h => ?_⟩
    · obtain ⟨-, n, hn, hle⟩ := (classifyFigures_eq_limit_iff l f).1 h
      exact classify_of_reached (hstop ▸ hn) (hle.trans hrise)
    · obtain ⟨-, -, n, hn, hle⟩ := (classifyFigures_eq_slow_iff l f).1 h
      exact classify_ne_clear_of_reached (hslow ▸ hn) (hle.trans hrise)

end Sys2Proof.Machine
end

section

/-! ## The write queue at work (R172 to R174, R177) -/

namespace Sys2Proof.Machine

open Sys2Proof

/-- Settles O15: `enqueueKind` by its cases, and `beginWrite` on a queue with a head. -/
theorem writesAreQueuedOnceAndBeginAtTheHead : Obligations.WritesAreQueuedOnceAndBeginAtTheHead := by
  refine ⟨fun k s => ⟨fun hk => ?queued, fun hk hplace => ?back, fun hk hmet hwarn => ?head⟩,
    fun k rest s hjob hload hqueue => ?begins⟩
  case queued => simp [requestWrite, enqueueKind, hk, State.withNvs]
  case back => simp [requestWrite, enqueueKind, hk, hplace, State.withNvs]
  case head =>
    subst hmet
    simp [requestWrite, enqueueKind, hk, hwarn, State.withNvs]
  case begins =>
    rw [finish_of_queue (by simp [hqueue])]
    cases k with
    | metrology =>
      cases hcurrent : s.nvs.current <;>
        simp [beginWrite, hjob, hload, hqueue, takeContent, writeTarget, nextSeq, hcurrent, writeTime, State.withNvs]
    | _ => simp [beginWrite, hjob, hload, hqueue, takeContent, writeTime, State.withNvs]

end Sys2Proof.Machine
end

section

/-! ## Requests outside RUN, and while a reply waits (R147, R149, R183) -/

namespace Sys2Proof.Machine

open Sys2Proof

/-- A command of the request kinds has an owner and goes the way of every request. -/
theorem exec_of_request {i : Instr} {k : ReqKind} {m : AddrMode} (h : i.request? = some (k, m)) :
    ∃ owner, ownerOf i = some owner ∧ ∀ s, exec i s = request m k owner s := by
  cases i <;> cases h <;> exact ⟨_, rfl, fun _ => rfl⟩

theorem admission_confirmWake (m : AddrMode) (k : ReqKind) (s : State) :
    admission k (confirmWake m s) = admission k s := by
  unfold confirmWake
  split <;> rfl

theorem confirmWake_of_not_run {s : State} (h : s.psq.mode ≠ .run) (m : AddrMode) : confirmWake m s = s := by
  simp [confirmWake, h]

/-- With no reply under way a request is taken at once. -/
theorem request_idle {s : State} (hpow : s.powered = true) (hidle : s.sli.tx = .idle) (m : AddrMode) (k : ReqKind)
    (owner : State → Answered) : request m k owner s = .next (finish (takeRequest m k owner s)) := by
  simp [request, event, hpow, arriveRequest, hidle]

/-- What follows on the admission of a unicast request. -/
def State.afterAdmission (s : State) (k : ReqKind) (owner : State → Answered) : Admission → State
  | .serve => serveRequest .unicast k owner (confirmWake .unicast s)
  | .answer r => serveRequest .unicast k (refuse r) (confirmWake .unicast s)
  | .silent => confirmWake .unicast s

/-- A unicast request with no reply under way, by its admission. -/
theorem request_unicast_idle {s : State} (hpow : s.powered = true) (hidle : s.sli.tx = .idle) (k : ReqKind)
    (owner : State → Answered) :
    request .unicast k owner s = .next (finish (s.afterAdmission k owner (admission k s))) := by
  have hallows : k.allows .unicast = true := rfl
  rw [request_idle hpow hidle, takeRequest, if_pos hallows, admitRequest]
  simp only [admission_confirmWake]
  cases admission k s <;> rfl

/-- An answer of any result and data that changes nothing of its owner's. -/
theorem serve_answered {s : State} (hmode : s.psq.mode ≠ .night) (hsettled : s.Settled) {k : ReqKind}
    {owner : State → Answered} {r : Result} {d : List Byte}
    (hown : owner (confirmWake .unicast s) = ⟨confirmWake .unicast s, r, d, none⟩) :
    finish (serveRequest .unicast k owner (confirmWake .unicast s)) = s.answeredWith k r d := by
  have hmode' : (confirmWake .unicast s).psq.mode ≠ .night := by rwa [confirmWake_mode]
  rw [serveRequest, hown, replyTo_unicast hmode']
  exact finish_eq_of_eq (settled_confirmWake hsettled .unicast) rfl rfl rfl

theorem request_answered {s : State} (hs : s.Answers) {k : ReqKind} {owner : State → Answered} {r : Result}
    {d : List Byte} (hadmit : admission k s = .serve)
    (hown : owner (confirmWake .unicast s) = ⟨confirmWake .unicast s, r, d, none⟩) :
    request .unicast k owner s = .next (s.answeredWith k r d) := by
  obtain ⟨hpow, hmode, hidle, hsettled⟩ := hs
  rw [request_unicast_idle hpow hidle, hadmit]
  exact congrArg _ (serve_answered hmode hsettled hown)

theorem request_not_served {s : State} (hs : s.Answers) {k : ReqKind} {r : Result}
    (hadmit : admission k s = .answer r) (owner : State → Answered) :
    request .unicast k owner s = .next (s.answeredWith k r []) := by
  obtain ⟨hpow, hmode, hidle, hsettled⟩ := hs
  rw [request_unicast_idle hpow hidle, hadmit]
  exact congrArg _ (serve_answered hmode hsettled rfl)

theorem admission_of_restart {s : State} (h : s.restartDraining = true) (k : ReqKind) :
    admission k s = admitPoweringUp k := if_pos h

theorem admission_of_run {s : State} (h : s.psq.mode = .run) (hrestart : s.psq.restart ≠ .draining) (k : ReqKind) :
    admission k s = .serve := by
  simp [admission, State.restartDraining, h, hrestart]

theorem admission_of_night {s : State} (h : s.psq.mode = .night) (hrestart : s.restartDraining = false) (k : ReqKind) :
    admission k s = .silent := by
  simp [admission, h, hrestart]

theorem admission_of_failsafe {s : State} (h : s.psq.mode = .failsafe) (hrestart : s.restartDraining = false)
    (k : ReqKind) : admission k s = admitFailsafe k := by
  simp [admission, h, hrestart]

theorem admission_of_poweringUp {s : State} (h : s.poweringUp = true) (k : ReqKind) :
    admission k s = admitPoweringUp k := by
  unfold admission
  split
  · rfl
  · cases hmode : s.psq.mode <;> simp_all [State.poweringUp, Mode.isPoweringUp]

theorem admitPoweringUp_busy {k : ReqKind} (hk : k ∉ [ReqKind.poll, .readIdent, .readCounters]) :
    admitPoweringUp k = .answer .busy := by
  unfold admitPoweringUp
  split
  · simp at hk
  · simp at hk
  · simp at hk
  · rfl

/-- The requests that FAILSAFE refuses with STATE. -/
theorem admitFailsafe_state {k : ReqKind} (hk : k ∈ [ReqKind.clearEvents, .authorize, .suspend, .resume, .clearSale,
    .stagePrice, .commitPrices, .replacePrice, .discardStaged, .enterNight, .setAddress, .setLine, .setHose, .setMeter,
    .setScale, .setTimers, .setThresholds, .setRoute, .clearRoute, .setWake, .armWake, .openSide, .closeSide,
    .readerAttach, .readerIsolate, .tunnel .a, .tunnel .b, .fetch .a, .fetch .b]) :
    admitFailsafe k = .answer .state := by
  fin_cases hk <;> rfl

/-- Settles O16: the columns of the admission table, and the mode check. -/
theorem requestsOutsideRunAndOutsideTheirModes : Obligations.RequestsOutsideRunAndOutsideTheirModes := by
  refine ⟨fun i k s hreq hlive hidle => ?unicast, fun i k m s hreq hm hlive hidle => ?badMode⟩
  case unicast =>
    obtain ⟨owner, -, hexec⟩ := exec_of_request hreq
    obtain ⟨hpow, hsettled⟩ := hlive
    simp only [hexec]
    refine ⟨fun hmode hk => ?busy, fun hnight hrestart => ?night, fun hfail hrestart => ?failsafe⟩
    case busy =>
      have hanswers : s.Answers := by
        refine ⟨hpow, fun hnight => ?_, hidle, hsettled⟩
        rcases hmode with hup | ⟨-, hmode⟩
        · simp [State.poweringUp, Mode.isPoweringUp, hnight] at hup
        · exact hmode hnight
      refine request_not_served hanswers ?_ owner
      rw [← admitPoweringUp_busy hk]
      rcases hmode with hup | ⟨hdrain, -⟩
      · exact admission_of_poweringUp hup k
      · exact admission_of_restart hdrain k
    case night =>
      rw [request_unicast_idle hpow hidle, admission_of_night hnight hrestart]
      simp only [State.afterAdmission, confirmWake_of_not_run (by simp [hnight] : s.psq.mode ≠ .run), finish_eq_of_settled hsettled]
    case failsafe =>
      have hanswers : s.Answers := ⟨hpow, by simp [hfail], hidle, hsettled⟩
      have hwake : s.answeredWith k = s.withReply k := by
        funext r d
        rw [State.answeredWith, confirmWake_of_not_run (by simp [hfail])]
      rw [← hwake]
      have hadmit : admission k s = admitFailsafe k := admission_of_failsafe hfail hrestart k
      refine ⟨fun hk => request_not_served hanswers (hadmit.trans ?_) owner,
        fun hk => request_not_served hanswers (hadmit.trans ?_) owner⟩
      · exact admitFailsafe_state hk
      · rw [hk]
        rfl
  case badMode =>
    obtain ⟨owner, -, hexec⟩ := exec_of_request hreq
    obtain ⟨hpow, hsettled⟩ := hlive
    rw [hexec, request_idle hpow hidle, takeRequest, if_neg (by simp [hm])]
    exact congrArg _ (finish_eq_of_eq hsettled rfl rfl rfl)

/-! ### A reply under way -/

theorem syncLine_tx (s : State) : (syncLine s).sli.tx = s.sli.tx := by
  rcases syncLine_cases s with ⟨-, h⟩ | ⟨-, -, h⟩ | ⟨-, -, h⟩ <;> rw [h] <;> rfl

theorem quietAfterReply_tx (s : State) : (quietAfterReply s).sli.tx = s.sli.tx := by
  rcases quietAfterReply_cases s with ⟨-, h⟩ | ⟨-, -, h⟩ <;> rw [h]
  rfl

theorem powerOff_sli (sd : Side) (s : State) : (powerOff sd s).sli = s.sli := by
  unfold powerOff
  split
  · rfl
  · exact cutReader_silent_sli sd _ _ s

theorem powerOffReaders_sli (s : State) : (powerOffReaders s).sli = s.sli :=
  (powerOff_sli .b _).trans (powerOff_sli .a s)

theorem beginRestartDrain_sli (s : State) : (beginRestartDrain s).sli = s.sli := powerOffReaders_sli s

theorem replyEnded_tx (s : State) : (replyEnded s).sli.tx = s.sli.tx := by
  have hline : (quietAfterReply (syncLine s)).sli.tx = s.sli.tx := (quietAfterReply_tx _).trans (syncLine_tx s)
  unfold replyEnded
  dsimp only
  split
  · rw [beginRestartDrain_sli]
    split <;> exact hline
  all_goals split <;> exact hline

theorem abandonReply_tx {s : State} (h : ∀ r more, s.sli.tx ≠ .sending r more) : (abandonReply s).sli.tx = .idle := by
  unfold abandonReply
  split
  · assumption
  · next htx => exact absurd htx (h _ _)
  · exact replyEnded_tx _
  · exact replyEnded_tx _

theorem beginSequence_sli (cause : WakeCause) (fresh : Bool) (s : State) :
    (beginSequence cause fresh s).sli = s.sli.atStart fresh := by
  simp [beginSequence]

theorem enterNight_tx (r : NightRequest) (s : State) : (enterNight r s).sli.tx = s.sli.tx.dropped := by
  simp only [enterNight, State.withPsq_sli, quietAfterReply_tx, syncLine_tx, State.withSli_sli, stopDisplays_frame,
    powerOffReaders_sli]

theorem endDrain_tx_idle {s : State} (h : s.sli.tx = .idle) : (endDrain s).sli.tx = .idle := by
  rcases endDrain_cases s with ⟨-, e⟩ | ⟨r, -, -, -, e⟩ | ⟨-, -, e⟩ <;> rw [e]
  · rw [beginSequence_sli, Sli.atStart, h]
    rfl
  · rw [enterNight_tx, h]
    rfl
  · exact h

/-- The end of an event leaves the site line idle where it was. -/
theorem finish_tx_idle {s : State} (h : s.sli.tx = .idle) : (finish s).sli.tx = .idle := by
  have hwrite : (beginWrite s).sli.tx = .idle := by simpa using h
  rcases finish_cases s with ⟨-, e⟩ | ⟨-, e⟩ <;> rw [e]
  · exact hwrite
  · exact endDrain_tx_idle hwrite

/-- Settles O17: `arriveRequest` by what the site line sends. -/
theorem aRequestAbandonsTheWaitingReply : Obligations.ARequestAbandonsTheWaitingReply := by
  intro i k m s hreq hpow
  obtain ⟨owner, -, hexec⟩ := exec_of_request hreq
  simp only [hexec]
  refine ⟨fun hwaits => ?waiting, fun r more hsend hsettled => ?sending⟩
  case waiting =>
    have hidle : (finish (abandonReply s)).sli.tx = .idle := by
      refine finish_tx_idle (abandonReply_tx fun r more hsend => ?_)
      rcases hwaits with ⟨_, _, h⟩ | ⟨_, h⟩ <;> cases h.symm.trans hsend
    refine ⟨hidle, ?_⟩
    rw [request_idle (by simpa using hpow) hidle]
    rcases hwaits with ⟨_, _, h⟩ | ⟨_, h⟩ <;> simp [request, event, hpow, arriveRequest, h]
  case sending =>
    simp [request, event, hpow, arriveRequest, hsend, finish_eq_of_settled hsettled]

end Sys2Proof.Machine
end

section

/-! ## Requests that read (chapters 02, 04, 05, 08, 09) -/

namespace Sys2Proof.Machine

open Sys2Proof

/-- POLL, READ_IDENT and READ_COUNTERS are served in every mode but NIGHT (R183). -/
theorem admission_of_answers {s : State} (hs : s.Answers) {k : ReqKind} (hup : admitPoweringUp k = .serve)
    (hfail : admitFailsafe k = .serve) : admission k s = .serve := by
  obtain ⟨-, hnight, -, -⟩ := hs
  unfold admission
  split
  · exact hup
  · split
    · rfl
    · exact hup
    · next hmode => exact absurd hmode hnight
    · exact hfail

/-- A request that FAILSAFE serves is served where reads are (R183). -/
theorem admission_of_servesReads {s : State} (hs : s.ServesReads) {k : ReqKind} (hfail : admitFailsafe k = .serve) :
    admission k s = .serve := by
  obtain ⟨-, hmode, hrestart⟩ := hs
  rcases hmode with hrun | hfailsafe
  · exact admission_of_run hrun hrestart k
  · rw [admission_of_failsafe hfailsafe (by simp [State.restartDraining, hrestart]), hfail]

/-- An answer of what stands, where reads are served. -/
theorem read_answered {s : State} (hs : s.ServesReads) {k : ReqKind} (hfail : admitFailsafe k = .serve)
    {owner : State → Answered} {r : Result} {d : List Byte}
    (hown : owner (confirmWake .unicast s) = ⟨confirmWake .unicast s, r, d, none⟩) :
    request .unicast k owner s = .next (s.answeredWith k r d) :=
  request_answered hs.1 (admission_of_servesReads hs hfail) hown

@[simp] theorem confirmWake_sideState (m : AddrMode) (s : State) (sd : Side) :
    (confirmWake m s).sideState sd = s.sideState sd := by
  simp [State.sideState]

/-! ### Reads without fields -/

theorem statusBytes_confirmWake (m : AddrMode) (s : State) : statusBytes (confirmWake m s) = statusBytes s := by
  unfold confirmWake
  split <;> rfl

theorem identBytes_confirmWake (m : AddrMode) (s : State) : identBytes (confirmWake m s) = identBytes s := by
  unfold confirmWake
  split <;> rfl

theorem counterBytes_confirmWake (m : AddrMode) (s : State) : counterBytes (confirmWake m s) = counterBytes s := by
  unfold confirmWake
  split <;> rfl

theorem ownReadPrices_confirmWake (m : AddrMode) (s : State) : (ownReadPrices (confirmWake m s)) =
    okData (confirmWake m s) (ownReadPrices s).data := by
  unfold confirmWake
  split <;> rfl

theorem readTotals_replied {s : State} (hs : s.ServesReads) :
    exec (.readTotals .unicast) s = .next ((confirmWake .unicast s).withSli { s.sli with
      tx := .waiting (replyFrame s.sli.line.address 3 0x32 .ok (totalsPart1 s.sru))
        (some (replyFrame s.sli.line.address 3 0x32 .ok (totalsPart2Bytes s.sru))) }) := by
  have hexec : exec (.readTotals .unicast) s = request .unicast .readTotals ownReadTotals s := rfl
  have hadmit : admission .readTotals s = .serve := admission_of_servesReads hs rfl
  obtain ⟨⟨hpow, hnight, hidle, hsettled⟩, -, -⟩ := hs
  have hmode : (confirmWake .unicast s).psq.mode ≠ .night := by rwa [confirmWake_mode]
  rw [hexec, request_unicast_idle hpow hidle, hadmit]
  simp only [State.afterAdmission, serveRequest, replyTo, sendReply, ownReadTotals, hmode, if_false]
  have hkept (l : Sli) : finish ((confirmWake .unicast s).withSli l) = (confirmWake .unicast s).withSli l :=
    finish_eq_of_eq (settled_confirmWake hsettled .unicast) rfl rfl rfl
  rw [hkept]
  simp [ReqKind.port, ReqKind.code]

/-- Settles O18: each owner answers with data of the state as it stands. -/
theorem readsWithoutFieldsAreAnswered : Obligations.ReadsWithoutFieldsAreAnswered := by
  refine ⟨fun s hs => ⟨?poll, ?ident, ?counters⟩, fun s hs => ⟨?prices, readTotals_replied hs⟩⟩
  case poll =>
    refine (request_answered hs (admission_of_answers hs rfl rfl) (k := .poll)
      (congrArg (okData _) (statusBytes_confirmWake .unicast s))).trans ?_
    cases hmode : s.psq.mode <;> simp [statusBytes, statusReader, Mode.num, hmode]
  case ident =>
    refine (request_answered hs (admission_of_answers hs rfl rfl) (k := .readIdent)
      (congrArg (okData _) (identBytes_confirmWake .unicast s))).trans ?_
    cases hmode : s.psq.mode <;> simp [identBytes, Mode.num, hmode] <;> rfl
  case counters =>
    exact request_answered hs (admission_of_answers hs rfl rfl) (k := .readCounters)
      (congrArg (okData _) (counterBytes_confirmWake .unicast s))
  case prices => exact read_answered hs (k := .readPrices) rfl (ownReadPrices_confirmWake .unicast s)

/-! ### Reads with fields -/

theorem liveMirror_confirmWake (m : AddrMode) (s : State) (sd : Side) :
    liveMirror (confirmWake m s) sd = liveMirror s sd := by
  unfold confirmWake
  split <;> rfl

theorem ownReadLive_num (sd : Side) (s : State) :
    ownReadLive sd.num s = okData s (mirrorBytes sd (liveMirror s sd)) := by
  rw [ownReadLive, sideOf_num, orRefuse]

theorem ownReadSale_num (sd : Side) (kind value : Nat) (s : State) : ownReadSale sd.num kind value s =
    orRefuse .badField s (selectSale kind value (s.stack.get sd)) fun found =>
      orRefuse .notFound s found fun r => okData s (recordBytes r false) := by
  rw [ownReadSale, sideOf_num, orRefuse]

theorem selectSale_place {n : Nat} (hn : n < 2) (l : List SaleRecord) : selectSale 1 (n + 1) l = some l[n]? := by
  simp [selectSale, show n = 0 ∨ n = 1 by omega]

theorem selectSale_id {id : Nat} (hid : id ≠ 0) (l : List SaleRecord) :
    selectSale 2 id l = some (findSale id l) := by
  simp [selectSale, hid]

theorem selectSale_eq_none {kind value : Nat} (h : (kind ≠ 1 ∧ kind ≠ 2) ∨ (kind = 1 ∧ value ≠ 1 ∧ value ≠ 2) ∨
    (kind = 2 ∧ value = 0)) (l : List SaleRecord) : selectSale kind value l = none := by
  unfold selectSale
  split
  · exact if_neg (by omega)
  · exact if_pos (by omega)
  · rfl

theorem ownReadSale_badField {side kind value : Nat} (h : (side ≠ 1 ∧ side ≠ 2) ∨ (kind ≠ 1 ∧ kind ≠ 2) ∨
    (kind = 1 ∧ value ≠ 1 ∧ value ≠ 2) ∨ (kind = 2 ∧ value = 0)) (s : State) :
    ownReadSale side kind value s = refuse .badField s := by
  unfold ownReadSale
  cases hside : sideOf side with
  | none => rfl
  | some sd =>
    rcases h with ⟨ha, hb⟩ | h
    · rw [sideOf_eq_none ha hb] at hside
      cases hside
    · rw [orRefuse, selectSale_eq_none h, orRefuse]

theorem ownReadJournal_of_le {n : Nat} (hn : n ≤ 15) (s : State) : ownReadJournal n s =
    orRefuse .notFound s s.sru.journal.reverse[n]? fun e => okData s (recordBytes e.record e.paid) :=
  if_neg (Nat.not_lt.2 hn)

theorem rowIndex_succ {n : Nat} (hn : n < 24) : rowIndex (n + 1) = some n := by
  simp [rowIndex, within, show n + 1 ≤ 24 by omega]

theorem rowIndex_eq_none {n : Nat} (hn : n = 0 ∨ 24 < n) : rowIndex n = none := by
  simp only [rowIndex, within, Bool.and_eq_true, decide_eq_true_eq, ite_eq_right_iff]
  omega

theorem meterOf_eq_none {v : Nat} (h : v = 0 ∨ 6 < v) : meterOf v = none := by
  unfold meterOf
  split
  case h_7 => rfl
  all_goals omega

theorem sectionBytes_eq_none {sect meter : Nat} (h : sect = 0 ∨ 8 < sect ∨ (sect = 3 ∧ (meter = 0 ∨ 6 < meter)))
    (c : Cfg) : sectionBytes c sect meter = none := by
  unfold sectionBytes
  split
  case h_3 =>
    rw [meterOf_eq_none (by omega)]
    rfl
  case h_9 => rfl
  all_goals omega

/-- Settles O19: each owner's lookup, by what it finds. -/
theorem readsWithFieldsAreAnswered : Obligations.ReadsWithFieldsAreAnswered := by
  intro s hs
  have hstack : (confirmWake .unicast s).stack = s.stack := by simp
  have hsru : (confirmWake .unicast s).sru = s.sru := by simp
  have hcfg : (confirmWake .unicast s).cfg = s.cfg := by simp
  refine ⟨fun sd => ?live, fun v ha hb => ?liveBad, fun sd n r hn hr => ?place, fun sd n hn hr => ?noPlace,
    fun sd id r hid hr => ?byId, fun sd id hid hr => ?noId, fun side kind value h => ?saleBad,
    fun n e hn he => ?journal, fun n hn he => ?noJournal, fun n hn => ?journalBad, fun n r hn hr => ?route,
    fun n hn => ?routeBad, fun sect meter d hd => ?config, fun sect meter h => ?configBad⟩
  case live =>
    refine read_answered hs (k := .readLive) rfl ?_
    rw [ownReadLive_num, liveMirror_confirmWake, okData]
  case liveBad =>
    refine read_answered hs (k := .readLive) rfl ?_
    rw [ownReadLive, sideOf_eq_none ha hb, orRefuse, refuse]
  case place =>
    refine read_answered hs (k := .readSale) rfl ?_
    rw [ownReadSale_num, hstack, selectSale_place hn, hr, orRefuse, orRefuse, okData]
  case noPlace =>
    refine read_answered hs (k := .readSale) rfl ?_
    rw [ownReadSale_num, hstack, selectSale_place hn, hr, orRefuse, orRefuse, refuse]
  case byId =>
    refine read_answered hs (k := .readSale) rfl ?_
    rw [ownReadSale_num, hstack, selectSale_id hid, findSale, hr, orRefuse, orRefuse, okData]
  case noId =>
    refine read_answered hs (k := .readSale) rfl ?_
    rw [ownReadSale_num, hstack, selectSale_id hid, findSale_eq_none hr, orRefuse, orRefuse, refuse]
  case saleBad => exact read_answered hs (k := .readSale) rfl (ownReadSale_badField h _)
  case journal =>
    refine read_answered hs (k := .readJournal) rfl ?_
    rw [ownReadJournal_of_le hn, hsru, he, orRefuse, okData]
  case noJournal =>
    have hnone : s.sru.journal.reverse[n]? = none := by simpa using he
    refine read_answered hs (k := .readJournal) rfl ?_
    rw [ownReadJournal_of_le hn, hsru, hnone, orRefuse, refuse]
  case journalBad => exact read_answered hs (k := .readJournal) rfl (if_pos hn)
  case route =>
    refine read_answered hs (k := .readRoute) rfl ?_
    rw [ownReadRoute, rowIndex_succ hn, orRefuse, routeAt, hcfg, List.getD_eq_getElem?_getD, hr]
    rfl
  case routeBad =>
    refine read_answered hs (k := .readRoute) rfl ?_
    rw [ownReadRoute, rowIndex_eq_none hn, orRefuse, refuse]
  case config =>
    refine read_answered hs (k := .readConfig) rfl ?_
    rw [ownReadConfig, hcfg, hd, orRefuse, okData]
  case configBad =>
    refine read_answered hs (k := .readConfig) rfl ?_
    rw [ownReadConfig, hcfg, sectionBytes_eq_none h, orRefuse, refuse]

end Sys2Proof.Machine
end

section

/-! ## AUTHORIZE and the start condition (R40, R41, R44 to R46) -/

namespace Sys2Proof.Machine

open Sys2Proof

/-! ### The authorization record of the fields -/

theorem PerPosition.get_of_bits (v : Nat) (q : Position) :
    (⟨v.testBit 0, v.testBit 1, v.testBit 2, v.testBit 3⟩ : PerPosition Bool).get q = v.testBit (q.num - 1) := by
  cases q <;> rfl

theorem allMapped_iff (map : PerHose (Option HoseRec)) (sd : Side) (allowed : PerPosition Bool) :
    allMapped map sd allowed = true ↔
      ∀ q ∈ Position.all, allowed.get q = true → hoseAt map sd q ≠ none := by
  simp only [allMapped, List.all_eq_true, Bool.or_eq_true, Bool.not_eq_true', Option.isSome_iff_ne_none, imp_iff_not_or,
    Bool.not_eq_true]

theorem limitOf_eq_none {kind value : Nat} (h : 2 < kind ∨ (kind ≠ 0 ∧ (value = 0 ∨ 999999 < value))) :
    limitOf kind value = none := by
  have hmax : Config.displayMax = 999999 := rfl
  unfold limitOf
  split
  · omega
  · exact if_neg (by omega)
  · exact if_neg (by omega)
  · rfl

/-- A field out of its range, or a position that no hose of the side is at. -/
def BadAuthFields (map : PerHose (Option HoseRec)) (sd : Side) (saleId allowed level kind value : Nat) : Prop :=
  saleId = 0 ∨ 65535 < saleId ∨ allowed = 0 ∨ 15 < allowed ∨
    (∃ q ∈ Position.all, allowed.testBit (q.num - 1) = true ∧ hoseAt map sd q = none) ∨
    level = 0 ∨ 2 < level ∨ 2 < kind ∨ (kind ≠ 0 ∧ (value = 0 ∨ 999999 < value))

theorem authOf_eq_none {s : State} {sd : Side} {saleId allowed level kind value : Nat}
    (h : BadAuthFields s.cfg.hoses sd saleId allowed level kind value) :
    authOf s sd saleId allowed level kind value = none := by
  unfold authOf
  split
  case h_2 => rfl
  case h_1 set lv lim hset hlv hlim =>
    refine if_neg fun ⟨hlow, hhigh, hmapped⟩ => ?_
    have hallowed : 1 ≤ allowed ∧ allowed ≤ 15 := by
      by_contra hrange
      rw [allowedOf, if_neg hrange] at hset
      cases hset
    rw [allowedOf, if_pos hallowed, Option.some.injEq] at hset
    rw [← hset, allMapped_iff] at hmapped
    rcases h with h | h | h | h | ⟨q, hq, hbit, hfree⟩ | h | h | h
    · omega
    · omega
    · omega
    · omega
    · exact hmapped q hq (by rwa [PerPosition.get_of_bits]) hfree
    · rw [levelOf_eq_none (.inl h)] at hlv
      cases hlv
    · rw [levelOf_eq_none (.inr h)] at hlv
      cases hlv
    · rw [limitOf_eq_none h] at hlim
      cases hlim

/-- The record of valid fields (R41). -/
def authOfFields (s : State) (saleId allowed : Nat) (lv : Level) (lim : Limit) : Auth where
  saleId := saleId
  allowed := ⟨allowed.testBit 0, allowed.testBit 1, allowed.testBit 2, allowed.testBit 3⟩
  level := lv
  limit := lim
  timer := if s.cfg.timers.auth = 0 then none else some (s.now + 1000 * s.cfg.timers.auth)
  blocked := .none

theorem authOf_valid {s : State} {sd : Side} {saleId allowed kind value : Nat} {lv : Level} {lim : Limit}
    (hlow : 1 ≤ saleId) (hhigh : saleId ≤ 65535) (ha : 1 ≤ allowed) (ha' : allowed ≤ 15)
    (hmapped : ∀ q ∈ Position.all, allowed.testBit (q.num - 1) = true → hoseAt s.cfg.hoses sd q ≠ none)
    (hlim : limitOf kind value = some lim) :
    authOf s sd saleId allowed lv.num kind value = some (authOfFields s saleId allowed lv lim) := by
  have hall : allMapped s.cfg.hoses sd ⟨allowed.testBit 0, allowed.testBit 1, allowed.testBit 2, allowed.testBit 3⟩ =
      true := by
    rw [allMapped_iff]
    exact fun q hq hbit => hmapped q hq (by rwa [PerPosition.get_of_bits] at hbit)
  rw [authOf, allowedOf, if_pos ⟨ha, ha'⟩, levelOf_num, hlim]
  exact if_pos ⟨hlow, hhigh, hall⟩

theorem authOf_confirmWake (m : AddrMode) (s : State) (sd : Side) (saleId allowed level kind value : Nat) :
    authOf (confirmWake m s) sd saleId allowed level kind value = authOf s sd saleId allowed level kind value := by
  unfold confirmWake
  split <;> rfl

theorem confirmWake_night (m : AddrMode) (s : State) : (confirmWake m s).psq.night = s.psq.night := by
  unfold confirmWake
  split <;> rfl

/-! ### The checks in order -/

section
variable {s : State} {sd : Side} {saleId allowed level kind value : Nat}

theorem ownAuthorize_of_authorized {a : Auth} (h : s.sideState sd = .authorized a) :
    ownAuthorize sd.num saleId allowed level kind value s =
      if a.saleId = saleId then okay s else refuse .state s := by
  simp [ownAuthorize, sideOf_num, orRefuse, h]

theorem ownAuthorize_of_closed_or_sale
    (h : (∃ r, s.sideState sd = .closed r) ∨ ∃ p ctx, s.sideState sd = .sale p ctx) :
    ownAuthorize sd.num saleId allowed level kind value s = refuse .state s := by
  rcases h with ⟨r, h⟩ | ⟨p, ctx, h⟩ <;> simp [ownAuthorize, sideOf_num, orRefuse, h]

theorem ownAuthorize_open (h : s.sideState sd = .idle ∨ s.sideState sd = .calling) :
    ownAuthorize sd.num saleId allowed level kind value s =
      authorizeOpen sd saleId (authOf s sd saleId allowed level kind value) s := by
  rcases h with h | h <;> simp [ownAuthorize, sideOf_num, orRefuse, h]

theorem authorizeOpen_checked {a : Auth} (hnight : s.psq.night = none) : authorizeOpen sd saleId (some a) s =
    if 2 ≤ (s.stack.get sd).length then refuse .stackFull s
    else if (s.stack.get sd).any fun r => r.saleId == saleId then refuse .duplicateId s
    else okay (testStart sd (s.withSideState sd (.authorized a))) := by
  simp [authorizeOpen, hnight, orRefuse]

/-- A request whose owner answers with a result and no change. -/
theorem exec_authorize_unchanged {v : Nat} {r : Result} (hs : s.Serves)
    (howner : ownAuthorize v saleId allowed level kind value (confirmWake .unicast s) =
      refuse r (confirmWake .unicast s)) :
    exec (.authorize .unicast v saleId allowed level kind value) s = .next (s.answeredWith .authorize r []) :=
  request_refused (k := .authorize) hs rfl howner

end

/-- Settles O20: the checks of AUTHORIZE by the side's state and then in the order of the table. -/
theorem authorizeIsCheckedInOrder : Obligations.AuthorizeIsCheckedInOrder := by
  intro s sd saleId allowed level kind value hs
  have hstate : (confirmWake .unicast s).sideState sd = s.sideState sd := by simp
  have hstack : (confirmWake .unicast s).stack = s.stack := by simp
  refine ⟨fun v ha hb => ?badSide, fun a ha hid => ?again, fun a ha hid => ?other, fun h => ?busy,
    fun hopen => ⟨fun hnight => ?night, fun hnight => ⟨fun hbad => ?badField, fun a ha => ⟨fun hfull => ?full,
      fun hroom hdup => ?duplicate⟩⟩⟩⟩
  case badSide => exact exec_authorize_unchanged hs (by rw [ownAuthorize, sideOf_eq_none ha hb, orRefuse])
  case again => exact exec_authorize_unchanged hs ((ownAuthorize_of_authorized (hstate.trans ha)).trans (if_pos hid))
  case other => exact exec_authorize_unchanged hs ((ownAuthorize_of_authorized (hstate.trans ha)).trans (if_neg hid))
  case busy =>
    rw [← hstate] at h
    exact exec_authorize_unchanged hs (ownAuthorize_of_closed_or_sale h)
  all_goals
    refine exec_authorize_unchanged hs ?_
    rw [ownAuthorize_open (hstate ▸ hopen)]
  case night => exact if_pos (by rw [confirmWake_night]; exact Option.isSome_iff_ne_none.2 hnight)
  case badField =>
    rw [authOf_confirmWake, authOf_eq_none hbad, authorizeOpen, confirmWake_night, hnight]
    rfl
  all_goals
    rw [authOf_confirmWake, ha, authorizeOpen_checked (by rw [confirmWake_night, hnight]), hstack]
  case full => exact if_pos hfull
  case duplicate =>
    obtain ⟨r, hr, hid⟩ := hdup
    rw [if_neg (Nat.not_le.2 hroom), if_pos (List.any_eq_true.2 ⟨r, hr, by simp [hid]⟩)]

/-- Settles O21: with every check passed the owner grants the record and tests the start condition. -/
theorem authorizeGrantsASale : Obligations.AuthorizeGrantsASale := by
  intro s sd saleId allowed kind value lv lim hs hopen hnight hlow hhigh ha ha' hmapped hlim hroom hfresh
  have hstate : (confirmWake .unicast s).sideState sd = s.sideState sd := by simp
  have hstack : (confirmWake .unicast s).stack = s.stack := by simp
  have howner : ownAuthorize sd.num saleId allowed lv.num kind value (confirmWake .unicast s) =
      okay (testStart sd ((confirmWake .unicast s).withSideState sd
        (.authorized (authOfFields s saleId allowed lv lim)))) := by
    have hnodup : ¬ ((s.stack.get sd).any fun r => r.saleId == saleId) = true := by simpa using hfresh
    rw [ownAuthorize_open (hstate ▸ hopen), authOf_confirmWake, authOf_valid hlow hhigh ha ha' hmapped hlim,
      authorizeOpen_checked (by rw [confirmWake_night, hnight]), hstack, if_neg (Nat.not_le.2 hroom), if_neg hnodup]
  exact request_of_serves_store_kept (k := .authorize) hs rfl howner (by simp) (by simp) (by simp)

/-! ### The start condition (R44 to R46) -/

theorem validPrice_iff (p : Nat) : validPrice p = true ↔ 1 ≤ p ∧ p ≤ 99999 := by
  rw [validPrice, Bool.and_eq_true, decide_eq_true_iff, decide_eq_true_iff]
  exact Iff.rfl

theorem testStart_of_wait {s : State} {sd : Side} {a : Auth} {b : StartBlocked} (h : s.sideState sd = .authorized a)
    (hwait : startTest s sd a = .wait b) :
    testStart sd s = s.withSideState sd (.authorized { a with blocked := b }) := by
  simp [testStart, h, hwait]

/-- The start test of an authorization with an allowed lifted hose, by its price and then the rail (R45). -/
theorem startTest_of_candidate {s : State} {sd : Side} {a : Auth} {h : Hose} {r : HoseRec}
    (hcandidate : (s.lifted sd).find? (allowedHose s.cfg.hoses sd a.allowed) = some h)
    (hrec : s.cfg.hoses.get h = some r) : startTest s sd a =
      if validPrice (s.ptu.active.entry r.grade a.level) = false then .wait .priceInvalid
      else if s.lines.railGood = false ∨ s.lines.warning = true then .wait .railDown
      else if s.inRun then .start h r (s.ptu.active.entry r.grade a.level)
      else .wait .none := by
  simp [startTest, candidate, hcandidate, hrec]

/-- Settles O22: the start test by its four outcomes. -/
theorem theStartConditionStartsTheOldestHose : Obligations.TheStartConditionStartsTheOldestHose := by
  refine ⟨fun s sd a ha hnone => testStart_of_wait ha (by simp [startTest, candidate, hnone]),
    fun s sd a h r ha hcandidate hrec => ⟨fun hprice => ?price, fun hlow hhigh => ⟨fun hrail => ?rail,
      fun hgood hwarn hrun => ?start⟩⟩⟩
  case price =>
    refine testStart_of_wait ha ?_
    rw [startTest_of_candidate hcandidate hrec, if_pos]
    rw [← Bool.not_eq_true, validPrice_iff]
    omega
  case rail =>
    refine testStart_of_wait ha ?_
    rw [startTest_of_candidate hcandidate hrec, (validPrice_iff _).2 ⟨hlow, hhigh⟩, if_neg (by simp), if_pos hrail]
  case start =>
    have hstart : startTest s sd a = .start h r (s.ptu.active.entry r.grade a.level) := by
      rw [startTest_of_candidate hcandidate hrec, (validPrice_iff _).2 ⟨hlow, hhigh⟩]
      simp [hgood, hwarn, State.inRun, hrun]
    refine ⟨startContext s sd a h r (s.ptu.active.entry r.grade a.level), ?_, rfl, rfl, rfl, rfl, rfl, rfl, rfl, rfl, rfl,
      rfl, rfl, rfl, rfl, rfl, rfl, rfl, rfl, rfl, rfl, rfl, rfl, rfl, rfl, rfl, ?_, ?_, rfl, rfl, rfl⟩
    · simp only [testStart, ha, hstart]
      rfl
    · cases hlimit : a.limit <;> simp [startContext, startFigures, stopThreshold, hlimit]
    · cases hlimit : a.limit <;>
        simp [startContext, startFigures, slowThreshold, displayUnits, Scale.exponent, hlimit]

end Sys2Proof.Machine
end

section

/-! ## COMMIT_PRICES, and a table that becomes active (R68, R72, R73, R79) -/

namespace Sys2Proof.Machine

open Sys2Proof

/-! ### What the start test leaves of a side -/

theorem testStart_of_not_authorized {sd : Side} {s : State} (h : ∀ a, s.sideState sd ≠ .authorized a) :
    testStart sd s = s := by
  rcases testStart_cases sd s with ⟨he, -⟩ | ⟨a, -, ha, -⟩ | ⟨a, -, -, -, ha, -⟩
  · exact he
  · exact absurd ha (h a)
  · exact absurd ha (h a)

theorem sideState_handPanel (sd d : Side) (s : State) : (handPanel d s).sideState sd = s.sideState sd := rfl

theorem sideState_withReader (sd d : Side) (r : ReaderRec) (s : State) :
    (s.withReader d r).sideState sd = s.sideState sd := rfl

theorem testStart_sideState_other {sd d : Side} (hne : d ≠ sd) (s : State) :
    (testStart sd s).sideState d = s.sideState d := by
  rcases testStart_cases sd s with ⟨he, -⟩ | ⟨a, b, -, -, he⟩ | ⟨a, h, r, price, -, -, he⟩ <;> rw [he]
  · exact State.sideState_withSideState_other s _ hne
  · rw [enterStarting, sideState_handPanel, sideState_withReader]
    exact State.sideState_withSideState_other s _ hne

/-- The start test of either side leaves a sale as it is. -/
theorem testStart_keeps_sale {sd d : Side} {s : State} {p : Phase} {ctx : Sale} (h : s.sideState d = .sale p ctx) :
    (testStart sd s).sideState d = .sale p ctx := by
  by_cases hd : d = sd
  · subst hd
    rw [testStart_of_not_authorized (by simp [h]), h]
  · rw [testStart_sideState_other hd, h]

theorem handPanels_panel (s : State) (sd : Side) :
    (handPanels s).lbc.panels.get sd = formPanel (handPanels s) sd := by
  cases sd
  · exact formPanel_congr .a rfl rfl rfl
  · exact formPanel_congr .b rfl rfl rfl

/-! ### A table that becomes active -/

theorem setActive_of_ne {t : PriceTable} {s : State} (h : t ≠ s.ptu.active) :
    setActive t s = reachSides (requestWrite .prices (raise .priceApplied
      (s.withPtu { s.ptu with active := t, generation := generationStep s.ptu.generation }))) :=
  if_neg h

theorem setActive_queue_ne {t : PriceTable} {s : State} (h : s.nvs.queue ≠ []) : (setActive t s).nvs.queue ≠ [] := by
  by_cases ht : t = s.ptu.active
  · rwa [setActive_of_eq ht]
  · exact List.ne_nil_of_mem (setActive_queues_prices ht)

theorem setActive_raised {t : PriceTable} {s : State} (h : t ≠ s.ptu.active) :
    (setActive t s).raised .priceApplied = true := by
  have hsli (u : State) : (reachSides (requestWrite .prices u)).sli = u.sli := by simp
  rw [setActive_of_ne h, State.raised, hsli]
  exact raised_raise _ _

theorem reachSides_keeps_sale {d : Side} {s : State} {p : Phase} {ctx : Sale} (h : s.sideState d = .sale p ctx) :
    (reachSides s).sideState d = .sale p ctx :=
  testStart_keeps_sale (testStart_keeps_sale h)

/-! ### The checks of COMMIT_PRICES -/

section
variable {s : State} {gen v : Nat} {t : PriceTable}

theorem commitPrices_allows (m : AddrMode) : ReqKind.commitPrices.allows m = true := by cases m <;> rfl

theorem ownCommitPrices_badMode (h1 : v ≠ 1) (h2 : v ≠ 2) : ownCommitPrices gen v s = refuse .badField s := by
  have hmode : commitModeOf v = none := by
    unfold commitModeOf
    split
    · exact absurd rfl h1
    · exact absurd rfl h2
    · rfl
  rw [ownCommitPrices, hmode, orRefuse]

theorem commitModeOf_of_mode (h : v = 1 ∨ v = 2) : ∃ md, commitModeOf v = some md := by
  rcases h with rfl | rfl
  · exact ⟨.now, rfl⟩
  · exact ⟨.atPowerUp, rfl⟩

theorem ownCommitPrices_absent (hv : v = 1 ∨ v = 2) (h : s.ptu.staged = none) :
    ownCommitPrices gen v s = refuse .nothingStaged s := by
  obtain ⟨md, hmd⟩ := commitModeOf_of_mode hv
  rw [ownCommitPrices, hmd, orRefuse, h, orRefuse]

theorem ownCommitPrices_stale (hv : v = 1 ∨ v = 2) (h : s.ptu.staged = some t) (hgen : gen ≠ s.ptu.generation) :
    ownCommitPrices gen v s = refuse .stale s := by
  obtain ⟨md, hmd⟩ := commitModeOf_of_mode hv
  rw [ownCommitPrices, hmd, orRefuse, h, orRefuse, if_neg hgen]

theorem ownCommitPrices_accepted {md : CommitMode} (hmd : commitModeOf v = some md) (h : s.ptu.staged = some t)
    (hgen : gen = s.ptu.generation) : ownCommitPrices gen v s = okay (commit md t s) := by
  rw [ownCommitPrices, hmd, orRefuse, h, orRefuse, if_pos hgen]

end

/-- Settles O27: the three checks in order, the two commit modes, and `setActive` by whether the table differs. -/
theorem commitPricesAppliesTheStagedTable : Obligations.CommitPricesAppliesTheStagedTable := by
  refine ⟨fun m s gen hs => ?commits, fun t s => ⟨setActive_of_eq, fun hne hgen => ?prices, fun hne => ?reaches⟩⟩
  case commits =>
    have hptu : (confirmWake m s).ptu = s.ptu := by simp
    have hallows := commitPrices_allows m
    refine ⟨fun v h1 h2 => request_refused hs hallows (ownCommitPrices_badMode h1 h2),
      fun habsent v hv => request_refused hs hallows (ownCommitPrices_absent hv (hptu ▸ habsent)),
      fun t ht => ⟨fun hgen v hv => ?stale, fun hgen => ⟨?now, fun hpending => ?atPowerUp, fun hpending => ?again⟩⟩⟩
    case stale => exact request_refused hs hallows (ownCommitPrices_stale hv (hptu ▸ ht) (hptu ▸ hgen))
    case now =>
      have hown := ownCommitPrices_accepted (v := 1) rfl (hptu ▸ ht) (hptu ▸ hgen)
      rw [commit, commitStaged, removeStaged, hptu] at hown
      exact request_of_serves_queued hs hallows hown (by simp [confirmWake_mode]) (by simp [setActive_line])
        (setActive_queue_ne (requestWrite_queue_ne _ _))
    case atPowerUp =>
      have hown := ownCommitPrices_accepted (v := 2) rfl (hptu ▸ ht) (hptu ▸ hgen)
      rw [commit, hptu, if_neg (by simp [hpending])] at hown
      exact request_of_serves_prices hs hallows hown
    case again =>
      have hown := ownCommitPrices_accepted (v := 2) rfl (hptu ▸ ht) (hptu ▸ hgen)
      rw [commit, hptu, if_pos hpending] at hown
      exact request_of_serves_unchanged hs hallows hown
  case prices =>
    have hkept (u : State) : (reachSides (requestWrite .prices u)).ptu = u.ptu := by simp
    have hstep : generationStep s.ptu.generation =
        if s.ptu.generation = 65535 then 1 else s.ptu.generation + 1 := by
      unfold generationStep
      split <;> split <;> omega
    rw [setActive_of_ne hne, hkept, ← hstep]
    rfl
  case reaches =>
    refine ⟨setActive_raised hne, setActive_queues_prices hne, fun sd => ?_, fun sd p ctx hsale => ?_⟩
    · rw [setActive_of_ne hne, reachSides]
      exact handPanels_panel _ sd
    · rw [setActive_of_ne hne]
      exact reachSides_keeps_sale hsale

end Sys2Proof.Machine
end

section

/-! ## CLEAR_EVENTS (R153, R176) -/

namespace Sys2Proof.Machine

open Sys2Proof

/-- An answer with data whose owner queues a write. -/
theorem request_replied_queued {s t : State} {k : ReqKind} {owner : State → Answered} {r : Result} {d : List Byte}
    (hs : s.Serves) (howner : owner (confirmWake .unicast s) = ⟨t, r, d, none⟩)
    (hmode : t.psq.mode = s.psq.mode) (hline : t.sli.line = s.sli.line) (hqueue : t.nvs.queue ≠ []) :
    request .unicast k owner s = .next (beginWrite (t.withReply k r d)) := by
  have ⟨_, hrun, _, _, _⟩ := hs
  have hnight : t.psq.mode ≠ .night := by simp [hmode, hrun]
  rw [request_eq_of_serves hs rfl, howner, ← hline, replyTo_unicast hnight, finish_of_queue (by simpa using hqueue)]

theorem clearEvents_confirmWake (m : AddrMode) (mask : BitVec 16) (s : State) :
    clearEvents mask (confirmWake m s) =
      (confirmWake m s).withEvents ((s.sli.events &&& ~~~mask) ||| (mask &&& persisting s)) := by
  unfold confirmWake
  split <;> rfl

theorem nvFault_in_mask (mask : Nat) :
    (BitVec.ofNat 16 mask).getLsbD Event.nvFault.number = mask.testBit 12 := by
  rw [BitVec.getLsbD_ofNat]
  exact Bool.true_and _

theorem acknowledge_of_not {mask : BitVec 16} {s : State}
    (h : ¬ (mask.getLsbD Event.nvFault.number = true ∧ s.nvs.condition = .lost)) : acknowledge mask s = s :=
  if_neg h

theorem acknowledge_of_lost {mask : BitVec 16} {s : State}
    (h : mask.getLsbD Event.nvFault.number = true ∧ s.nvs.condition = .lost) :
    acknowledge mask s = requestWrite .metrology s :=
  if_pos h

/-- Settles O29: the set that stands is the one of `clearEvents`, and the METROLOGY write is asked for by
`acknowledge`. -/
theorem clearEventsRaisesAgainWhatPersists : Obligations.ClearEventsRaisesAgainWhatPersists := by
  intro s mask hs _ ev
  have hcleared := clearEvents_confirmWake .unicast (BitVec.ofNat 16 mask) s
  have hnvs : ((confirmWake .unicast s).withEvents ev).nvs = s.nvs := by simp
  refine ⟨fun hno => request_replied hs (k := .clearEvents) ?_ hnvs rfl (by simp),
    fun hbit hlost => request_replied_queued hs (k := .clearEvents) ?_ (by simp [confirmWake_mode]) (by simp)
      (requestWrite_queue_ne _ _)⟩
  · rw [ownClearEvents, hcleared, acknowledge_of_not (by rwa [nvFault_in_mask, hnvs])]
    rfl
  · rw [ownClearEvents, hcleared, acknowledge_of_lost ⟨by rwa [nvFault_in_mask], by rwa [hnvs]⟩]
    have hsli (u : State) : (requestWrite .metrology u).sli = u.sli := by simp
    rw [okData, hsli]
    rfl

end Sys2Proof.Machine
end

section

/-! ## Settings of the configuration (R161, R162, R166, R168) -/

namespace Sys2Proof.Machine

open Sys2Proof

/-- An accepted setting: the configuration in force is replaced, and its write is queued or begins (R159). -/
theorem setting_accepted {s : State} {k : ReqKind} {owner : State → Answered} {c : Cfg} (hs : s.Serves)
    (howner : owner (confirmWake .unicast s) = okay (setCfg c (confirmWake .unicast s))) :
    request .unicast k owner s =
      .next (beginWrite ((requestWrite .config { confirmWake .unicast s with cfg := c }).withReply k .ok [])) :=
  request_of_serves_queued hs rfl howner (by simp [confirmWake_mode]) (by simp)
    (requestWrite_queue_ne _ _)

theorem confirmWake_cfg (m : AddrMode) (s : State) : (confirmWake m s).cfg = s.cfg := by simp

theorem within_iff (lo hi v : Nat) : within lo hi v = true ↔ lo ≤ v ∧ v ≤ hi := by
  rw [within, Bool.and_eq_true, decide_eq_true_iff, decide_eq_true_iff]

theorem speedOf_num (v : Speed) : speedOf v.num = some v := by cases v <;> rfl

theorem speedOf_eq_none {v : Nat} (h : 3 < v) : speedOf v = none := by
  unfold speedOf
  split
  case h_5 => rfl
  all_goals omega

theorem timersOf_valid {t : TimerFields} (hauth : t.auth = 0 ∨ (10 ≤ t.auth ∧ t.auth ≤ 900))
    (hzero : 500 ≤ t.zero ∧ t.zero ≤ 3000) (hnoFlow : 10 ≤ t.noFlow ∧ t.noFlow ≤ 600)
    (hsuspend : 10 ≤ t.suspend ∧ t.suspend ≤ 900) (hsettle : 200 ≤ t.settle ∧ t.settle ≤ 2000)
    (hloss : 200 ≤ t.loss ∧ t.loss ≤ 3000) (hhold : 5 ≤ t.hold ∧ t.hold ≤ 600)
    (hconfirm : 10 ≤ t.confirm ∧ t.confirm ≤ 600) :
    timersOf t = some ⟨t.auth, t.zero, t.noFlow, t.suspend, t.settle, t.loss, t.hold, t.confirm⟩ := by
  refine if_pos ?_
  simp only [Bool.and_eq_true, Bool.or_eq_true, beq_iff_eq, within_iff]
  exact ⟨⟨⟨⟨⟨⟨⟨hauth, hzero⟩, hnoFlow⟩, hsuspend⟩, hsettle⟩, hloss⟩, hhold⟩, hconfirm⟩

theorem timersOf_eq_none {t : TimerFields} (h : (t.auth ≠ 0 ∧ (t.auth < 10 ∨ 900 < t.auth)) ∨ t.zero < 500 ∨
    3000 < t.zero ∨ t.noFlow < 10 ∨ 600 < t.noFlow ∨ t.suspend < 10 ∨ 900 < t.suspend ∨ t.settle < 200 ∨
    2000 < t.settle ∨ t.loss < 200 ∨ 3000 < t.loss ∨ t.hold < 5 ∨ 600 < t.hold ∨ t.confirm < 10 ∨ 600 < t.confirm) :
    timersOf t = none := by
  refine if_neg ?_
  simp only [Bool.and_eq_true, Bool.or_eq_true, beq_iff_eq, within_iff]
  omega

theorem flagOf_of_le {v : Nat} (h : v ≤ 1) : flagOf v = some (v == 1) := by
  interval_cases v <;> rfl

theorem flagOf_num (b : Bool) : flagOf (flagNum b) = some b := by cases b <;> rfl

theorem flagOf_eq_none {v : Nat} (h : 1 < v) : flagOf v = none := by
  unfold flagOf
  split
  case h_3 => rfl
  all_goals omega

theorem anyOr_valid {hi v : Nat} (h : v = 255 ∨ v ≤ hi) :
    anyOr hi v = some (if v = 255 then none else some v) := by
  unfold anyOr
  split
  · rfl
  · exact if_pos (by omega)

theorem anyOr_eq_none {hi v : Nat} (h : v ≠ 255 ∧ hi < v) : anyOr hi v = none := by
  rw [anyOr, if_neg h.1, if_neg (Nat.not_le.2 h.2)]

theorem wakeOf_eq_none {w : WakeFields} (h : (w.port ≠ 255 ∧ 3 < w.port) ∨ (w.length ≠ 255 ∧ 120 < w.length) ∨
    1 < w.nozzleA ∨ 1 < w.nozzleB) : wakeOf w = none := by
  unfold wakeOf
  split
  · next hport hlength hna hnb =>
    rcases h with h | h | h | h
    · cases (anyOr_eq_none h).symm.trans hport
    · cases (anyOr_eq_none h).symm.trans hlength
    · cases (flagOf_eq_none h).symm.trans hna
    · cases (flagOf_eq_none h).symm.trans hnb
  · rfl

/-- SET_LINE also leaves the mark that has the receiver wait (R162). -/
theorem setLine_accepted {s : State} (hs : s.Serves) (v : Speed) :
    exec (.setLine .unicast v.num) s = .next (beginWrite ((requestWrite .config { confirmWake .unicast s with
      cfg := { s.cfg with speed := v }, sli := { s.sli with quietAfter := true } }).withReply .setLine .ok [])) := by
  have howner : ownSetLine v.num (confirmWake .unicast s) = okay (requestWrite .config { confirmWake .unicast s with
      cfg := { s.cfg with speed := v }, sli := { s.sli with quietAfter := true } }) := by
    rw [ownSetLine, speedOf_num, orRefuse, setLine, confirmWake_cfg]
    unfold confirmWake
    split <;> rfl
  exact request_of_serves_queued hs rfl howner (by simp [confirmWake_mode]) rfl (requestWrite_queue_ne _ _)

/-- Settles O31: the fields in range go through `setCfg`, the others are refused by the check of the record. -/
theorem plainSettingsReachTheConfiguration : Obligations.PlainSettingsReachTheConfiguration := by
  intro s hs
  have hcfg := confirmWake_cfg .unicast s
  refine ⟨fun a g h1 h2 h3 => ?address, fun a g h => ?addressBad, setLine_accepted hs, fun v hv => ?lineBad,
    fun t h0 h1 h2 h3 h4 h5 h6 h7 h8 h9 h10 h11 h12 h13 h14 => ?timers, fun t h => ?timersBad,
    fun w hport hlength hna hnb => ?wake, fun w h => ?wakeBad, fun h => ?arm, fun h => ?armed⟩
  case address =>
    refine setting_accepted hs (k := .setAddress) ?_
    rw [ownSetAddress, if_pos (by simp [within_iff, h1, h2, h3]), hcfg]
  case addressBad =>
    refine request_refused hs (k := .setAddress) rfl ?_
    rw [ownSetAddress, if_neg]
    simp only [Bool.and_eq_true, within_iff]
    omega
  case lineBad =>
    refine request_refused hs (k := .setLine) rfl ?_
    rw [ownSetLine, speedOf_eq_none hv, orRefuse]
  case timers =>
    refine setting_accepted hs (k := .setTimers) ?_
    rw [ownSetTimers, timersOf_valid h0 ⟨h1, h2⟩ ⟨h3, h4⟩ ⟨h5, h6⟩ ⟨h7, h8⟩ ⟨h9, h10⟩ ⟨h11, h12⟩ ⟨h13, h14⟩,
      orRefuse, hcfg]
  case timersBad =>
    refine request_refused hs (k := .setTimers) rfl ?_
    rw [ownSetTimers, timersOf_eq_none h, orRefuse]
  case wake =>
    refine setting_accepted hs (k := .setWake) ?_
    rw [ownSetWake, wakeOf, anyOr_valid hport, anyOr_valid hlength, flagOf_of_le hna, flagOf_of_le hnb, hcfg]
    rfl
  case wakeBad =>
    refine request_refused hs (k := .setWake) rfl ?_
    rw [ownSetWake, wakeOf_eq_none h, orRefuse]
  case arm =>
    refine setting_accepted hs (k := .armWake) ?_
    rw [ownArmWake, hcfg, if_neg (by simp [h])]
  case armed =>
    refine request_of_serves_unchanged hs (k := .armWake) rfl ?_
    rw [ownArmWake, hcfg, if_pos h]

end Sys2Proof.Machine
end

section

/-! ## SET_THRESHOLDS (R134, R145, R167) -/

namespace Sys2Proof.Machine

open Sys2Proof

/-! ### A reader's counter brought down -/

/-- What a threshold makes of a reader: nothing while its counter is within it; else the counter is brought down, and
a reader that is ATTACHED is quarantined (R134). -/
def ReaderRec.ClampedTo (r r' : ReaderRec) (threshold : Nat) : Prop :=
  (r.err ≤ threshold → r' = r) ∧
  (threshold < r.err → r'.err = threshold ∧
    (r.state = .attached → r'.state = .quarantined ∧ r'.up = [] ∧ r'.down = []) ∧
    (r.state ≠ .attached → r'.state = r.state))

theorem clampReader_of_le {sd : Side} {s : State} (h : (s.reader sd).err ≤ s.cfg.thresholds.reader) :
    clampReader sd s = s :=
  if_neg (Nat.not_lt.2 h)

theorem clampReader_of_attached {sd : Side} {s : State} (h : s.cfg.thresholds.reader < (s.reader sd).err)
    (hattached : (s.reader sd).state = .attached) : clampReader sd s =
      enterQuarantined sd (s.withReader sd { s.reader sd with err := s.cfg.thresholds.reader }) := by
  simp [clampReader, h, hattached]

theorem clampReader_of_not_attached {sd : Side} {s : State} (h : s.cfg.thresholds.reader < (s.reader sd).err)
    (hattached : (s.reader sd).state ≠ .attached) : clampReader sd s =
      s.withReader sd { s.reader sd with err := s.cfg.thresholds.reader } := by
  simp [clampReader, h, hattached]

theorem clampReader_clampedTo (sd : Side) (s : State) :
    (s.reader sd).ClampedTo ((clampReader sd s).reader sd) s.cfg.thresholds.reader := by
  refine ⟨fun hle => by rw [clampReader_of_le hle], fun hlt => ?_⟩
  by_cases hattached : (s.reader sd).state = .attached
  · rw [clampReader_of_attached hlt hattached, enterQuarantined, cutReader_reader]
    simp [hattached]
  · rw [clampReader_of_not_attached hlt hattached]
    simp [hattached]

/-- Both readers are brought to the threshold, each as it stood. -/
theorem clampReaders_clampedTo (s : State) (sd : Side) :
    (s.reader sd).ClampedTo ((clampReader .b (clampReader .a s)).reader sd) s.cfg.thresholds.reader := by
  cases sd with
  | a =>
    rw [clampReader_reader_other (by decide)]
    exact clampReader_clampedTo .a s
  | b =>
    have hb := clampReader_clampedTo .b (clampReader .a s)
    rwa [clampReader_reader_other (by decide), (by simp : (clampReader .a s).cfg = s.cfg)] at hb

/-! ### Events are not lost -/

theorem raised_of_raised {e e' : Event} {s : State} (h : s.raised e = true) : (raise e' s).raised e = true := by
  simp only [State.raised, raise, State.withEvents, BitVec.getLsbD_or] at h ⊢
  rw [h, Bool.true_or]

theorem cutReader_raised {sd : Side} {st : ReaderState} {hold : HoldTimer} {s : State} :
    (cutReader sd st hold true s).raised (.readerOut sd) = true := by
  simp only [cutReader, if_true]
  exact raised_raise _ _

theorem cutReader_keeps_raised {sd : Side} {st : ReaderState} {hold : HoldTimer} {report : Bool} {s : State} {e : Event}
    (h : s.raised e = true) : (cutReader sd st hold report s).raised e = true := by
  have hslot (u : State) : (abandonReaderSlot sd u).sli = u.sli := by simp
  have hkept : ∀ r, (abandonReaderSlot sd (s.withReader sd r)).raised e = true := fun r => by
    rw [State.raised, hslot]
    exact h
  simp only [cutReader]
  split
  · exact raised_of_raised (hkept _)
  · exact hkept _

theorem clampReader_keeps_raised {sd : Side} {s : State} {e : Event} (h : s.raised e = true) :
    (clampReader sd s).raised e = true := by
  simp only [clampReader]
  split
  · split
    · exact cutReader_keeps_raised h
    · exact h
  · exact h

/-- A quarantine by a lowered threshold is reported. -/
theorem clampReaders_raised {s : State} {sd : Side} (hlt : s.cfg.thresholds.reader < (s.reader sd).err)
    (hattached : (s.reader sd).state = .attached) :
    (clampReader .b (clampReader .a s)).raised (.readerOut sd) = true := by
  cases sd with
  | a =>
    refine clampReader_keeps_raised ?_
    rw [clampReader_of_attached hlt hattached]
    exact cutReader_raised
  | b =>
    have hreader : (clampReader .a s).reader .b = s.reader .b := clampReader_reader_other (by decide) s
    rw [clampReader_of_attached (by simpa [hreader] using hlt) (by rw [hreader]; exact hattached)]
    exact cutReader_raised

/-- Cutting a reader off changes nothing of the site line but the events. -/
theorem cutReader_sli (sd : Side) (st : ReaderState) (hold : HoldTimer) (report : Bool) (s : State) :
    ∃ ev, (cutReader sd st hold report s).sli = { s.sli with events := ev } := by
  simp only [cutReader]
  split
  · exact ⟨_, by simp only [raise, State.withEvents, abandonReaderSlot_frame, State.withReader_sli]; rfl⟩
  · exact ⟨s.sli.events, by simp⟩

theorem clampReader_sli (sd : Side) (s : State) : ∃ ev, (clampReader sd s).sli = { s.sli with events := ev } := by
  simp only [clampReader]
  split
  · split
    · exact cutReader_sli sd _ _ _ _
    · exact ⟨s.sli.events, rfl⟩
  · exact ⟨s.sli.events, rfl⟩

theorem clampReaders_sli (s : State) :
    ∃ ev, (clampReader .b (clampReader .a s)).sli = { s.sli with events := ev } := by
  obtain ⟨_, ha⟩ := clampReader_sli .a s
  obtain ⟨ev, hb⟩ := clampReader_sli .b (clampReader .a s)
  exact ⟨ev, by rw [hb, ha]⟩

/-! ### The request -/

theorem thresholdsOf_valid {margin reader site : Nat} (fa fb : Bool) (hmargin : margin ≤ 10000) (h1 : 1 ≤ reader)
    (h63 : reader ≤ 63) (hs1 : 1 ≤ site) (hs255 : site ≤ 255) :
    thresholdsOf margin reader site (flagNum fa) (flagNum fb) = some ⟨margin, reader, site, ⟨fa, fb⟩⟩ := by
  simp [thresholdsOf, flagOf_num, within_iff, hmargin, h1, h63, hs1, hs255]

theorem thresholdsOf_eq_none {margin reader site fa fb : Nat} (h : 10000 < margin ∨ reader = 0 ∨ 63 < reader ∨
    site = 0 ∨ 255 < site ∨ 1 < fa ∨ 1 < fb) : thresholdsOf margin reader site fa fb = none := by
  unfold thresholdsOf
  split
  · next ha hb =>
    refine if_neg ?_
    have hfa : ¬ 1 < fa := fun hlt => by cases (flagOf_eq_none hlt).symm.trans ha
    have hfb : ¬ 1 < fb := fun hlt => by cases (flagOf_eq_none hlt).symm.trans hb
    simp only [Bool.and_eq_true, within_iff]
    omega
  · rfl

/-- The state that an accepted SET_THRESHOLDS leaves before its reply. -/
def withThresholds (v : Thresholds) (s : State) : State :=
  clampReader .b (clampReader .a (clampSite (setCfg { s.cfg with thresholds := v } s)))

theorem withThresholds_line (v : Thresholds) (s : State) : (withThresholds v s).sli.line = s.sli.line ∧
    (withThresholds v s).sli.errors = min s.sli.errors v.site ∧
    (withThresholds v s).sli.overflow = s.sli.overflow := by
  obtain ⟨ev, h⟩ := clampReaders_sli (clampSite (setCfg { s.cfg with thresholds := v } s))
  rw [withThresholds, h]
  exact ⟨rfl, rfl, rfl⟩

theorem withThresholds_queues_config (v : Thresholds) (s : State) : Kind.config ∈ (withThresholds v s).nvs.queue := by
  simp [withThresholds, setCfg, requestWrite, mem_enqueueKind]

theorem withThresholds_clampedTo (v : Thresholds) (s : State) (sd : Side) :
    (s.reader sd).ClampedTo ((withThresholds v s).reader sd) v.reader :=
  clampReaders_clampedTo (clampSite (setCfg { s.cfg with thresholds := v } s)) sd

theorem withThresholds_raised {v : Thresholds} {s : State} {sd : Side} (hlt : v.reader < (s.reader sd).err)
    (hattached : (s.reader sd).state = .attached) : (withThresholds v s).raised (.readerOut sd) = true :=
  clampReaders_raised (s := clampSite (setCfg { s.cfg with thresholds := v } s)) hlt hattached

theorem withThresholds_frame (v : Thresholds) (s : State) :
    (withThresholds v s).cfg = { s.cfg with thresholds := v } ∧ (withThresholds v s).sides = s.sides ∧
    (withThresholds v s).ptu = s.ptu ∧ (withThresholds v s).sru = s.sru ∧ (withThresholds v s).stack = s.stack ∧
    (withThresholds v s).mci = s.mci ∧ (withThresholds v s).lines = s.lines ∧ (withThresholds v s).now = s.now ∧
    (withThresholds v s).psq = s.psq := by
  simp [withThresholds, setCfg, clampSite]

@[simp] theorem State.withReply_reader (s : State) (k : ReqKind) (r : Result) (d : List Byte) (sd : Side) :
    (s.withReply k r d).reader sd = s.reader sd := rfl

@[simp] theorem State.withReply_raised (s : State) (k : ReqKind) (r : Result) (d : List Byte) (e : Event) :
    (s.withReply k r d).raised e = s.raised e := rfl

@[simp] theorem beginWrite_reader (s : State) (sd : Side) : (beginWrite s).reader sd = s.reader sd := by
  simp [State.reader]

@[simp] theorem beginWrite_raised (s : State) (e : Event) : (beginWrite s).raised e = s.raised e := by
  simp [State.raised]

/-- The reply in waiting as the write begins. -/
theorem replied_tx (s : State) (k : ReqKind) (r : Result) (d : List Byte) :
    (beginWrite (s.withReply k r d)).sli.tx = .waiting (replyFrame s.sli.line.address k.port k.code r d) none := by
  simp [State.withReply]

/-- A CONFIG write that is asked for is in the queue, or it has begun with the configuration in force. -/
theorem config_queued_or_begun {s : State} (h : Kind.config ∈ s.nvs.queue) (k : ReqKind) (r : Result) (d : List Byte) :
    .config ∈ (beginWrite (s.withReply k r d)).nvs.queue ∨
    (beginWrite (s.withReply k r d)).nvs.job.map WriteJob.content =
      some (.config (beginWrite (s.withReply k r d)).cfg) := by
  simpa [takeContent] using beginWrite_queued_or_begun (s := s.withReply k r d) (by simpa using h)

/-- What `withThresholds` leaves, with the reply in waiting and the write queued or begun. -/
theorem exec_setThresholds_accepted {s : State} {margin reader site : Nat} {fa fb : Bool} (hs : s.Serves)
    (hmargin : margin ≤ 10000) (h1 : 1 ≤ reader) (h63 : reader ≤ 63) (hs1 : 1 ≤ site) (hs255 : site ≤ 255) :
    exec (.setThresholds .unicast margin reader site (flagNum fa) (flagNum fb)) s =
      .next (beginWrite ((withThresholds ⟨margin, reader, site, ⟨fa, fb⟩⟩ (confirmWake .unicast s)).withReply
        .setThresholds .ok [])) := by
  have howner : ownSetThresholds margin reader site (flagNum fa) (flagNum fb) (confirmWake .unicast s) =
      okay (withThresholds ⟨margin, reader, site, ⟨fa, fb⟩⟩ (confirmWake .unicast s)) := by
    rw [ownSetThresholds, thresholdsOf_valid fa fb hmargin h1 h63 hs1 hs255, orRefuse]
    rfl
  refine request_of_serves_queued hs (k := .setThresholds) rfl howner ?_ ?_ ?_
  · simp [withThresholds, confirmWake_mode]
  · exact (withThresholds_line _ _).1.trans (by simp)
  · exact List.ne_nil_of_mem (withThresholds_queues_config _ _)

/-- Settles O32: the refusals by the record of the fields; else what `withThresholds` leaves, read through the reply and
the start of the write. -/
theorem setThresholdsBringsCountersDown : Obligations.SetThresholdsBringsCountersDown := by
  refine ⟨fun s margin reader site fa fb hs h => ?badField,
    fun s margin reader site fa fb hs hmargin h1 h63 hs1 hs255 =>
      ⟨_, exec_setThresholds_accepted hs hmargin h1 h63 hs1 hs255, ?accepted⟩⟩
  case badField =>
    refine request_refused hs (k := .setThresholds) rfl ?_
    rw [ownSetThresholds, thresholdsOf_eq_none h, orRefuse]
  case accepted =>
    have hreader (sd : Side) : (confirmWake .unicast s).reader sd = s.reader sd := confirmWake_reader _ s sd
    obtain ⟨hcfg, hsides, hptu, hsru, hstack, hmci, hlines, hnow, -⟩ :=
      withThresholds_frame ⟨margin, reader, site, ⟨fa, fb⟩⟩ (confirmWake .unicast s)
    obtain ⟨hline, herrors, hoverflow⟩ := withThresholds_line ⟨margin, reader, site, ⟨fa, fb⟩⟩ (confirmWake .unicast s)
    have hclamped (sd : Side) : (s.reader sd).ClampedTo _ reader :=
      hreader sd ▸ withThresholds_clampedTo ⟨margin, reader, site, ⟨fa, fb⟩⟩ (confirmWake .unicast s) sd
    have hraised (sd : Side) (hlt : reader < (s.reader sd).err) (hattached : (s.reader sd).state = .attached) :=
      withThresholds_raised (v := ⟨margin, reader, site, ⟨fa, fb⟩⟩) (s := confirmWake .unicast s) (sd := sd)
        (by rwa [hreader]) (by rwa [hreader])
    refine ⟨by simp [hcfg], ?tx, config_queued_or_begun (withThresholds_queues_config _ _) _ _ _, ?errors, ?overflow, fun sd hle => ?kept, fun sd hlt => ?brought, ?frame⟩
    case tx =>
      rw [replied_tx, hline]
      simp [ReqKind.port, ReqKind.code]
    case errors => simpa [State.withReply] using herrors
    case overflow => simpa [State.withReply] using hoverflow
    case kept => simpa using (hclamped sd).1 hle
    case brought =>
      obtain ⟨herr, hquarantined, hstate⟩ := (hclamped sd).2 hlt
      simp only [beginWrite_reader, State.withReply_reader, beginWrite_raised, State.withReply_raised]
      refine ⟨herr, fun hattached => ?_, hstate⟩
      obtain ⟨hq, hup, hdown⟩ := hquarantined hattached
      exact ⟨hq, hup, hdown, hraised sd hlt hattached⟩
    case frame => simp [hsides, hptu, hsru, hstack, hmci, hlines, hnow]

end Sys2Proof.Machine
end

section

/-! ## SET_HOSE (R2, R38, R164) -/

namespace Sys2Proof.Machine

open Sys2Proof

/-! ### The fields of the record -/

theorem hoseOf_num (h : Hose) : hoseOf h.num = some h := by cases h <;> rfl

theorem positionOf_num (p : Position) : positionOf p.num = some p := by cases p <;> rfl

theorem meterOf_num (m : Meter) : meterOf m.num = some m := by cases m <;> rfl

theorem hoseOf_eq_none {v : Nat} (h : v = 0 ∨ 8 < v) : hoseOf v = none := by
  unfold hoseOf
  split
  case h_9 => rfl
  all_goals omega

theorem positionOf_eq_none {v : Nat} (h : v = 0 ∨ 4 < v) : positionOf v = none := by
  unfold positionOf
  split
  case h_5 => rfl
  all_goals omega

theorem secondaryOf_num (m : Option Meter) : secondaryOf (meterNum m) = some m := by
  cases m with
  | none => rfl
  | some m => cases m <;> rfl

theorem secondaryOf_eq_none {v : Nat} (h : 6 < v) : secondaryOf v = none := by
  rw [secondaryOf, if_neg (by omega), meterOf_eq_none (.inr h)]
  rfl

theorem secondaryOf_of_meterOf {v : Nat} {m : Meter} (h : meterOf v = some m) : secondaryOf v = some (some m) := by
  have hv : v ≠ 0 := by
    rintro rfl
    cases h
  rw [secondaryOf, if_neg hv, h]
  rfl

theorem hoseRecOf_num {q : HoseRec} (h : q.secondary ≠ some q.primary) :
    hoseRecOf 1 q.side.num q.position.num q.grade.num q.primary.num (meterNum q.secondary) = some (some q) := by
  simp [hoseRecOf, flagOf, sideOf_num, positionOf_num, gradeOf_num, meterOf_num, secondaryOf_num, h]

theorem hoseRecOf_unassigned (side p g m1 m2 : Nat) : hoseRecOf 0 side p g m1 m2 = some none := rfl

theorem hoseRecOf_eq_none {side p g m1 m2 : Nat} (h : side = 0 ∨ 2 < side ∨ p = 0 ∨ 4 < p ∨ g = 0 ∨ 8 < g ∨
    m1 = 0 ∨ 6 < m1 ∨ 6 < m2 ∨ m2 = m1) : hoseRecOf 1 side p g m1 m2 = none := by
  simp only [hoseRecOf, flagOf]
  split
  · next hside hposition hgrade hprimary hsecondary =>
    refine if_pos ?_
    by_cases hsame : m2 = m1
    · subst hsame
      exact Option.some.inj (hsecondary.symm.trans (secondaryOf_of_meterOf hprimary))
    · exfalso
      rcases h with h | h | h | h | h | h | h | h | h | h
      · cases (sideOf_eq_none (by omega) (by omega)).symm.trans hside
      · cases (sideOf_eq_none (by omega) (by omega)).symm.trans hside
      · cases (positionOf_eq_none (.inl h)).symm.trans hposition
      · cases (positionOf_eq_none (.inr h)).symm.trans hposition
      · cases (gradeOf_eq_none (.inl h)).symm.trans hgrade
      · cases (gradeOf_eq_none (.inr h)).symm.trans hgrade
      · cases (meterOf_eq_none (.inl h)).symm.trans hprimary
      · cases (meterOf_eq_none (.inr h)).symm.trans hprimary
      · cases (secondaryOf_eq_none h).symm.trans hsecondary
      · exact hsame h
  · rfl

/-! ### The checks of the map -/

theorem closedSide_iff (s : State) (sd : Side) : s.closedSide sd = true ↔ ∃ r, s.sideState sd = .closed r := by
  unfold State.closedSide
  cases s.sideState sd <;> simp

theorem concernedClosed_iff (s : State) (r : Option HoseRec) :
    concernedClosed s r = true ↔ ∀ q, r = some q → ∃ c, s.sideState q.side = .closed c := by
  cases r with
  | none => simp [concernedClosed]
  | some q => simp [concernedClosed, closedSide_iff]

theorem hoseRefusal_of_clash {s : State} {h : Hose} {q : HoseRec}
    (hclash : placeTaken s.cfg.hoses h q = true ∨ meterShared (s.cfg.hoses.set h (some q)) = true) :
    hoseRefusal s h (some q) = some .badField := by
  refine if_pos ?_
  rw [Bool.or_eq_true]
  exact hclash

/-- With checks 3 and 4 passed, the sides of the record as it stands and of the new one are to be CLOSED. -/
theorem hoseRefusal_of_free {s : State} {h : Hose} {r : Option HoseRec}
    (hplace : ∀ q, r = some q → placeTaken s.cfg.hoses h q = false)
    (hshared : meterShared (s.cfg.hoses.set h r) = false) :
    hoseRefusal s h r =
      if concernedClosed s (s.cfg.hoses.get h) && concernedClosed s r then none else some .state := by
  cases r with
  | none => simp [hoseRefusal, hshared]
  | some q => simp [hoseRefusal, hshared, hplace q rfl]

theorem hoseRefusal_of_closed {s : State} {h : Hose} {r : Option HoseRec}
    (hplace : ∀ q, r = some q → placeTaken s.cfg.hoses h q = false)
    (hshared : meterShared (s.cfg.hoses.set h r) = false)
    (hold : ∀ q, s.cfg.hoses.get h = some q → ∃ c, s.sideState q.side = .closed c)
    (hnew : ∀ q, r = some q → ∃ c, s.sideState q.side = .closed c) : hoseRefusal s h r = none := by
  rw [hoseRefusal_of_free hplace hshared, (concernedClosed_iff s _).2 hold, (concernedClosed_iff s _).2 hnew]
  rfl

theorem hoseRefusal_of_open {s : State} {h : Hose} {r : Option HoseRec}
    (hplace : ∀ q, r = some q → placeTaken s.cfg.hoses h q = false)
    (hshared : meterShared (s.cfg.hoses.set h r) = false) {q : HoseRec}
    (hq : s.cfg.hoses.get h = some q ∨ r = some q) (hopen : ∀ c, s.sideState q.side ≠ .closed c) :
    hoseRefusal s h r = some .state := by
  rw [hoseRefusal_of_free hplace hshared, if_neg]
  rw [Bool.and_eq_true, concernedClosed_iff, concernedClosed_iff]
  rintro ⟨hold, hnew⟩
  obtain ⟨c, hc⟩ := hq.elim (hold q) (hnew q)
  exact hopen c hc

/-! ### The lists of lifted hoses -/

theorem State.lifted_withLifted_other (s : State) {sd d : Side} (l : List Hose) (h : d ≠ sd) :
    (s.withLifted sd l).lifted d = s.lifted d := by
  simp [State.lifted, State.side, PerSide.get_set_ne _ _ h]

theorem leaveList_lifted (h : Hose) (old : Option Side) (s : State) (d : Side) :
    (leaveList h old s).lifted d = if old = some d then (s.lifted d).filter (· ≠ h) else s.lifted d := by
  cases old with
  | none => simp [leaveList]
  | some e =>
    by_cases hd : e = d
    · subst hd
      simp [leaveList]
    · simp [leaveList, hd, State.lifted_withLifted_other s _ (Ne.symm hd)]

theorem joinList_some (h : Hose) (d : Side) (s : State) :
    joinList h (some d) s = if s.lines.nozzle.get h then s.withLifted d (s.lifted d ++ [h]) else s := rfl

theorem joinList_lifted (h : Hose) (new : Option Side) (s : State) (d : Side) :
    (joinList h new s).lifted d =
      if new = some d ∧ s.lines.nozzle.get h = true then s.lifted d ++ [h] else s.lifted d := by
  cases new with
  | none => simp [joinList]
  | some e =>
    rw [joinList_some]
    by_cases hd : e = d
    · subst hd
      split <;> simp [*]
    · split <;> simp [hd, State.lifted_withLifted_other s _ (Ne.symm hd)]

theorem moveLifted_of_eq {h : Hose} {old new : Option Side} {s : State} (heq : old = new) :
    moveLifted h old new s = s :=
  if_pos heq

/-- A hose that changes side leaves the list of the old side and joins the list of the new one (R38). -/
theorem moveLifted_lifted {h : Hose} {old new : Option Side} (hne : old ≠ new) (s : State) (d : Side) :
    (moveLifted h old new s).lifted d =
      if new = some d ∧ s.lines.nozzle.get h = true then s.lifted d ++ [h]
      else if old = some d then (s.lifted d).filter (· ≠ h) else s.lifted d := by
  rw [moveLifted, if_neg hne, joinList_lifted, leaveList_lifted, (leaveList_frame h old s).2.2.2.2.1]
  by_cases hnew : new = some d
  · have hold : old ≠ some d := fun heq => hne (heq.trans hnew.symm)
    simp [hold]
  · simp [hnew]

theorem leaveList_sideState (h : Hose) (old : Option Side) (s : State) (d : Side) :
    (leaveList h old s).sideState d = s.sideState d := by
  cases old <;> simp [leaveList]

theorem joinList_sideState (h : Hose) (new : Option Side) (s : State) (d : Side) :
    (joinList h new s).sideState d = s.sideState d := by
  cases new with
  | none => rfl
  | some e =>
    rw [joinList_some]
    split
    · exact State.sideState_withLifted s e d _
    · rfl

theorem moveLifted_sideState (h : Hose) (old new : Option Side) (s : State) (d : Side) :
    (moveLifted h old new s).sideState d = s.sideState d := by
  unfold moveLifted
  split
  · rfl
  · rw [joinList_sideState, leaveList_sideState]

theorem setCfg_side (c : Cfg) (s : State) (d : Side) : (setCfg c s).side d = s.side d := rfl

/-! ### What an accepted SET_HOSE leaves -/

section
variable (h : Hose) (r : Option HoseRec) (s : State)

theorem setHose_cfg : (setHose h r s).cfg = { s.cfg with hoses := s.cfg.hoses.set h r } := by
  simp [setHose, setCfg]

theorem setHose_queues_config : Kind.config ∈ (setHose h r s).nvs.queue := by
  simp [setHose, setCfg, requestWrite, mem_enqueueKind]

theorem setHose_channel (m : Meter) : (setHose h r s).channel m =
    if owningSide s.cfg.hoses m = owningSide (s.cfg.hoses.set h r) m then s.channel m
    else { s.channel m with stray := 0, strayTold := false } := by
  simp [setHose, setCfg, resetMoved, State.channel, Channel.strayReset]

theorem setHose_lifted (d : Side) : (setHose h r s).lifted d =
    (moveLifted h (hoseSide s.cfg.hoses h) (r.map HoseRec.side)
      (setCfg { s.cfg with hoses := s.cfg.hoses.set h r } s)).lifted d := rfl

theorem setHose_sideState (d : Side) : (setHose h r s).sideState d = s.sideState d :=
  moveLifted_sideState _ _ _ _ d

theorem setHose_panel (d : Side) : (setHose h r s).lbc.panels.get d = formPanel (setHose h r s) d :=
  handPanels_panel _ d

end

theorem setHose_sides_of_eq {h : Hose} {r : Option HoseRec} {s : State}
    (heq : hoseSide s.cfg.hoses h = r.map HoseRec.side) : (setHose h r s).sides = s.sides := by
  simp [setHose, moveLifted_of_eq heq]

/-! ### The request -/

theorem hoseRefusal_confirmWake (m : AddrMode) (s : State) (h : Hose) (r : Option HoseRec) :
    hoseRefusal (confirmWake m s) h r = hoseRefusal s h r := by
  unfold confirmWake
  split <;> rfl

section
variable {s : State} {h : Hose} {r : Option HoseRec} {assigned side position grade primary secondary : Nat}

theorem exec_setHose_accepted (hs : s.Serves)
    (hrec : hoseRecOf assigned side position grade primary secondary = some r) (hnone : hoseRefusal s h r = none) :
    exec (.setHose .unicast h.num assigned side position grade primary secondary) s =
      .next (beginWrite ((setHose h r (confirmWake .unicast s)).withReply .setHose .ok [])) := by
  have howner : ownSetHose h.num assigned side position grade primary secondary (confirmWake .unicast s) =
      okay (setHose h r (confirmWake .unicast s)) := by
    simp only [ownSetHose, hoseOf_num, hrec, orRefuse, hoseRefusal_confirmWake, hnone]
  exact request_of_serves_queued hs rfl howner (by simp [confirmWake_mode]) (by simp)
    (List.ne_nil_of_mem (setHose_queues_config h r _))

theorem exec_setHose_refused (hs : s.Serves)
    (hrec : hoseRecOf assigned side position grade primary secondary = some r) {e : Result}
    (hrefusal : hoseRefusal s h r = some e) :
    exec (.setHose .unicast h.num assigned side position grade primary secondary) s =
      .next (s.answeredWith .setHose e []) := by
  refine request_refused hs (k := .setHose) rfl ?_
  simp only [ownSetHose, hoseOf_num, hrec, orRefuse, hoseRefusal_confirmWake, hrefusal]

end

/-- What an accepted SET_HOSE leaves of the state, but for the lists of lifted hoses: read through the reply and the
start of the CONFIG write. -/
theorem hoseSet_after_event (h : Hose) (r : Option HoseRec) (s : State) :
    let t := beginWrite ((setHose h r (confirmWake .unicast s)).withReply .setHose .ok [])
    t.cfg = { s.cfg with hoses := s.cfg.hoses.set h r } ∧
    t.sli.tx = .waiting (replyFrame s.sli.line.address 3 0x23 .ok []) none ∧
    (.config ∈ t.nvs.queue ∨ t.nvs.job.map WriteJob.content = some (.config t.cfg)) ∧
    (∀ m, owningSide s.cfg.hoses m = owningSide t.cfg.hoses m → t.channel m = s.channel m) ∧
    (∀ m, owningSide s.cfg.hoses m ≠ owningSide t.cfg.hoses m →
      t.channel m = { s.channel m with stray := 0, strayTold := false }) ∧
    (∀ sd, t.sideState sd = s.sideState sd ∧ t.lbc.panels.get sd = formPanel t sd) ∧
    t.ptu = s.ptu ∧ t.sru = s.sru ∧ t.stack = s.stack ∧ t.riu = s.riu ∧ t.lines = s.lines ∧ t.now = s.now := by
  have hcfg := setHose_cfg h r (confirmWake .unicast s)
  have hchannel := setHose_channel h r (confirmWake .unicast s)
  rw [confirmWake_cfg] at hcfg hchannel
  have hafter : (beginWrite ((setHose h r (confirmWake .unicast s)).withReply .setHose .ok [])).cfg =
      { s.cfg with hoses := s.cfg.hoses.set h r } := by simp [hcfg]
  refine ⟨hafter, ?tx, config_queued_or_begun (setHose_queues_config _ _ _) _ _ _, fun m hm => ?kept,
    fun m hm => ?reset, fun sd => ⟨?state, ?panel⟩, by simp⟩
  case tx =>
    rw [replied_tx]
    simp [ReqKind.port, ReqKind.code]
  case kept =>
    simp only [hafter] at hm
    simp [hchannel, hm]
  case reset =>
    simp only [hafter] at hm
    simp [hchannel, hm]
  case state => simpa [State.sideState] using setHose_sideState h r (confirmWake .unicast s) sd
  case panel =>
    have hpanel := setHose_panel h r (confirmWake .unicast s) sd
    rw [formPanel_congr (s := setHose h r (confirmWake .unicast s)) sd (by simp [State.sideState]) (by simp) (by simp)]
    simpa using hpanel

/-- The lists of lifted hoses that an accepted SET_HOSE leaves. -/
theorem hoseSet_lifted {h : Hose} {r : Option HoseRec} {s : State}
    (hne : hoseSide s.cfg.hoses h ≠ r.map HoseRec.side) (d : Side) :
    (beginWrite ((setHose h r (confirmWake .unicast s)).withReply .setHose .ok [])).lifted d =
      if r.map HoseRec.side = some d ∧ s.lines.nozzle.get h = true then s.lifted d ++ [h]
      else if hoseSide s.cfg.hoses h = some d then (s.lifted d).filter (· ≠ h) else s.lifted d := by
  have hlists (c : Cfg) : (setCfg c (confirmWake .unicast s)).lifted d = s.lifted d := by
    rw [State.lifted, setCfg_side, confirmWake_side, ← State.lifted]
  have hlines (c : Cfg) : (setCfg c (confirmWake .unicast s)).lines = s.lines := by simp
  rw [State.lifted, beginWrite_side, State.withReply_side, ← State.lifted, setHose_lifted, confirmWake_cfg,
    moveLifted_lifted hne, hlists, hlines]

theorem hoseSet_sides {h : Hose} {r : Option HoseRec} {s : State}
    (heq : hoseSide s.cfg.hoses h = r.map HoseRec.side) :
    (beginWrite ((setHose h r (confirmWake .unicast s)).withReply .setHose .ok [])).sides = s.sides := by
  have hkept := setHose_sides_of_eq (h := h) (r := r) (s := confirmWake .unicast s) (by rwa [confirmWake_cfg])
  simp [hkept]

theorem hoseSide_of_get {map : PerHose (Option HoseRec)} {h : Hose} {q : HoseRec} (hq : map.get h = some q) :
    hoseSide map h = some q.side := by
  rw [hoseSide, hq, Option.map_some]

theorem hoseSide_of_none {map : PerHose (Option HoseRec)} {h : Hose} (hq : map.get h = none) :
    hoseSide map h = none := by
  rw [hoseSide, hq, Option.map_none]

theorem side_other_ne (sd : Side) : sd.other ≠ sd := by cases sd <;> decide

/-- Settles O33: the checks by their record, and what `setHose` leaves where they pass. -/
theorem setHoseReplacesOneRecord : Obligations.SetHoseReplacesOneRecord := by
  refine ⟨fun s h q hs hmeters hplace hshared hnew hold => ?assigned,
    fun s h hs => ⟨fun v assigned side p g m1 m2 hv => ?badHose, fun side p g m1 m2 hbad => ?badField,
      fun q hmeters hclash => ?clash, fun q hmeters hplace hshared hopen => ?openSide⟩,
    fun s h side p g m1 m2 hs hshared => ⟨fun hold => ?unassigned, fun q hq hopen => ?unassignedOpen⟩⟩
  case assigned =>
    have hrefusal := hoseRefusal_of_closed (r := some q)
      (fun _ hp => by cases hp; exact hplace) hshared hold (fun _ hp => by cases hp; exact hnew)
    refine ⟨_, exec_setHose_accepted hs (hoseRecOf_num hmeters) hrefusal, ?_⟩
    obtain ⟨hcfg, htx, hconfig, hkept, hreset, hstate, hrest⟩ := hoseSet_after_event h (some q) s
    refine ⟨hcfg, hkept, hreset, htx, hconfig, hoseSet_sides (r := some q), fun hside => ?joins, fun p hp hne => ?leaves,
      fun hnone => ?other, hstate, hrest⟩
    case joins =>
      rw [hoseSet_lifted (r := some q) hside]
      simp [hside]
    case leaves =>
      have hside := hoseSide_of_get hp
      rw [hoseSet_lifted (by simp [hside, hne])]
      simp [hside, hne.symm]
    case other =>
      have hside := hoseSide_of_none hnone
      rw [hoseSet_lifted (by simp [hside])]
      simp [hside, (side_other_ne q.side).symm]
  case badHose =>
    refine request_refused hs (k := .setHose) rfl ?_
    rw [ownSetHose, hoseOf_eq_none hv, orRefuse]
  case badField =>
    refine request_refused hs (k := .setHose) rfl ?_
    rw [ownSetHose, hoseOf_num, orRefuse, hoseRecOf_eq_none hbad, orRefuse]
  case clash => exact exec_setHose_refused hs (hoseRecOf_num hmeters) (hoseRefusal_of_clash hclash)
  case openSide =>
    have hplace' : ∀ p, some q = some p → placeTaken s.cfg.hoses h p = false := fun _ hp => by cases hp; exact hplace
    refine exec_setHose_refused hs (hoseRecOf_num hmeters) ?_
    rcases hopen with hopen | ⟨p, hp, hopen⟩
    · exact hoseRefusal_of_open hplace' hshared (.inr rfl) hopen
    · exact hoseRefusal_of_open hplace' hshared (.inl hp) hopen
  case unassigned =>
    have hrefusal := hoseRefusal_of_closed (r := none) (fun _ hp => by cases hp) hshared hold (fun _ hp => by cases hp)
    refine ⟨_, exec_setHose_accepted hs (hoseRecOf_unassigned side p g m1 m2) hrefusal, ?_⟩
    obtain ⟨hcfg, htx, hconfig, hkept, hreset, hstate, hrest⟩ := hoseSet_after_event h none s
    refine ⟨hcfg, htx, hconfig, fun q hq => ?unlisted, fun hnone => hoseSet_sides (r := none) (hoseSide_of_none hnone),
      hkept, hreset, hstate, hrest⟩
    have hside := hoseSide_of_get hq
    rw [hoseSet_lifted (by simp [hside]), hoseSet_lifted (by simp [hside])]
    simp [hside, (side_other_ne q.side).symm]
  case unassignedOpen =>
    exact exec_setHose_refused hs (hoseRecOf_unassigned side p g m1 m2)
      (hoseRefusal_of_open (fun _ hp => by cases hp) hshared (.inl hq) hopen)

end Sys2Proof.Machine
end

section

/-! ## SET_METER and SET_SCALE (R1, R3, R20, R82, R165) -/

namespace Sys2Proof.Machine

open Sys2Proof

/-! ### SET_METER -/

theorem meterModeOf_num (md : MeterMode) : meterModeOf md.num = some md := by cases md <;> rfl

theorem meterModeOf_eq_none {v : Nat} (h : 1 < v) : meterModeOf v = none := by
  unfold meterModeOf
  split
  case h_3 => rfl
  all_goals omega

/-- The numbers of a meter record in their ranges (Table 1.1). -/
def MeterFieldsOk (k : Nat) (trim : Int) (ra sa fmax : Nat) : Prop :=
  (10 ≤ k ∧ k ≤ 5000) ∧ (-500 ≤ trim ∧ trim ≤ 500) ∧ ra ≤ 255 ∧ sa ≤ 255 ∧ (1 ≤ fmax ∧ fmax ≤ 10000)

theorem meterFields_iff (k : Nat) (trim : Int) (ra sa fmax : Nat) :
    (within 10 5000 k && decide (-500 ≤ trim) && decide (trim ≤ 500) && within 0 255 ra && within 0 255 sa &&
      within 1 10000 fmax) = true ↔ MeterFieldsOk k trim ra sa fmax := by
  simp only [MeterFieldsOk, Bool.and_eq_true, within_iff, decide_eq_true_eq]
  omega

theorem meterConfigOf_valid (md : MeterMode) {k : Nat} {trim : Int} {ra sa fmax : Nat}
    (h : MeterFieldsOk k trim ra sa fmax) :
    meterConfigOf md.num k trim ra sa fmax = some ⟨md, k, trim, ra, sa, fmax⟩ := by
  rw [meterConfigOf, meterModeOf_num]
  exact if_pos ((meterFields_iff k trim ra sa fmax).2 h)

theorem meterConfigOf_eq_none {w k : Nat} {trim : Int} {ra sa fmax : Nat}
    (h : 1 < w ∨ ¬ MeterFieldsOk k trim ra sa fmax) : meterConfigOf w k trim ra sa fmax = none := by
  rw [← meterFields_iff] at h
  unfold meterConfigOf
  split
  · next hmode =>
    rcases h with h | h
    · cases (meterModeOf_eq_none h).symm.trans hmode
    · exact if_neg h
  · rfl

theorem ownerClosed_iff (s : State) (m : Meter) :
    ownerClosed s m = true ↔ ∀ sd, owningSide s.cfg.hoses m = some sd → ∃ r, s.sideState sd = .closed r := by
  unfold ownerClosed
  split
  · next sd h => simp [closedSide_iff, h]
  · next h => simp [h]

theorem ownerClosed_confirmWake (m : AddrMode) (s : State) (mt : Meter) :
    ownerClosed (confirmWake m s) mt = ownerClosed s mt := by
  unfold confirmWake
  split <;> rfl

section
variable {s : State} {m : Meter} {md : MeterMode} {k : Nat} {trim : Int} {ra sa fmax : Nat}

theorem ownSetMeter_num (h : MeterFieldsOk k trim ra sa fmax) (s : State) :
    ownSetMeter m.num md.num k trim ra sa fmax s =
      if ownerClosed s m then okay (setMeter m ⟨md, k, trim, ra, sa, fmax⟩ s) else refuse .state s := by
  rw [ownSetMeter, meterOf_num, orRefuse, meterConfigOf_valid md h, orRefuse]

theorem setMeter_same_mode {c : MeterConfig} (h : c.mode = (s.cfg.meters.get m).mode) :
    setMeter m c s = setCfg { s.cfg with meters := s.cfg.meters.set m c } s :=
  if_pos h

theorem setMeter_new_mode {c : MeterConfig} (h : c.mode ≠ (s.cfg.meters.get m).mode) :
    setMeter m c s = requestWrite .config { s with
      cfg := { s.cfg with meters := s.cfg.meters.set m c }
      mci := s.mci.set m { s.channel m with reference := none } } :=
  if_neg h

end

theorem setMeter_settled (s : State) (m : Meter) (md : MeterMode) (k : Nat) (trim : Int) (ra sa fmax : Nat)
    (hs : s.Serves) (hfields : MeterFieldsOk k trim ra sa fmax)
    (hclosed : ∀ sd, owningSide s.cfg.hoses m = some sd → ∃ r, s.sideState sd = .closed r) :
    (md = (s.cfg.meters.get m).mode →
      exec (.setMeter .unicast m.num md.num k trim ra sa fmax) s =
        .next (beginWrite ((requestWrite .config { confirmWake .unicast s with
          cfg := { s.cfg with meters := s.cfg.meters.set m ⟨md, k, trim, ra, sa, fmax⟩ } }).withReply
            .setMeter .ok []))) ∧
    (md ≠ (s.cfg.meters.get m).mode →
      exec (.setMeter .unicast m.num md.num k trim ra sa fmax) s =
        .next (beginWrite ((requestWrite .config { confirmWake .unicast s with
          cfg := { s.cfg with meters := s.cfg.meters.set m ⟨md, k, trim, ra, sa, fmax⟩ }
          mci := s.mci.set m { s.channel m with reference := none } }).withReply .setMeter .ok []))) := by
  have hcfg := confirmWake_cfg .unicast s
  have hown := ownSetMeter_num (m := m) (md := md) hfields (confirmWake .unicast s)
  rw [ownerClosed_confirmWake, if_pos ((ownerClosed_iff s m).2 hclosed)] at hown
  refine ⟨fun hmode => ?_, fun hmode => ?_⟩
  · rw [setMeter_same_mode (by rwa [hcfg]), hcfg] at hown
    exact setting_accepted hs (k := .setMeter) hown
  · have hmci : (confirmWake .unicast s).mci = s.mci := by simp
    rw [setMeter_new_mode (by rwa [hcfg]), hcfg, confirmWake_channel, hmci] at hown
    exact request_of_serves_queued hs (k := .setMeter) rfl hown (by simp [confirmWake_mode]) (by simp)
      (requestWrite_queue_ne _ _)

/-! ### SET_SCALE -/

theorem roundingOf_num (r : Rounding) : roundingOf r.num = some r := by cases r <;> rfl

theorem roundingOf_eq_none {v : Nat} (h : 1 < v) : roundingOf v = none := by
  unfold roundingOf
  split
  case h_3 => rfl
  all_goals omega

theorem scaleOf_valid {dv dp da : Nat} (r : Rounding) (h : (dv = 2 ∨ dv = 3) ∧ dp ≤ 3 ∧ da ≤ 3 ∧ da ≤ dv + dp) :
    scaleOf dv dp da r.num = some ⟨dv, dp, da, r⟩ := by
  rw [scaleOf, roundingOf_num]
  exact if_pos h

theorem scaleOf_eq_none {dv dp da w : Nat}
    (h : (dv ≠ 2 ∧ dv ≠ 3) ∨ 3 < dp ∨ 3 < da ∨ dv + dp < da ∨ 1 < w) : scaleOf dv dp da w = none := by
  unfold scaleOf
  split
  · next hr =>
    refine if_neg ?_
    have hw : ¬ 1 < w := fun hlt => by cases (roundingOf_eq_none hlt).symm.trans hr
    omega
  · rfl

theorem scaleUnlocked_iff (s : State) : scaleUnlocked s = true ↔
    (∀ sd, (∃ c, s.sideState sd = .closed c) ∧ s.stack.get sd = []) := by
  simp only [scaleUnlocked, Bool.and_eq_true, closedSide_iff, List.isEmpty_iff]
  constructor
  · rintro ⟨⟨⟨ha, hb⟩, ha'⟩, hb'⟩ sd
    cases sd
    · exact ⟨ha, ha'⟩
    · exact ⟨hb, hb'⟩
  · intro h
    exact ⟨⟨⟨(h .a).1, (h .b).1⟩, (h .a).2⟩, (h .b).2⟩

theorem scaleUnlocked_confirmWake (m : AddrMode) (s : State) : scaleUnlocked (confirmWake m s) = scaleUnlocked s := by
  unfold confirmWake
  split <;> rfl

theorem ownSetScale_valid {dv dp da : Nat} {r : Rounding} (h : (dv = 2 ∨ dv = 3) ∧ dp ≤ 3 ∧ da ≤ 3 ∧ da ≤ dv + dp)
    (s : State) : ownSetScale dv dp da r.num s =
      if scaleUnlocked s then okay (handPanels (setCfg { s.cfg with scale := ⟨dv, dp, da, r⟩ } s))
      else refuse .state s := by
  rw [ownSetScale, scaleOf_valid r h, orRefuse]

/-- Settles O34: the records of the fields, and the sides they need CLOSED. -/
theorem setMeterAndSetScaleNeedClosedSides : Obligations.SetMeterAndSetScaleNeedClosedSides := by
  refine ⟨fun s m md k trim ra sa fmax hs => ⟨fun hfields => ⟨setMeter_settled s m md k trim ra sa fmax hs hfields,
      fun sd hsd hopen => ?openMeter⟩, fun v w hbad => ?badMeter⟩,
    fun s dv dp da r hs => ⟨fun hfields => ⟨fun ha hb ha' hb' => ?scale, fun hopen => ?openScale⟩, fun w hbad => ?badScale⟩⟩
  case openMeter =>
    refine request_refused hs (k := .setMeter) rfl ?_
    rw [ownSetMeter_num hfields, ownerClosed_confirmWake, if_neg]
    rw [ownerClosed_iff]
    intro h
    obtain ⟨r, hr⟩ := h sd hsd
    exact hopen r hr
  case badMeter =>
    refine request_refused hs (k := .setMeter) rfl ?_
    unfold ownSetMeter
    cases hmeter : meterOf v with
    | none => rfl
    | some m =>
      have hv : ¬ (v = 0 ∨ 6 < v) := fun h => by cases (meterOf_eq_none h).symm.trans hmeter
      rw [orRefuse, meterConfigOf_eq_none, orRefuse]
      rw [MeterFieldsOk]
      omega
  case scale =>
    have hunlocked : scaleUnlocked s = true := (scaleUnlocked_iff s).2 fun sd => by
      cases sd
      · exact ⟨ha, ha'⟩
      · exact ⟨hb, hb'⟩
    have hown := ownSetScale_valid (r := r) hfields (confirmWake .unicast s)
    rw [scaleUnlocked_confirmWake, if_pos hunlocked, confirmWake_cfg] at hown
    exact request_of_serves_queued hs (k := .setScale) rfl hown (by simp [confirmWake_mode]) (by simp)
      (requestWrite_queue_ne _ _)
  case openScale =>
    refine request_refused hs (k := .setScale) rfl ?_
    rw [ownSetScale_valid hfields, scaleUnlocked_confirmWake, if_neg]
    rw [scaleUnlocked_iff]
    intro h
    obtain ⟨sd, hsd⟩ := hopen
    obtain ⟨⟨c, hc⟩, hstack⟩ := h sd
    exact hsd.elim (fun hnot => hnot c hc) fun hne => hne hstack
  case badScale =>
    refine request_refused hs (k := .setScale) rfl ?_
    rw [ownSetScale, scaleOf_eq_none hbad, orRefuse]

end Sys2Proof.Machine
end

section

/-! ## SET_ROUTE and CLEAR_ROUTE (R123) -/

namespace Sys2Proof.Machine

open Sys2Proof

theorem sourceOf_num (r : RouteSource) : sourceOf r.num = some r := by
  cases r with
  | site sd => cases sd <;> rfl
  | reader sd => cases sd <;> rfl

theorem actionOf_num (a : RouteAction) : actionOf a.num = some a := by cases a <;> rfl

theorem sourceOf_eq_none {v : Nat} (h : v = 0 ∨ 4 < v) : sourceOf v = none := by
  unfold sourceOf
  split
  case h_5 => rfl
  all_goals omega

theorem actionOf_eq_none {v : Nat} (h : v = 0 ∨ 4 < v) : actionOf v = none := by
  unfold actionOf
  split
  case h_5 => rfl
  all_goals omega

theorem isSite_of_sourceOf {v : Nat} {r : RouteSource} (h : sourceOf v = some r) (hv : v ≤ 2) : r.isSite = true := by
  unfold sourceOf at h
  split at h
  case h_1 => cases h; rfl
  case h_2 => cases h; rfl
  case h_5 => cases h
  all_goals omega

theorem supervisor_of_actionOf {a : RouteAction} (h : actionOf 2 = some a) : a = .supervisor := by
  cases h
  rfl

theorem rangeHasOwn_iff (low : Nat) : rangeHasOwn low = true ↔ low ≤ 3 := decide_eq_true_iff

theorem routeRowOf_num {r : RouteRow} (hrange : r.low ≤ r.high) (hhigh : r.high ≤ 255) (h1 : 1 ≤ r.maxLen)
    (h96 : r.maxLen ≤ 96) (hsite : r.source.isSite = true → r.action ≠ .supervisor ∧ 4 ≤ r.low) :
    routeRowOf (flagNum r.inUse) r.source.num r.low r.high r.maxLen r.action.num = some r := by
  rw [routeRowOf, flagOf_num, sourceOf_num, actionOf_num]
  refine if_pos ⟨hrange, hhigh, (within_iff _ _ _).2 ⟨h1, h96⟩, ?_⟩
  rintro ⟨his, hbad⟩
  obtain ⟨haction, hlow⟩ := hsite his
  rw [rangeHasOwn_iff] at hbad
  exact hbad.elim haction fun hle => by omega

theorem routeRowOf_eq_none {use src low high maxLen act : Nat} (h : 1 < use ∨ src = 0 ∨ 4 < src ∨ act = 0 ∨ 4 < act ∨
    high < low ∨ 255 < high ∨ maxLen = 0 ∨ 96 < maxLen ∨ (src ≤ 2 ∧ (act = 2 ∨ low ≤ 3))) :
    routeRowOf use src low high maxLen act = none := by
  unfold routeRowOf
  split
  · next u source action huse hsource haction =>
    refine if_neg ?_
    rintro ⟨hrange, hhigh, hlen, hown⟩
    have hlen' : 1 ≤ maxLen ∧ maxLen ≤ 96 := (within_iff _ _ _).1 hlen
    rcases h with h | h | h | h | h | h | h | h | h | ⟨hsite, h⟩
    · cases (flagOf_eq_none h).symm.trans huse
    · cases (sourceOf_eq_none (.inl h)).symm.trans hsource
    · cases (sourceOf_eq_none (.inr h)).symm.trans hsource
    · cases (actionOf_eq_none (.inl h)).symm.trans haction
    · cases (actionOf_eq_none (.inr h)).symm.trans haction
    · omega
    · omega
    · omega
    · omega
    · refine hown ⟨isSite_of_sourceOf hsource hsite, ?_⟩
      rcases h with h | h
      · exact .inl (supervisor_of_actionOf (h ▸ haction))
      · exact .inr ((rangeHasOwn_iff low).2 h)
  · rfl

theorem routeAt_of_get {s : State} {n : Nat} {old : RouteRow} (h : s.cfg.routes[n]? = some old) : routeAt s n = old := by
  rw [routeAt, List.getD_eq_getElem?_getD, h, Option.getD_some]

theorem rowLocked_confirmWake (m : AddrMode) (s : State) (r : RouteRow) :
    rowLocked (confirmWake m s) r = rowLocked s r := by
  unfold confirmWake
  split <;> rfl

theorem routeAt_confirmWake (m : AddrMode) (s : State) (n : Nat) : routeAt (confirmWake m s) n = routeAt s n := by
  unfold confirmWake
  split <;> rfl

theorem setRow_accepted {s : State} (hs : s.Serves) {k : ReqKind} {owner : State → Answered} {n : Nat} {r : RouteRow}
    (howner : owner (confirmWake .unicast s) = okay (setRow n r (confirmWake .unicast s))) :
    request .unicast k owner s = .next (beginWrite ((requestWrite .config { confirmWake .unicast s with
      cfg := { s.cfg with routes := s.cfg.routes.set n r } }).withReply k .ok [])) := by
  rw [setRow, confirmWake_cfg] at howner
  exact setting_accepted hs howner

section
variable {s : State} {n : Nat} {old : RouteRow}

theorem ownSetRoute_of_row {use src low high maxLen act : Nat} {r : RouteRow} (hn : n < 24)
    (hold : s.cfg.routes[n]? = some old) (hrow : routeRowOf use src low high maxLen act = some r) :
    ownSetRoute (n + 1) use src low high maxLen act (confirmWake .unicast s) =
      if (old.inUse && rowLocked s old) || rowLocked s r then refuse .readerActive (confirmWake .unicast s)
      else okay (setRow n r (confirmWake .unicast s)) := by
  rw [ownSetRoute, rowIndex_succ hn, orRefuse, hrow, orRefuse, routeAt_confirmWake, routeAt_of_get hold,
    rowLocked_confirmWake, rowLocked_confirmWake]

theorem ownClearRoute_of_row (hn : n < 24) (hold : s.cfg.routes[n]? = some old) :
    ownClearRoute (n + 1) (confirmWake .unicast s) =
      if old.inUse = false then okay (confirmWake .unicast s)
      else if rowLocked s old then refuse .readerActive (confirmWake .unicast s)
      else okay (setRow n { old with inUse := false } (confirmWake .unicast s)) := by
  rw [ownClearRoute, rowIndex_succ hn, orRefuse, routeAt_confirmWake, routeAt_of_get hold, rowLocked_confirmWake]

end

/-- Settles O35: the row of the fields, then the lock of the readers of the old and the new row. -/
theorem routeRowsAreLockedByLiveReaders : Obligations.RouteRowsAreLockedByLiveReaders := by
  intro s n old hs hn hold
  refine ⟨fun r hrange hhigh h1 h96 hsite => ⟨fun holdFree hnewFree => ?set, fun hlocked => ?locked⟩,
    fun row use src low high maxLen act hbad => ?badSet, fun hinUse hfree => ?clear, fun hinUse hlive => ?clearLocked,
    fun hclear => ?clearClear, fun row hrow => ?badClear⟩
  case set =>
    refine setRow_accepted hs (k := .setRoute) ?_
    rw [ownSetRoute_of_row hn hold (routeRowOf_num hrange hhigh h1 h96 hsite), if_neg]
    simpa [rowLocked, hnewFree] using holdFree
  case locked =>
    refine request_refused hs (k := .setRoute) rfl ?_
    rw [ownSetRoute_of_row hn hold (routeRowOf_num hrange hhigh h1 h96 hsite), if_pos]
    simpa [rowLocked] using hlocked
  case badSet =>
    refine request_refused hs (k := .setRoute) rfl ?_
    unfold ownSetRoute
    cases hindex : rowIndex row with
    | none => rfl
    | some i =>
      have hrow : ¬ (row = 0 ∨ 24 < row) := fun h => by cases (rowIndex_eq_none h).symm.trans hindex
      rw [orRefuse, routeRowOf_eq_none (by omega), orRefuse]
  case clear =>
    refine setRow_accepted hs (k := .clearRoute) ?_
    rw [ownClearRoute_of_row hn hold, if_neg (by simp [hinUse]), if_neg (by simp [rowLocked, hfree])]
  case clearLocked =>
    refine request_refused hs (k := .clearRoute) rfl ?_
    rw [ownClearRoute_of_row hn hold, if_neg (by simp [hinUse]), if_pos (by simpa [rowLocked] using hlive)]
  case clearClear =>
    refine request_of_serves_unchanged hs (k := .clearRoute) rfl ?_
    rw [ownClearRoute_of_row hn hold, if_pos hclear]
  case badClear =>
    refine request_refused hs (k := .clearRoute) rfl ?_
    rw [ownClearRoute, rowIndex_eq_none hrow, orRefuse]

end Sys2Proof.Machine
end

section

/-! ## The entry to CLOSED, CLOSE_SIDE and RESTART (R60, R61, R170) -/

namespace Sys2Proof.Machine

open Sys2Proof

/-! ### The side-open flag -/

theorem sideOpen_set_of_clear {c : Cfg} {sd : Side} (h : c.sideOpen.get sd = false) :
    { c with sideOpen := c.sideOpen.set sd false } = c := by
  rw [← h, PerSide.set_get_same]

theorem clearSideOpen_cfg (sd : Side) (s : State) :
    (clearSideOpen sd s).cfg = { s.cfg with sideOpen := s.cfg.sideOpen.set sd false } := by
  rcases clearSideOpen_cases sd s with ⟨hclear, h⟩ | ⟨-, h⟩ <;> rw [h]
  · exact (sideOpen_set_of_clear hclear).symm
  · simp

theorem clearSideOpen_of_clear {sd : Side} {s : State} (h : s.cfg.sideOpen.get sd = false) :
    clearSideOpen sd s = s := by
  simp [clearSideOpen, h]

theorem clearSideOpen_nvs_of_set {sd : Side} {s : State} (h : s.cfg.sideOpen.get sd = true) :
    (clearSideOpen sd s).nvs = (requestWrite .config s).nvs := by
  rw [clearSideOpen, if_pos h]
  rfl

theorem clearSideOpen_sideState (sd d : Side) (s : State) : (clearSideOpen sd s).sideState d = s.sideState d := by
  simp [State.sideState, State.side]

theorem requestWrite_mem (k : Kind) (s : State) : k ∈ (requestWrite k s).nvs.queue := by
  simp [requestWrite, mem_enqueueKind]

/-! ### The entry to CLOSED -/

section
variable (sd : Side) (reason : ClosedReason) (s : State)

theorem enterClosed_sides : (enterClosed sd reason s).sides = (s.withSideState sd (.closed reason)).sides := by
  simp only [enterClosed]
  split <;> simp

theorem enterClosed_sideState : (enterClosed sd reason s).sideState sd = .closed reason := by
  simp [State.sideState, State.side, enterClosed_sides]

theorem enterClosed_lifted (d : Side) : (enterClosed sd reason s).lifted d = s.lifted d := by
  have h := State.lifted_withSideState s sd d (.closed reason)
  simpa [State.lifted, State.side, enterClosed_sides] using h

theorem enterClosed_side_other : (enterClosed sd reason s).side sd.other = s.side sd.other := by
  simp [State.side, enterClosed_sides]

theorem enterClosed_cfg :
    (enterClosed sd reason s).cfg = { s.cfg with sideOpen := s.cfg.sideOpen.set sd false } := by
  simp only [enterClosed]
  split <;> simp [clearSideOpen_cfg]

theorem enterClosed_nvs : (enterClosed sd reason s).nvs = (clearSideOpen sd (s.withSideState sd (.closed reason))).nvs := by
  simp only [enterClosed]
  split <;> simp

theorem enterClosed_sli_silent (h : s.psq.mode ≠ .run ∨ reason = .management) :
    (enterClosed sd reason s).sli = s.sli := by
  simp only [enterClosed]
  rw [if_neg (by simp [State.inRun]; tauto)]
  simp

theorem enterClosed_events (hrun : s.psq.mode = .run) (hreason : reason ≠ .management) :
    (enterClosed sd reason s).sli.events = s.sli.events ||| (Event.closed sd).bit := by
  simp only [enterClosed]
  rw [if_pos (by simp [State.inRun, hrun, hreason])]
  simp [raise]

theorem enterClosed_panel : (enterClosed sd reason s).lbc.panels.get sd = ⟨none, none, none, none⟩ := by
  have hpanel : (enterClosed sd reason s).lbc.panels.get sd = formPanel (enterClosed sd reason s) sd := by
    simp only [enterClosed, handPanel, State.withLbc_lbc, PerSide.get_set_same]
    rfl
  simp [hpanel, formPanel, panelGroup, enterClosed_sideState]

variable {sd s}

theorem enterClosed_nvs_of_clear (h : s.cfg.sideOpen.get sd = false) : (enterClosed sd reason s).nvs = s.nvs := by
  rw [enterClosed_nvs, clearSideOpen_of_clear (by simpa using h)]
  rfl

theorem enterClosed_nvs_of_set (h : s.cfg.sideOpen.get sd = true) :
    (enterClosed sd reason s).nvs = (requestWrite .config s).nvs := by
  rw [enterClosed_nvs, clearSideOpen_nvs_of_set (by simpa using h)]
  rfl

end

/-! ### CLOSE_SIDE -/

theorem Sale.closing_eq (ctx : Sale) (r : ClosedReason) :
    ctx.closing r = { ctx with closureAfter := some (ctx.closureAfter.getD r) } := by
  cases h : ctx.closureAfter with
  | none => simp [Sale.closing, h]
  | some q => cases ctx; cases h; rfl

theorem State.withSideState_self {s : State} {sd : Side} {st : SideState} (h : s.sideState sd = st) :
    s.withSideState sd st = s := by
  subst h
  exact congrArg (fun x => { s with sides := x }) (s.sides.set_get_same sd)

@[simp] theorem State.withSideState_withSideState (s : State) (sd : Side) (st st' : SideState) :
    (s.withSideState sd st).withSideState sd st' = s.withSideState sd st' := by
  simp [State.withSideState, State.withSide, State.side]

/-- The end of a sale that the closing of its side stops, with the closure it completes into. -/
def State.saleStopped (s : State) (r : EndReason) (ctx : Sale) : SideState :=
  .sale (.stopped ⟨r, none, ctx.figures.volume, if ctx.hangSeen then some (s.now + s.cfg.timers.settle) else none⟩) ctx

/-- The side state that CLOSE_SIDE leaves (R61). -/
def State.closedState (s : State) : SideState → SideState
  | .closed r => .closed r
  | .sale (.stopped e) ctx => .sale (.stopped e) (ctx.closing .management)
  | .sale _ ctx => s.saleStopped .siteStop (ctx.closing .management)
  | _ => .closed .management

section
variable {sd : Side} {s : State}

theorem closeSide_of_closed {r : ClosedReason} (h : s.sideState sd = .closed r) :
    closeSide sd s = clearSideOpen sd s := by
  simp only [closeSide, h]

theorem closeSide_of_open (h : s.sideState sd = .idle ∨ s.sideState sd = .calling ∨ ∃ a, s.sideState sd = .authorized a) :
    closeSide sd s = enterClosed sd .management s := by
  rcases h with h | h | ⟨a, h⟩ <;> simp only [closeSide, h]

theorem closeSide_of_stopped {e : Ended} {ctx : Sale} (h : s.sideState sd = .sale (.stopped e) ctx) :
    closeSide sd s = clearSideOpen sd (s.withSideState sd (.sale (.stopped e) (ctx.closing .management))) := by
  simp only [closeSide, h]
  rw [stopSale_of_stopped (State.sideState_withSideState s sd _)]

theorem closeSide_of_sale {p : Phase} {ctx : Sale} (h : s.sideState sd = .sale p ctx) (hp : ∀ e, p ≠ .stopped e) :
    closeSide sd s =
      clearSideOpen sd (s.withSideState sd (s.saleStopped .siteStop (ctx.closing .management))) := by
  simp only [closeSide, h]
  rw [stopSale_of_not_stopped (State.sideState_withSideState s sd _) hp, State.withSideState_withSideState]
  rfl

/-- CLOSE_SIDE sets the side's state and clears its flag; where the side was open its panel follows too. -/
theorem closeSide_cases (sd : Side) (s : State) :
    closeSide sd s = clearSideOpen sd (s.withSideState sd (s.closedState (s.sideState sd))) ∨
    closeSide sd s = handPanel sd (clearSideOpen sd (s.withSideState sd (s.closedState (s.sideState sd)))) := by
  have hopen : enterClosed sd .management s =
      handPanel sd (clearSideOpen sd (s.withSideState sd (.closed .management))) := by simp [enterClosed]
  cases h : s.sideState sd with
  | closed r => exact .inl ((closeSide_of_closed h).trans (by rw [State.closedState, State.withSideState_self h]))
  | idle => exact .inr ((closeSide_of_open (.inl h)).trans hopen)
  | calling => exact .inr ((closeSide_of_open (.inr (.inl h))).trans hopen)
  | authorized a => exact .inr ((closeSide_of_open (.inr (.inr ⟨a, h⟩))).trans hopen)
  | sale p ctx =>
    cases p with
    | stopped e => exact .inl (closeSide_of_stopped h)
    | starting d => exact .inl (closeSide_of_sale h (by simp))
    | fuelling d => exact .inl (closeSide_of_sale h (by simp))
    | slowing d => exact .inl (closeSide_of_sale h (by simp))
    | suspended d => exact .inl (closeSide_of_sale h (by simp))

end

section
variable (sd : Side) (s : State)

theorem closeSide_sides :
    (closeSide sd s).sides = (s.withSideState sd (s.closedState (s.sideState sd))).sides := by
  rcases closeSide_cases sd s with h | h <;> simp [h]

theorem closeSide_sideState : (closeSide sd s).sideState sd = s.closedState (s.sideState sd) := by
  simp [State.sideState, State.side, closeSide_sides]

theorem closeSide_side_other : (closeSide sd s).side sd.other = s.side sd.other := by
  simp [State.side, closeSide_sides]

theorem closeSide_lifted : (closeSide sd s).lifted sd = s.lifted sd := by
  simp [State.lifted, State.side, closeSide_sides]

theorem closeSide_cfg : (closeSide sd s).cfg = { s.cfg with sideOpen := s.cfg.sideOpen.set sd false } := by
  rcases closeSide_cases sd s with h | h <;> simp [h, clearSideOpen_cfg]

theorem closeSide_sli : (closeSide sd s).sli = s.sli := by
  rcases closeSide_cases sd s with h | h <;> simp [h]

theorem closeSide_nvs : (closeSide sd s).nvs = (clearSideOpen sd s).nvs := by
  cases hopen : s.cfg.sideOpen.get sd
  · rcases closeSide_cases sd s with h | h <;> simp [h, clearSideOpen, hopen]
  · rcases closeSide_cases sd s with h | h <;> simp [h, clearSideOpen, hopen, requestWrite]

end

theorem ownCloseSide_num (sd : Side) (s : State) : ownCloseSide sd.num s = okay (closeSide sd s) := by
  simp only [ownCloseSide, sideOf_num, orRefuse]

theorem ownCloseSide_badField {v : Nat} (ha : v ≠ 1) (hb : v ≠ 2) (s : State) :
    ownCloseSide v s = refuse .badField s := by
  simp only [ownCloseSide, sideOf_eq_none ha hb, orRefuse]

/-- An accepted CLOSE_SIDE: with the flag clear the store stays as it is, with the flag set a write may begin. -/
theorem exec_closeSide {s : State} (hs : s.Serves) (sd : Side) :
    exec (.closeSide .unicast sd.num) s =
      .next (beginWrite ((closeSide sd (confirmWake .unicast s)).withReply .closeSide .ok [])) := by
  have hown := ownCloseSide_num sd (confirmWake .unicast s)
  have hline : (closeSide sd (confirmWake .unicast s)).sli.line = s.sli.line := by simp [closeSide_sli]
  cases hopen : s.cfg.sideOpen.get sd
  · have hnvs : (closeSide sd (confirmWake .unicast s)).nvs = s.nvs := by
      rw [closeSide_nvs, clearSideOpen_of_clear (by simpa using hopen)]
      simp
    have hexec := request_of_serves_store_kept (k := .closeSide) hs rfl hown hnvs (by simp) hline
    have hbefore : s.Settled := by obtain ⟨-, -, -, -, h⟩ := hs; exact h
    rw [beginWrite_idle (by simpa [hnvs] using hbefore.1)]
    exact hexec
  · have hqueue : (closeSide sd (confirmWake .unicast s)).nvs.queue ≠ [] := by
      rw [closeSide_nvs, clearSideOpen_nvs_of_set (by simpa using hopen)]
      exact requestWrite_queue_ne _ _
    exact request_of_serves_queued (k := .closeSide) hs rfl hown (by simp [confirmWake_mode]) hline hqueue

/-- Settles O37: the field that names no side, and what the closed side, the flag, the store and the reply are after
the request, each read through the reply and the start of a write. -/
theorem closeSideClosesOrWaits : Obligations.CloseSideClosesOrWaits := by
  intro s sd hs
  refine ⟨fun v ha hb => request_refused (k := .closeSide) hs rfl (ownCloseSide_badField ha hb _), _,
    exec_closeSide hs sd, ?reply, ?cfg, ?state, ?other, ?lifted, ?events, ?kept, ?queued, ?rest⟩
  case reply => rw [replied_tx, closeSide_sli]; simp [ReqKind.port, ReqKind.code]
  case cfg => simp [closeSide_cfg]
  case state =>
    have hstate := closeSide_sideState sd (confirmWake .unicast s)
    have hafter : (beginWrite ((closeSide sd (confirmWake .unicast s)).withReply .closeSide .ok [])).sideState sd =
        (closeSide sd (confirmWake .unicast s)).sideState sd := by simp [State.sideState, State.side]
    rw [hafter, hstate, confirmWake_sideState]
    cases h : s.sideState sd with
    | sale p ctx => cases p <;> simp [State.closedState, State.saleStopped, Sale.closing_eq]
    | closed r => rfl
    | idle => rfl
    | calling => rfl
    | authorized a => rfl
  case other =>
    have hother := closeSide_side_other sd (confirmWake .unicast s)
    simpa [State.side] using hother
  case lifted =>
    have hlifted := closeSide_lifted sd (confirmWake .unicast s)
    simpa [State.lifted, State.side] using hlifted
  case events => simp [State.withReply, closeSide_sli]
  case kept =>
    intro hclear
    have hnvs : (closeSide sd (confirmWake .unicast s)).nvs = s.nvs := by
      rw [closeSide_nvs, clearSideOpen_of_clear (by simpa using hclear)]
      simp
    obtain ⟨-, -, -, -, hbefore, -⟩ := hs
    rw [beginWrite_idle (by simpa [hnvs] using hbefore)]
    exact hnvs
  case queued =>
    intro hset
    refine config_queued_or_begun ?_ _ _ _
    rw [closeSide_nvs, clearSideOpen_nvs_of_set (by simpa using hset)]
    exact requestWrite_mem _ _
  case rest => simp

/-! ### RESTART -/

theorem SideState.restartable_eq (st : SideState) : st.restartable = !st.busy := by cases st <;> rfl

theorem restartAllowed_of_run {s : State} (hrun : s.psq.mode = .run) :
    restartAllowed s = true ↔ s.psq.night = none ∧ ∀ sd, (s.sideState sd).busy = false := by
  have hsides : (∀ sd, (s.sideState sd).busy = false) ↔
      (s.sideState .a).busy = false ∧ (s.sideState .b).busy = false :=
    ⟨fun h => ⟨h .a, h .b⟩, fun h sd => by cases sd; exacts [h.1, h.2]⟩
  simp [restartAllowed, hrun, SideState.restartable_eq, hsides, and_assoc]

theorem restartAllowed_of_failsafe {s : State} (h : s.psq.mode = .failsafe) : restartAllowed s = true := by
  simp [restartAllowed, h]

theorem restartAllowed_confirmWake (m : AddrMode) (s : State) :
    restartAllowed (confirmWake m s) = restartAllowed s := by
  simp [restartAllowed, confirmWake_night, confirmWake_mode]

/-- An allowed RESTART: the reply and the restart that waits for it; nothing drains yet. -/
theorem exec_restart_accepted {s : State} (hs : s.Live) (hidle : s.sli.tx = .idle)
    (hadmit : admission .restart s = .serve) (hmode : s.psq.mode ≠ .night) (hallowed : restartAllowed s = true) :
    exec (.restart .unicast) s = .next ({ confirmWake .unicast s with
      psq := { (confirmWake .unicast s).psq with restart := .replying } }.withReply .restart .ok []) := by
  obtain ⟨hpow, hsettled⟩ := hs
  have hown : ownRestart (confirmWake .unicast s) = okay ((confirmWake .unicast s).withPsq
      { (confirmWake .unicast s).psq with restart := .replying }) := by
    rw [ownRestart, restartAllowed_confirmWake, if_pos hallowed]
  have hreply := replyTo_unicast (k := .restart) (r := .ok) (d := []) (t := (confirmWake .unicast s).withPsq
    { (confirmWake .unicast s).psq with restart := .replying }) (by simpa [confirmWake_mode] using hmode)
  have hexec := request_unicast_idle hpow hidle .restart ownRestart
  rw [hadmit, State.afterAdmission, serveRequest, hown] at hexec
  refine hexec.trans (congrArg _ ((congrArg finish hreply).trans (finish_eq_of_settled ?_)))
  obtain ⟨hwrites, hnight, -⟩ := settled_confirmWake hsettled .unicast
  exact ⟨hwrites, hnight, fun h => absurd h (by simp [State.restartDraining, State.withReply])⟩

/-- Settles O39: by the mode the part is in, and in RUN by what stands against a restart. -/
theorem restartIsAnsweredBeforeItDrains : Obligations.RestartIsAnsweredBeforeItDrains := by
  intro s hs hidle hdrain
  refine ⟨?allowed, ?failsafe, ?refused⟩
  case allowed =>
    intro hrun hnight hbusy
    exact exec_restart_accepted hs hidle (admission_of_run hrun hdrain _) (by simp [hrun])
      ((restartAllowed_of_run hrun).2 ⟨hnight, hbusy⟩)
  case failsafe =>
    intro hmode
    have hadmit := admission_of_failsafe (k := .restart) hmode (by simpa [State.restartDraining] using hdrain)
    have hexec := exec_restart_accepted hs hidle hadmit (by simp [hmode]) (restartAllowed_of_failsafe hmode)
    rwa [confirmWake_of_not_run (by simp [hmode])] at hexec
  case refused =>
    intro hrun hagainst
    have hserves : s.Serves := ⟨hs.1, hrun, hdrain, hidle, hs.2⟩
    refine request_refused (k := .restart) hserves rfl ?_
    rw [ownRestart, restartAllowed_confirmWake, if_neg]
    rw [restartAllowed_of_run hrun]
    rintro ⟨hnight, hbusy⟩
    rcases hagainst with h | ⟨sd, h⟩
    · exact h hnight
    · simp [hbusy sd] at h

end Sys2Proof.Machine
end

section

/-! ## Events of a live part; readers that are cut off; the faults of a side (R54 to R57, R119, R134, R135) -/

namespace Sys2Proof.Machine

open Sys2Proof

/-! ### An event between two settled states -/

section
variable {f : State → State} {s : State}

theorem event_of_live (hs : s.Live) : event f s = .next (finish (f s)) := by
  simp [event, hs.1]

/-- An event that leaves the store and the sequencer alone has nothing to follow it. -/
theorem event_kept (hs : s.Live) (hnvs : (f s).nvs = s.nvs) (hpsq : (f s).psq = s.psq) : event f s = .next (f s) := by
  rw [event_of_live hs, finish_eq_of_eq hs.2 hnvs (by rw [hpsq]) (by rw [hpsq])]

theorem event_unchanged (hs : s.Live) (h : f s = s) : event f s = .next s :=
  (event_kept hs (by rw [h]) (by rw [h])).trans (by rw [h])

/-- `event_kept`, with the state the event is known to leave. -/
theorem event_to {t : State} (hs : s.Live) (h : f s = t) (hnvs : t.nvs = s.nvs) (hpsq : t.psq = s.psq) :
    event f s = .next t := by
  subst h
  exact event_kept hs hnvs hpsq

theorem event_finish_to {t : State} (hs : s.Live) (h : f s = t) : event f s = .next (finish t) := by
  rw [event_of_live hs, h]

theorem lineEvent_eq_event (hs : s.Live) (lines : Lines → Lines) : lineEvent lines f s = event f s := by
  simp [lineEvent, event, hs.1]

end

/-! ### Cutting a reader off -/

theorem abandonReaderSlot_of_other {sd : Side} {s : State} (h : ∀ sl, s.lbc.slot = some sl → sl.slotId ≠ .reader sd) :
    abandonReaderSlot sd s = s := by
  unfold abandonReaderSlot
  cases hslot : s.lbc.slot with
  | none => rfl
  | some sl => exact if_neg (h sl hslot)

theorem abandonReaderSlot_of_own {sd : Side} {s : State} {sl : Slot} (h : s.lbc.slot = some sl)
    (hid : sl.slotId = .reader sd) :
    abandonReaderSlot sd s = s.withLbc { s.lbc with slot := some { sl with take := false } } := by
  simp [abandonReaderSlot, h, hid]

theorem abandonReaderSlot_eq (sd : Side) (s : State) :
    abandonReaderSlot sd s = { s with lbc := (abandonReaderSlot sd s).lbc } := by
  unfold abandonReaderSlot
  cases s.lbc.slot with
  | none => rfl
  | some sl =>
    by_cases h : sl.slotId = .reader sd
    · simp only [h, if_true]
      rfl
    · simp only [h, if_false]

theorem cutReader_of_silent (sd : Side) (st : ReaderState) (hold : HoldTimer) (s : State) :
    cutReader sd st hold true s = raise (.readerOut sd) (cutReader sd st hold false s) := rfl

section
variable (sd : Side) (st : ReaderState) (hold : HoldTimer) (report : Bool) (s : State)

theorem cutReader_lbc_of_own {sl : Slot} (h : s.lbc.slot = some sl) (hid : sl.slotId = .reader sd) :
    (cutReader sd st hold report s).lbc.slot = some { sl with take := false } := by
  cases report <;> simp [cutReader, abandonReaderSlot_of_own (s := s.withReader sd _) h hid]

theorem cutReader_lbc_of_other (h : ∀ sl, s.lbc.slot = some sl → sl.slotId ≠ .reader sd) :
    (cutReader sd st hold report s).lbc = s.lbc := by
  cases report <;> simp [cutReader, abandonReaderSlot_of_other (s := s.withReader sd _) h]

theorem cutReader_events :
    (cutReader sd st hold true s).sli = { s.sli with events := s.sli.events ||| (Event.readerOut sd).bit } := by
  simp [cutReader_of_silent, raise, cutReader_silent_sli]

/-- Nothing but the reader, the slot in progress and the event set. -/
theorem cutReader_eq : cutReader sd st hold report s = { s with
    riu := (cutReader sd st hold report s).riu
    lbc := (cutReader sd st hold report s).lbc
    sli := (cutReader sd st hold report s).sli } := by
  have hsilent : cutReader sd st hold false s = { s with
      riu := (cutReader sd st hold false s).riu
      lbc := (cutReader sd st hold false s).lbc
      sli := (cutReader sd st hold false s).sli } := by
    simp only [cutReader, Bool.false_eq_true, if_false]
    rw [abandonReaderSlot_eq]
    rfl
  cases report with
  | false => exact hsilent
  | true =>
    rw [cutReader_of_silent, hsilent]
    rfl

theorem readerSupplyOut_of_cut (h : st.cut = true) : readerSupplyOut (cutReader sd st hold report s) sd = false := by
  have hdemand : st.supplyDemand = false := by cases st <;> simp_all [ReaderState.cut, ReaderState.supplyDemand]
  simp [readerSupplyOut, cutReader_reader, hdemand]

end

theorem readyCheck_of_not_readers {s : State} (h : s.psq.mode ≠ .poweringUp .readers) : readyCheck s = s := by
  simp [readyCheck, h]

/-- Settles O45: what cutting a reader off does, and the timers and lines that bring it, outside READERS. -/
theorem cutReadersAreFlushed : Obligations.CutReadersAreFlushed := by
  refine ⟨fun s sd st hold report => ⟨cutReader_reader .., cutReader_reader_other (side_other_ne sd) .., ?own, ?others,
    ?event, ?silent, readerSupplyOut_of_cut sd st hold report s, cutReader_eq ..⟩, fun s sd hs hmode => ⟨?probe, ?hold, ?tamper,
    ?tampered, ?inactive⟩⟩
  case own => exact fun sl h hid => cutReader_lbc_of_own sd st hold report s h hid
  case others => exact cutReader_lbc_of_other sd st hold report s
  case event => rintro rfl; exact cutReader_events sd st hold s
  case silent => rintro rfl; exact cutReader_silent_sli sd st hold s
  case probe =>
    intro d hstate hprobe
    refine event_to hs ?_ (by simp) (by simp)
    simp only [probeExpires, hstate, hprobe]
    exact readyCheck_of_not_readers (by simpa [enterOff] using hmode)
  case hold =>
    intro d hhold
    exact event_to hs (by simp only [holdExpires, hhold]; rfl) rfl rfl
  case tamper =>
    intro hline hstate
    refine (lineEvent_eq_event hs _).trans (event_to hs ?_ (by simp) (by simp))
    have hstate' : ((s.withLines (setTamper sd true s.lines)).reader sd).state ≠ .tampered := hstate
    rw [tamperActive, if_neg (by simp [hline]), enterTampered, if_neg hstate']
    exact readyCheck_of_not_readers (by simpa using hmode)
  case tampered =>
    intro hline hstate
    refine (lineEvent_eq_event hs _).trans (event_to hs ?_ rfl rfl)
    have hstate' : ((s.withLines (setTamper sd true s.lines)).reader sd).state = .tampered := hstate
    rw [tamperActive, if_neg (by simp [hline]), enterTampered, if_pos hstate']
    exact readyCheck_of_not_readers hmode
  case inactive => exact (lineEvent_eq_event hs _).trans (event_to hs rfl rfl rfl)

/-! ### The faults of a side -/

section
variable {sd : Side} {s : State}

theorem takeReport_of_not_stopped {p : Phase} {ctx : Sale} (h : s.sideState sd = .sale p ctx)
    (hp : ∀ e, p ≠ .stopped e) (kind : MeterReport) (m : Meter) :
    takeReport sd kind m s = stopSale sd kind.endReason (some m) s := by
  unfold takeReport
  split
  · next e c hstopped => cases h.symm.trans hstopped; exact absurd rfl (hp e)
  · rfl

theorem takeStray_of_not_stopped {p : Phase} {ctx : Sale} (h : s.sideState sd = .sale p ctx)
    (hp : ∀ e, p ≠ .stopped e) (m : Meter) : takeStray sd m s = stopSale sd .strayFlow (some m) s := by
  cases p with
  | stopped e => exact absurd rfl (hp e)
  | starting d => simp only [takeStray, h]
  | fuelling d => simp only [takeStray, h]
  | slowing d => simp only [takeStray, h]
  | suspended d => simp only [takeStray, h]

theorem takeLoss_of_not_stopped {p : Phase} {ctx : Sale} (h : s.sideState sd = .sale p ctx)
    (hp : ∀ e, p ≠ .stopped e) : takeLoss sd s = stopSale sd .displayFault none s := by
  cases p with
  | stopped e => exact absurd rfl (hp e)
  | starting d => simp only [takeLoss, h]
  | fuelling d => simp only [takeLoss, h]
  | slowing d => simp only [takeLoss, h]
  | suspended d => simp only [takeLoss, h]

theorem takeStoreFailure_of_sale {p : Phase} {ctx : Sale} (h : s.sideState sd = .sale p ctx) :
    takeStoreFailure sd s = s.withSideState sd (.sale p (ctx.closing .nvFault)) := by
  simp only [takeStoreFailure, h]

theorem faultInStopped_kept {e : Ended} {ctx : Sale} (h : e.reason.latched ≠ none ∨ ctx.closureAfter ≠ none)
    (r : ClosedReason) : faultInStopped e ctx r = ctx := by
  unfold faultInStopped
  cases hl : e.reason.latched with
  | some q => rfl
  | none =>
    cases hc : ctx.closureAfter with
    | some q => simp [Sale.closing, hc]
    | none => simp [hl, hc] at h

theorem faultInStopped_set {e : Ended} {ctx : Sale} (hl : e.reason.latched = none) (hc : ctx.closureAfter = none)
    (r : ClosedReason) : faultInStopped e ctx r = { ctx with closureAfter := some r } := by
  simp only [faultInStopped, hl, Sale.closing, hc]

variable {e : Ended} {ctx : Sale} (h : s.sideState sd = .sale (.stopped e) ctx)
include h

theorem takeLoss_of_stopped :
    takeLoss sd s = s.withSideState sd (.sale (.stopped e) (faultInStopped e ctx .displayFault)) := by
  simp only [takeLoss, h]

theorem takeStray_of_stopped (m : Meter) :
    takeStray sd m s = s.withSideState sd (.sale (.stopped e) (faultInStopped e ctx .strayFlow)) := by
  simp only [takeStray, h]

theorem takeReport_meterFault_of_stopped (m : Meter) : takeReport sd .meterFault m s =
    s.withSideState sd (.sale (.stopped e) (faultInStopped e ctx .meterFault)) := by
  simp only [takeReport, h]
  rfl

theorem takeReport_reverseFlow_of_stopped (m : Meter) : takeReport sd .reverseFlow m s =
    s.withSideState sd (.sale (.stopped e) (faultInStopped e ctx .reverseFlow)) := by
  simp only [takeReport, h]
  rfl

theorem takeReport_highFlow_of_stopped (m : Meter) : takeReport sd .highFlow m s = s := by
  simp only [takeReport, h]
  rfl

end

theorem stopSale_eq {sd : Side} {s : State} {p : Phase} {ctx : Sale} (h : s.sideState sd = .sale p ctx)
    (hp : ∀ e, p ≠ .stopped e) (r : EndReason) (fault : Option Meter) :
    stopSale sd r fault s = s.withSideState sd (.sale (.stopped ⟨r, fault, ctx.figures.volume,
      if ctx.hangSeen then some (s.now + s.cfg.timers.settle) else none⟩) ctx) :=
  stopSale_of_not_stopped h hp r fault

/-- Settles O46: the loss timer, the faults by side state, and the entry to CLOSED. -/
theorem faultsActByTheSideState : Obligations.FaultsActByTheSideState := by
  refine ⟨?loss, fun s sd => ⟨?closed, ?opened, ?store, ?sale, ?stopped⟩, fun s sd reason =>
    ⟨enterClosed_sideState sd reason s, enterClosed_lifted sd reason s sd, enterClosed_side_other sd reason s,
      enterClosed_cfg sd reason s, enterClosed_nvs_of_clear reason, enterClosed_nvs_of_set reason,
      enterClosed_events sd reason s, enterClosed_sli_silent sd reason s, enterClosed_panel sd reason s⟩⟩
  case loss =>
    intro s m d hs hrun hmodule
    have hpresent : s.displayModule m = ⟨true, some d⟩ := hmodule
    refine event_finish_to hs ?_
    simp only [lossExpires, hpresent]
    rw [reportLoss, if_pos (by simp [State.inRun, State.withDisplayModule, hrun])]
    rfl
  case closed =>
    intro r h
    exact ⟨by simp only [takeLoss, h], fun m => by simp only [takeStray, h], by simp only [takeStoreFailure, h]⟩
  case opened =>
    rintro (h | h | ⟨a, h⟩) <;>
      exact ⟨by simp only [takeLoss, h], fun m => by simp only [takeStray, h], by simp only [takeStoreFailure, h]⟩
  case store =>
    intro p ctx h
    rw [takeStoreFailure_of_sale h, Sale.closing_eq]
  case sale =>
    intro p ctx h hp
    refine ⟨?_, fun m => ?_, fun m => ?_, fun m => ?_, fun m => ?_⟩
    · rw [takeLoss_of_not_stopped h hp, stopSale_eq h hp]
    · rw [takeStray_of_not_stopped h hp, stopSale_eq h hp]
    · rw [takeReport_of_not_stopped h hp, stopSale_eq h hp]; rfl
    · rw [takeReport_of_not_stopped h hp, stopSale_eq h hp]; rfl
    · rw [takeReport_of_not_stopped h hp, stopSale_eq h hp]; rfl
  case stopped =>
    intro e ctx h
    refine ⟨takeReport_highFlow_of_stopped h, fun hset => ?_, fun hl hc => ?_⟩
    · have hkept := fun r => faultInStopped_kept hset r
      simp only [takeLoss_of_stopped h, takeStray_of_stopped h, takeReport_meterFault_of_stopped h,
        takeReport_reverseFlow_of_stopped h, hkept, State.withSideState_self h, and_self, implies_true]
    · simp only [takeLoss_of_stopped h, takeStray_of_stopped h, takeReport_meterFault_of_stopped h,
        takeReport_reverseFlow_of_stopped h, faultInStopped_set hl hc, and_self, implies_true]

end Sys2Proof.Machine
end

section

/-! ## Nozzles, the timers of a side, and the drive rail (R37 to R58, R64) -/

namespace Sys2Proof.Machine

open Sys2Proof

/-! ### The lifted list -/

/-- The state with the switch of a hose hung. -/
def State.withHung (s : State) (h : Hose) : State :=
  { s with lines := { s.lines with nozzle := s.lines.nozzle.set h false } }

section
variable {sd : Side} {s : State}

theorem followLifted_kept (h : s.sideState sd ≠ .idle) (hcalling : s.sideState sd = .calling → s.lifted sd ≠ []) :
    followLifted sd s = s := by
  unfold followLifted
  split
  · next hidle => exact absurd hidle h
  · next hstate => exact if_neg (hcalling hstate)
  · rfl

/-- A lift of a hose of the side in RUN, past its switch. -/
theorem nozzleLift_of_hung {h : Hose} (hdown : s.lines.nozzle.get h = false) (hhose : hoseSide s.cfg.hoses h = some sd)
    (hrun : s.psq.mode = .run) :
    nozzleLift h s = testStart sd (followLifted sd
      (({ s with lines := { s.lines with nozzle := s.lines.nozzle.set h true } }).withLifted sd
        (s.lifted sd ++ [h]))) := by
  have hhose' : hoseSide (s.withLines (setNozzle h true s.lines)).cfg.hoses h = some sd := hhose
  simp only [nozzleLift, hdown, Bool.false_eq_true, if_false, hhose', sideLift]
  rw [if_neg (by simp [hrun])]
  rfl

/-- A hang of a hose of the side, past its switch. -/
theorem nozzleHang_of_lifted {h : Hose} (hup : s.lines.nozzle.get h = true) (hhose : hoseSide s.cfg.hoses h = some sd) :
    nozzleHang h s = sideHang sd h (s.withHung h) := by
  have hhose' : hoseSide (s.withLines (setNozzle h false s.lines)).cfg.hoses h = some sd := hhose
  simp only [nozzleHang, hup, Bool.true_eq_false, if_false, hhose']
  rfl

theorem activeHose_of_sale {p : Phase} {ctx : Sale} {h : Hose} (hstate : s.sideState sd = .sale p ctx) :
    activeHose s sd h = (ctx.hose == h) := by
  simp [activeHose, hstate, SideState.sale?]

theorem activeHose_of_no_sale {h : Hose} (hstate : (s.sideState sd).sale? = none) : activeHose s sd h = false := by
  simp [activeHose, hstate]

/-- A hang that is not the active hose's. -/
theorem sideHang_of_inactive {h : Hose} (hactive : activeHose s sd h = false) :
    sideHang sd h s = testStart sd (followLifted sd (s.withLifted sd ((s.lifted sd).filter (· ≠ h)))) := by
  have hactive' : activeHose (s.withLifted sd ((s.lifted sd).filter (· ≠ h))) sd h = false := by
    simpa [activeHose] using hactive
  simp only [sideHang, hactive', Bool.false_eq_true, if_false]

/-- The hang of the active hose. -/
theorem sideHang_of_active {h : Hose} (hactive : activeHose s sd h = true) :
    sideHang sd h s = hangActive sd (s.withLifted sd ((s.lifted sd).filter (· ≠ h))) := by
  have hactive' : activeHose (s.withLifted sd ((s.lifted sd).filter (· ≠ h))) sd h = true := by
    simpa [activeHose] using hactive
  simp only [sideHang, hactive', if_true]

theorem hangActive_of_sale {p : Phase} {ctx : Sale} (h : s.sideState sd = .sale p ctx) (hp : ∀ e, p ≠ .stopped e) :
    hangActive sd s = s.withSideState sd (.sale
      (.stopped ⟨.nozzleHung, none, ctx.figures.volume, some (s.now + s.cfg.timers.settle)⟩)
        { ctx with hangSeen := true }) := by
  have hactive : hangActive sd s =
      stopSale sd .nozzleHung none (s.withSideState sd (.sale p { ctx with hangSeen := true })) := by
    unfold hangActive
    split
    · next e c hstopped => cases h.symm.trans hstopped; exact absurd rfl (hp e)
    · next q c _ hsale => cases h.symm.trans hsale; rfl
    · next hnot => exact absurd h (hnot p ctx)
  rw [hactive, stopSale_eq (State.sideState_withSideState s sd _) hp, State.withSideState_withSideState]
  rfl

theorem hangActive_of_stopped {e : Ended} {ctx : Sale} (h : s.sideState sd = .sale (.stopped e) ctx) :
    hangActive sd s = if ctx.hangSeen then s else s.withSideState sd
      (.sale (.stopped { e with settle := some (s.now + s.cfg.timers.settle) }) { ctx with hangSeen := true }) := by
  simp only [hangActive, h]

end

/-- A side with nothing to start: the lifted list is followed and no start is tested. -/
theorem testStart_followLifted_kept {sd : Side} {s : State} (hidle : s.sideState sd ≠ .idle)
    (hauth : ∀ a, s.sideState sd ≠ .authorized a) (hcalling : s.sideState sd = .calling → s.lifted sd ≠ []) :
    testStart sd (followLifted sd s) = s := by
  rw [followLifted_kept hidle hcalling, testStart_of_not_authorized hauth]

/-- Settles O51: lifts, then hangs, by the state of the side. -/
theorem nozzlesMoveTheSide : Obligations.NozzlesMoveTheSide := by
  intro s h sd hs hrun hhose
  refine ⟨fun hdown => ?lifts, fun hup => ?hangs⟩
  case lifts =>
    intro up
    have hlifted : up.lifted sd ≠ [] := by simp [up]
    have hstate : up.sideState sd = s.sideState sd := State.sideState_withLifted ..
    have hexec : ∀ {t : State}, testStart sd (followLifted sd up) = t → t.nvs = s.nvs → t.psq = s.psq →
        exec (.nozzleLift h) s = .next t := fun ht hnvs hpsq =>
      (lineEvent_eq_event hs _).trans (event_to hs ((nozzleLift_of_hung hdown hhose hrun).trans ht) hnvs hpsq)
    refine ⟨fun hidle => ?idle, fun hkept => ?kept, fun a hauth => ?authorized, ?hung⟩
    case idle =>
      refine hexec ?_ (by simp [up]) (by simp [up])
      have hfollow : followLifted sd up = raise (.call sd) (up.withSideState sd .calling) := by
        simp only [followLifted, hstate, hidle, if_neg hlifted, enterCalling]
      have hcalling : (raise (.call sd) (up.withSideState sd .calling)).sideState sd = .calling :=
        State.sideState_withSideState up sd .calling
      rw [hfollow, testStart_of_not_authorized (by simp [hcalling])]
    case kept =>
      refine hexec (testStart_followLifted_kept ?_ ?_ fun _ => hlifted) rfl rfl <;> rw [hstate]
      · rcases hkept with e | ⟨r, e⟩ | ⟨p, ctx, e⟩ <;> simp [e]
      · rcases hkept with e | ⟨r, e⟩ | ⟨p, ctx, e⟩ <;> simp [e]
    case authorized =>
      refine hexec (congrArg _ (followLifted_kept ?_ ?_)) (by simp [up]) (by simp [up]) <;> simp [hstate, hauth]
    case hung =>
      exact (lineEvent_eq_event hs _).trans (event_unchanged hs (by simp [nozzleHang, hdown]))
  case hangs =>
    intro rest down
    have hstate : down.sideState sd = s.sideState sd := State.sideState_withLifted ..
    have hlist : down.lifted sd = rest := State.lifted_withLifted ..
    have hexec : ∀ {t : State}, sideHang sd h (s.withHung h) = t →
        t.nvs = s.nvs → t.psq = s.psq → exec (.nozzleHang h) s = .next t := fun ht hnvs hpsq =>
      (lineEvent_eq_event hs _).trans (event_to hs ((nozzleHang_of_lifted hup hhose).trans ht) hnvs hpsq)
    have hinactive : ∀ {t : State}, activeHose s sd h = false → testStart sd (followLifted sd down) = t →
        t.nvs = s.nvs → t.psq = s.psq → exec (.nozzleHang h) s = .next t := fun hactive ht =>
      hexec ((sideHang_of_inactive (s := s.withHung h) hactive).trans ht)
    have hactive : ∀ {t : State}, activeHose s sd h = true → hangActive sd down = t →
        t.nvs = s.nvs → t.psq = s.psq → exec (.nozzleHang h) s = .next t := fun hactive ht =>
      hexec ((sideHang_of_active (s := s.withHung h) hactive).trans ht)
    refine ⟨fun hcalling => ?calling, fun a hauth => ?authorized, ?kept, fun p ctx hsale hhose hp => ?sale,
      fun e ctx hsale hhose => ⟨fun hseen => ?first, fun hseen => ?again⟩, ?lifted⟩
    case calling =>
      have hnone : activeHose s sd h = false := activeHose_of_no_sale (by simp [hcalling, SideState.sale?])
      have hfollow : followLifted sd down = if rest = [] then down.withSideState sd .idle else down := by
        simp only [followLifted, hstate, hcalling, hlist]
      refine hinactive hnone ?_ ?_ ?_
      · rw [hfollow]
        by_cases hrest : rest = []
        · rw [if_pos hrest]
          exact testStart_of_not_authorized (by simp)
        · rw [if_neg hrest]
          exact testStart_of_not_authorized (by simp [hstate, hcalling])
      · split <;> rfl
      · split <;> rfl
    case authorized =>
      have hnone : activeHose s sd h = false := activeHose_of_no_sale (by simp [hauth, SideState.sale?])
      refine hinactive hnone (congrArg _ (followLifted_kept ?_ ?_)) (by simp [down]) (by simp [down]) <;>
        simp [hstate, hauth]
    case kept =>
      rintro (⟨r, e⟩ | ⟨p, ctx, e, hother⟩)
      · refine hinactive (activeHose_of_no_sale (by simp [e, SideState.sale?]))
          (testStart_followLifted_kept ?_ ?_ ?_) rfl rfl <;> simp [hstate, e]
      · refine hinactive ((activeHose_of_sale e).trans (by simpa using hother))
          (testStart_followLifted_kept ?_ ?_ ?_) rfl rfl <;> simp [hstate, e]
    case sale =>
      exact hactive ((activeHose_of_sale hsale).trans (by simpa using hhose))
        (hangActive_of_sale (hstate.trans hsale) hp) rfl rfl
    case first =>
      refine hactive ((activeHose_of_sale hsale).trans (by simpa using hhose)) ?_ rfl rfl
      rw [hangActive_of_stopped (hstate.trans hsale), if_neg (by simp [hseen])]
      rfl
    case again =>
      refine hactive ((activeHose_of_sale hsale).trans (by simpa using hhose)) ?_ rfl rfl
      rw [hangActive_of_stopped (hstate.trans hsale), if_pos hseen]
    case lifted =>
      exact (lineEvent_eq_event hs _).trans (event_unchanged hs (by simp [nozzleLift, hup]))

/-! ### The timers of a side -/

section
variable {sd : Side} {s : State}

theorem authExpires_running {a : Auth} {d : Nat} (h : s.sideState sd = .authorized a) (htimer : a.timer = some d) :
    authExpires sd s = enterOpen sd (raise .authExpired (s.expireAt d)) := by
  simp only [authExpires, h, htimer]

theorem zeroExpires_of_starting {d : Nat} {ctx : Sale} (h : s.sideState sd = .sale (.starting d) ctx) :
    zeroExpires sd s =
      if ctx.zeroVerified then actOnQuery sd ctx (s.expireAt d) else stopSale sd .displayFault none (s.expireAt d) := by
  simp only [zeroExpires, h]

theorem noFlowExpires_of_flowing {d : Nat} {ctx : Sale}
    (h : s.sideState sd = .sale (.fuelling d) ctx ∨ s.sideState sd = .sale (.slowing d) ctx) :
    noFlowExpires sd s = stopSale sd .noFlow none (s.expireAt d) := by
  rcases h with h | h <;> simp only [noFlowExpires, h]

theorem suspendExpires_of_suspended {d : Nat} {ctx : Sale} (h : s.sideState sd = .sale (.suspended d) ctx) :
    suspendExpires sd s = stopSale sd .suspendTimeout none (s.expireAt d) := by
  simp only [suspendExpires, h]

/-- The stop of a sale at the expiry of a timer: the settle timer counts from the expiry. -/
theorem stopSale_late {p : Phase} {ctx : Sale} (h : s.sideState sd = .sale p ctx) (hp : ∀ e, p ≠ .stopped e)
    (r : EndReason) (d : Nat) :
    stopSale sd r none (s.expireAt d) = { s with now := max s.now d }.withSideState sd (.sale (.stopped
      ⟨r, none, ctx.figures.volume, if ctx.hangSeen then some (max s.now d + s.cfg.timers.settle) else none⟩) ctx) :=
  stopSale_eq (s := s.expireAt d) h hp r none

end

/-- Settles O52: each timer in the state it runs in. -/
theorem sideTimersEndTheirStates : Obligations.SideTimersEndTheirStates := by
  intro s sd hs
  refine ⟨fun a d h htimer => ⟨fun hlist => ?idle, fun hlist => ?calling⟩, fun a h htimer => ?noTimer,
    fun d ctx h => ?zero, fun d ctx h => ?noFlow, fun d ctx h => ?suspend⟩
  case idle =>
    refine event_to hs ((authExpires_running h htimer).trans ?_) rfl rfl
    exact if_pos hlist
  case calling =>
    refine event_to hs ((authExpires_running h htimer).trans ?_) rfl rfl
    exact if_neg hlist
  case noTimer => exact event_unchanged hs (by simp only [authExpires, h, htimer])
  case zero =>
    intro late settle
    refine ⟨fun hproof => ?_, fun hproof => ?_⟩
    · refine event_to hs ((zeroExpires_of_starting h).trans ?_) rfl rfl
      rw [if_neg (by simp [hproof])]
      exact stopSale_late h (by simp) _ d
    · refine event_to hs ((zeroExpires_of_starting h).trans ?_) rfl rfl
      rw [if_pos hproof, actOnQuery, queryResult]
      cases classifyFigures ctx.limit ctx.figures with
      | clear => rfl
      | slow => rfl
      | limit => exact stopSale_late h (by simp) _ d
      | saturated => exact stopSale_late h (by simp) _ d
  case noFlow =>
    refine event_to hs ((noFlowExpires_of_flowing h).trans ?_) rfl rfl
    rcases h with h | h <;> exact stopSale_late h (by simp) _ d
  case suspend =>
    refine event_to hs ((suspendExpires_of_suspended h).trans ?_) rfl rfl
    exact stopSale_late h (by simp) _ d

/-! ### The drive rail -/

theorem renewBlocked_of_not_authorized {sd : Side} {s : State} (h : ∀ a, s.sideState sd ≠ .authorized a) :
    renewBlocked sd s = s := by
  unfold renewBlocked
  split
  · next a ha => exact absurd ha (h a)
  · rfl

/-- The start-blocked reason that a rail or a warning leaves an authorization, with which no side starts (R45). -/
theorem startTest_blocked {s : State} (sd : Side) (a : Auth) (hblocked : s.lines.railGood = false ∨ s.lines.warning = true) :
    ∃ b, startTest s sd a = .wait b ∧
      ((s.lifted sd).find? (allowedHose s.cfg.hoses sd a.allowed) = none → b = .none) ∧
      (∀ h r, (s.lifted sd).find? (allowedHose s.cfg.hoses sd a.allowed) = some h → s.cfg.hoses.get h = some r →
        (s.ptu.active.entry r.grade a.level = 0 ∨ 99999 < s.ptu.active.entry r.grade a.level → b = .priceInvalid) ∧
        (1 ≤ s.ptu.active.entry r.grade a.level → s.ptu.active.entry r.grade a.level ≤ 99999 → b = .railDown)) := by
  cases hfind : (s.lifted sd).find? (allowedHose s.cfg.hoses sd a.allowed) with
  | none => exact ⟨.none, by simp [startTest, candidate, hfind], fun _ => rfl, by simp⟩
  | some x =>
    cases hrec : s.cfg.hoses.get x with
    | none => exact ⟨.none, by simp [startTest, candidate, hfind, hrec], by simp, by rintro h r ⟨⟩ hr; simp [hrec] at hr⟩
    | some q =>
      have htest := startTest_of_candidate hfind hrec
      by_cases hvalid : validPrice (s.ptu.active.entry q.grade a.level) = true
      · rw [if_neg (by simp [hvalid]), if_pos hblocked] at htest
        refine ⟨.railDown, htest, by simp, ?_⟩
        rintro h r ⟨⟩ hr
        cases hrec.symm.trans hr
        rw [validPrice_iff] at hvalid
        exact ⟨fun hbad => by omega, fun _ _ => rfl⟩
      · rw [if_pos (by simpa using hvalid)] at htest
        refine ⟨.priceInvalid, htest, by simp, ?_⟩
        rintro h r ⟨⟩ hr
        cases hrec.symm.trans hr
        rw [validPrice_iff] at hvalid
        exact ⟨fun _ => rfl, fun hlow hhigh => absurd ⟨hlow, hhigh⟩ hvalid⟩

theorem renewBlocked_of_wait {sd : Side} {s : State} {a : Auth} {b : StartBlocked} (h : s.sideState sd = .authorized a)
    (hwait : startTest s sd a = .wait b) :
    renewBlocked sd s = s.withSideState sd (.authorized { a with blocked := b }) := by
  simp only [renewBlocked, h, hwait]

theorem railFault_of_no_sale {sd : Side} {s : State} (h : (s.sideState sd).sale? = none) :
    railFault sd s = renewBlocked sd s := by
  rcases stopSale_cases sd .supplyFault none s with ⟨e, -⟩ | ⟨p, ctx, hsale, -, -⟩
  · rw [railFault, e]
  · simp [hsale, SideState.sale?] at h

/-- Settles O54: the line's two events, and the release by the state of the side. -/
theorem theDriveRailStopsSales : Obligations.TheDriveRailStopsSales := by
  refine ⟨fun s hs => ⟨fun hgood => ?down, fun hbad => ⟨?stillDown, ?up⟩, fun hgood => ?stillUp⟩,
    fun s sd hrail => ⟨?kept, fun p ctx h hp => ?sale, fun a h => ?authorized⟩, rfl⟩
  case down =>
    refine (lineEvent_eq_event hs _).trans (event_to hs ?_ (by simp) (by simp))
    rw [railDown, if_pos hgood]
    rfl
  case stillDown => exact (lineEvent_eq_event hs _).trans (event_unchanged hs (by simp [railDown, hbad]))
  case up =>
    refine (lineEvent_eq_event hs _).trans (event_to hs ?_ (by simp) (by simp))
    rw [railUp, if_neg (by simp [hbad])]
    rfl
  case stillUp => exact (lineEvent_eq_event hs _).trans (event_unchanged hs (by simp [railUp, hgood]))
  case kept =>
    rintro (h | h | ⟨r, h⟩ | ⟨e, ctx, h⟩)
    · rw [railFault_of_no_sale (by simp [h, SideState.sale?]), renewBlocked_of_not_authorized (by simp [h])]
    · rw [railFault_of_no_sale (by simp [h, SideState.sale?]), renewBlocked_of_not_authorized (by simp [h])]
    · rw [railFault_of_no_sale (by simp [h, SideState.sale?]), renewBlocked_of_not_authorized (by simp [h])]
    · rw [railFault, stopSale_of_stopped h, renewBlocked_of_not_authorized (by simp [h])]
  case sale => rw [railFault, stopSale_eq h hp, renewBlocked_of_not_authorized (by simp)]
  case authorized =>
    obtain ⟨b, hwait, hnone, hsome⟩ := startTest_blocked sd a (.inl hrail)
    exact ⟨b, by rw [railFault_of_no_sale (by simp [h, SideState.sale?]), renewBlocked_of_wait h hwait], hnone, hsome⟩

end Sys2Proof.Machine
end

section

/-! ## Free pulses, engaged pulses, and what the decoder yields (R3 to R14, R29, R47 to R54) -/

namespace Sys2Proof.Machine

open Sys2Proof

/-! ### The channel and the engagement of a meter -/

theorem PerMeter.set_set {α : Type} (t : PerMeter α) (m : Meter) (v w : α) : (t.set m v).set m w = t.set m w := by
  cases m <;> rfl

@[simp] theorem State.withChannel_withChannel (s : State) (m : Meter) (c c' : Channel) :
    (s.withChannel m c).withChannel m c' = s.withChannel m c' := by
  simp [State.withChannel, PerMeter.set_set]

/-- Only the sides say what a meter is engaged to. -/
theorem engagement_congr {s t : State} (h : t.sides = s.sides) (m : Meter) : t.engagement m = s.engagement m := by
  cases s
  cases t
  cases h
  rfl

theorem engagement_endCycle (s : State) (m : Meter) : (endCycle m s).engagement m = s.engagement m :=
  engagement_congr rfl m

theorem endCycle_withDecoder_zero (s : State) (m : Meter) (seen : LineState) :
    endCycle m (withDecoder m seen 0 s) = withDecoder m seen 0 s := by
  simp [endCycle, withDecoder]

theorem SideState.sale?_eq_some {st : SideState} {ctx : Sale} (h : st.sale? = some ctx) : ∃ p, st = .sale p ctx := by
  cases st with
  | sale p c => cases h; exact ⟨p, rfl⟩
  | closed r => cases h
  | idle => cases h
  | calling => cases h
  | authorized a => cases h

/-- An engaged meter is one of the meters of a sale. -/
theorem engagement_eq_some {s : State} {m : Meter} {sd : Side} {ctx : Sale} {c : Counters}
    (h : s.engagement m = some (sd, ctx, c)) : (∃ p, s.sideState sd = .sale p ctx) ∧ ctx.counters m = some c := by
  unfold State.engagement at h
  cases hside : s.engagedSide m with
  | none => simp [hside] at h
  | some d =>
    cases hsale : (s.sideState d).sale? with
    | none => simp [hside, hsale] at h
    | some x =>
      simp only [hside, hsale, Option.map_eq_some_iff, Prod.mk.injEq] at h
      obtain ⟨c', hc, rfl, rfl, rfl⟩ := h
      exact ⟨SideState.sale?_eq_some hsale, hc⟩

/-! ### Free pulses -/

section
variable {s : State} {m : Meter}

theorem pulse_of_free (h : s.engagement m = none) (d : Direction) : pulse d m s = freePulse m s := by
  simp only [pulse, h]

theorem freePulse_of_not_due (h : strayDue (s.cfg.meters.get m).sa (s.channel m) = false) :
    freePulse m s = s.withChannel m (countStray false (s.channel m)) := by
  simp [freePulse, h]

/-- The channel that a free pulse is counted in, with the mark of its report. -/
def State.withStray (s : State) (m : Meter) (told : Bool) : State :=
  s.withChannel m { s.channel m with
    cyclePos := 0
    stray := min ((s.channel m).stray + 1) 65535
    strayTotal := ((s.channel m).strayTotal + 1) % 4294967296
    strayTold := told }

theorem endCycle_countStray (s : State) (m : Meter) (told : Bool) :
    (endCycle m s).withChannel m (countStray told ((endCycle m s).channel m)) =
      s.withStray m ((s.channel m).strayTold || told) := by
  simp [endCycle, countStray, wrap32, State.withStray]

/-- A free pulse that brings no report. -/
theorem pulse_free_counted (hfree : s.engagement m = none)
    (hdue : (s.channel m).stray ≠ (s.cfg.meters.get m).sa ∨ (s.channel m).strayTold = true) (d : Direction) :
    pulse d m (endCycle m s) = s.withStray m (s.channel m).strayTold := by
  have hnot : strayDue ((endCycle m s).cfg.meters.get m).sa ((endCycle m s).channel m) = false := by
    rcases hdue with h | h <;> simp [strayDue, endCycle, h]
  rw [pulse_of_free ((engagement_endCycle s m).trans hfree), freePulse_of_not_due hnot, endCycle_countStray,
    Bool.or_false]

/-- The report of a free pulse: it acts on the side that owns the meter, where there is one. -/
def State.withStrayReport (s : State) (m : Meter) : Option Side → State
  | some sd => takeStray sd m (raise .strayFlow s)
  | none => raise .strayFlow s

/-- A free pulse that brings the report. -/
theorem pulse_free_due (hfree : s.engagement m = none) (hstray : (s.channel m).stray = (s.cfg.meters.get m).sa)
    (htold : (s.channel m).strayTold = false) (d : Direction) :
    pulse d m (endCycle m s) = (s.withStray m true).withStrayReport m (owningSide s.cfg.hoses m) := by
  have hdue : strayDue ((endCycle m s).cfg.meters.get m).sa ((endCycle m s).channel m) = true := by
    simp [strayDue, endCycle, hstray, htold]
  have hcounted := endCycle_countStray s m true
  rw [Bool.or_true] at hcounted
  rw [pulse_of_free ((engagement_endCycle s m).trans hfree)]
  simp only [freePulse, hdue, if_true, hcounted]
  have howner : owningSide (raise .strayFlow (s.withStray m true)).cfg.hoses m = owningSide s.cfg.hoses m := rfl
  cases h : owningSide s.cfg.hoses m <;> simp only [howner, h, State.withStrayReport]

theorem reversePulse_of_quad (h : (s.cfg.meters.get m).mode = .quad) :
    reversePulse m s = pulse .reverse m (endCycle m s) := by
  simp only [reversePulse, State.meterMode, h]

theorem reversePulse_of_single (h : (s.cfg.meters.get m).mode = .single) : reversePulse m s = s := by
  simp only [reversePulse, State.meterMode, h]

theorem phaseYield_of_quad (h : (s.cfg.meters.get m).mode = .quad) :
    phaseYield m s = phaseError m (endCycle m s) := by
  simp only [phaseYield, State.meterMode, h]

theorem phaseYield_of_single (h : (s.cfg.meters.get m).mode = .single) : phaseYield m s = s := by
  simp only [phaseYield, State.meterMode, h]

/-- A phase error is counted in the channel, whether the meter is free or engaged. -/
def State.withPhaseError (s : State) (m : Meter) : State :=
  s.withChannel m { s.channel m with cyclePos := 0, phaseTotal := ((s.channel m).phaseTotal + 1) % 4294967296 }

theorem phaseError_endCycle_of_free (h : s.engagement m = none) :
    phaseError m (endCycle m s) = s.withPhaseError m := by
  have hfree : ((endCycle m s).withChannel m { (endCycle m s).channel m with
      phaseTotal := wrap32 (((endCycle m s).channel m).phaseTotal + 1) }).engagement m = none := h
  simp only [phaseError, hfree]
  simp [endCycle, wrap32, State.withPhaseError]

theorem phaseError_endCycle_of_engaged {sd : Side} {ctx : Sale} {c : Counters} (h : s.engagement m = some (sd, ctx, c)) :
    phaseError m (endCycle m s) = engagedPhase sd m ctx c (s.withPhaseError m) := by
  have hengaged : ((endCycle m s).withChannel m { (endCycle m s).channel m with
      phaseTotal := wrap32 (((endCycle m s).channel m).phaseTotal + 1) }).engagement m = some (sd, ctx, c) := h
  simp only [phaseError, hengaged]
  simp [endCycle, wrap32, State.withPhaseError]

end

theorem exec_forwardPulse (m : Meter) (s : State) :
    exec (.forwardPulse m) s = event (fun u => pulse .forward m (endCycle m u)) s := rfl

/-- Settles O47: a free pulse without and with its report, a free phase error, and a channel in SINGLE mode. -/
theorem freePulsesAreStray : Obligations.FreePulsesAreStray := by
  intro s m hs
  refine ⟨fun hfree => ⟨fun hnot => ⟨?counted, fun hquad => ?countedBack⟩, fun hstray htold =>
    ⟨fun hnone => ⟨?ownerless, fun hquad => ?ownerlessBack⟩, fun sd hsd => ⟨?owned, fun hquad => ?ownedBack⟩⟩,
    fun hquad => ?phase⟩, fun hsingle => ⟨?noReverse, ?noPhase⟩⟩
  case counted => exact (exec_forwardPulse m s).trans (event_to hs (pulse_free_counted hfree hnot _) rfl rfl)
  case countedBack =>
    exact event_to hs ((reversePulse_of_quad hquad).trans (pulse_free_counted hfree hnot _)) rfl rfl
  case ownerless =>
    refine (exec_forwardPulse m s).trans (event_to hs ((pulse_free_due hfree hstray htold _).trans ?_) rfl rfl)
    rw [hnone]
    rfl
  case ownerlessBack =>
    refine event_to hs ((reversePulse_of_quad hquad).trans ((pulse_free_due hfree hstray htold _).trans ?_)) rfl rfl
    rw [hnone]
    rfl
  case owned =>
    refine (exec_forwardPulse m s).trans (event_finish_to hs ((pulse_free_due hfree hstray htold _).trans ?_))
    rw [hsd]
    rfl
  case ownedBack =>
    refine event_finish_to hs ((reversePulse_of_quad hquad).trans ((pulse_free_due hfree hstray htold _).trans ?_))
    rw [hsd]
    rfl
  case phase =>
    exact event_to hs ((phaseYield_of_quad hquad).trans (phaseError_endCycle_of_free hfree)) rfl rfl
  case noReverse => exact event_unchanged hs (reversePulse_of_single hsingle)
  case noPhase => exact event_unchanged hs (phaseYield_of_single hsingle)

/-! ### Observations -/

section
variable {s : State} {m : Meter} {seen r : LineState}

theorem observe_first (href : (s.channel m).reference = none) : observe m seen s = withDecoder m seen 0 s := by
  simp only [observe, href]

theorem observe_of_quad (href : (s.channel m).reference = some r) (hmode : (s.cfg.meters.get m).mode = .quad) :
    observe m seen s = observeQuad m r seen s := by
  simp only [observe, href, State.meterMode, hmode]

theorem observe_of_single (href : (s.channel m).reference = some r) (hmode : (s.cfg.meters.get m).mode = .single) :
    observe m seen s = observeSingle m r seen s := by
  simp only [observe, href, State.meterMode, hmode]

theorem observeQuad_of_same (h : quarterOf r seen = .same) :
    observeQuad m r seen s = withDecoder m seen (s.channel m).cyclePos s := by
  simp only [observeQuad, h]

theorem observeQuad_of_both (h : quarterOf r seen = .both) :
    observeQuad m r seen s = phaseError m (withDecoder m seen 0 s) := by
  simp only [observeQuad, h]

theorem observeQuad_of_forward (h : quarterOf r seen = .forward) :
    observeQuad m r seen s = if (s.channel m).cyclePos = 3 then pulse .forward m (withDecoder m seen 0 s)
      else withDecoder m seen ((s.channel m).cyclePos + 1) s := by
  have hlast : (s.channel m).cyclePos + 1 = 4 ↔ (s.channel m).cyclePos = 3 := by omega
  simp only [observeQuad, h, hlast]

theorem observeQuad_of_backward (h : quarterOf r seen = .backward) :
    observeQuad m r seen s = if (s.channel m).cyclePos = -3 then pulse .reverse m (withDecoder m seen 0 s)
      else withDecoder m seen ((s.channel m).cyclePos - 1) s := by
  have hfirst : (s.channel m).cyclePos - 1 = -4 ↔ (s.channel m).cyclePos = -3 := by omega
  simp only [observeQuad, h, hfirst]

end

theorem quarterOf_self (r : LineState) : quarterOf r r = .same := by
  obtain ⟨a, b⟩ := r
  cases a <;> cases b <;> rfl

theorem quarterOf_both {r seen : LineState} (ha : seen.a ≠ r.a) (hb : seen.b ≠ r.b) : quarterOf r seen = .both := by
  obtain ⟨a, b⟩ := r
  obtain ⟨c, d⟩ := seen
  cases a <;> cases b <;> cases c <;> cases d <;> simp_all <;> rfl

theorem quarterOf_forward {r seen : LineState} (h : (r, seen) ∈ [(⟨false, false⟩, ⟨true, false⟩),
    (⟨true, false⟩, ⟨true, true⟩), (⟨true, true⟩, ⟨false, true⟩), ((⟨false, true⟩ : LineState),
      (⟨false, false⟩ : LineState))]) : quarterOf r seen = .forward := by
  simp only [List.mem_cons, Prod.mk.injEq, List.not_mem_nil, or_false] at h
  rcases h with ⟨rfl, rfl⟩ | ⟨rfl, rfl⟩ | ⟨rfl, rfl⟩ | ⟨rfl, rfl⟩ <;> rfl

theorem quarterOf_backward {r seen : LineState} (h : (seen, r) ∈ [(⟨false, false⟩, ⟨true, false⟩),
    (⟨true, false⟩, ⟨true, true⟩), (⟨true, true⟩, ⟨false, true⟩), ((⟨false, true⟩ : LineState),
      (⟨false, false⟩ : LineState))]) : quarterOf r seen = .backward := by
  simp only [List.mem_cons, Prod.mk.injEq, List.not_mem_nil, or_false] at h
  rcases h with ⟨rfl, rfl⟩ | ⟨rfl, rfl⟩ | ⟨rfl, rfl⟩ | ⟨rfl, rfl⟩ <;> rfl

/-- An observation that yields is the event of the command that it yields, in the state with the decoder set. -/
theorem observation_yields {s : State} {m : Meter} {seen : LineState} {f : State → State}
    (hs : s.Live) (h : observe m seen s = f (withDecoder m seen 0 s)) :
    exec (.pulserObservation m seen) s = event f (withDecoder m seen 0 s) :=
  (event_finish_to hs h).trans (event_of_live (s := withDecoder m seen 0 s) hs).symm

/-- Settles O50: the first observation, then QUAD by the quarter of the cycle and the position, then SINGLE. -/
theorem observationsYieldAfterFourSteps : Obligations.ObservationsYieldAfterFourSteps := by
  intro s m seen hs saw
  refine ⟨fun hfirst => event_to hs (observe_first hfirst) rfl rfl, fun r href => ⟨fun hquad =>
    ⟨fun hsame => ?same, fun ha hb => ?both, fun hstep => ⟨fun hpos => ?forward, fun hpos => ?forwardYield⟩,
      fun hstep => ⟨fun hpos => ?backward, fun hpos => ?backwardYield⟩⟩, fun hsingle =>
    ⟨fun hrise hlow => ?rise, fun hnot => ?flat⟩⟩⟩
  case same =>
    subst hsame
    exact event_to hs ((observe_of_quad href hquad).trans (observeQuad_of_same (quarterOf_self seen))) rfl rfl
  case both =>
    refine observation_yields hs (f := phaseYield m) ((observe_of_quad href hquad).trans ?_)
    rw [observeQuad_of_both (quarterOf_both ha hb), phaseYield_of_quad (s := withDecoder m seen 0 s) hquad,
      endCycle_withDecoder_zero]
  case forward =>
    refine event_to hs ((observe_of_quad href hquad).trans ?_) rfl rfl
    rw [observeQuad_of_forward (quarterOf_forward hstep), if_neg hpos]
    rfl
  case forwardYield =>
    refine observation_yields hs (f := fun u => pulse .forward m (endCycle m u)) ((observe_of_quad href hquad).trans ?_)
    rw [observeQuad_of_forward (quarterOf_forward hstep), if_pos hpos, endCycle_withDecoder_zero]
  case backward =>
    refine event_to hs ((observe_of_quad href hquad).trans ?_) rfl rfl
    rw [observeQuad_of_backward (quarterOf_backward hstep), if_neg hpos]
    rfl
  case backwardYield =>
    refine observation_yields hs (f := reversePulse m) ((observe_of_quad href hquad).trans ?_)
    rw [observeQuad_of_backward (quarterOf_backward hstep), if_pos hpos,
      reversePulse_of_quad (s := withDecoder m seen 0 s) hquad, endCycle_withDecoder_zero]
  case rise =>
    refine observation_yields hs (f := fun u => pulse .forward m (endCycle m u)) ((observe_of_single href hsingle).trans ?_)
    rw [endCycle_withDecoder_zero]
    simp [observeSingle, hrise, hlow]
  case flat =>
    refine event_to hs ((observe_of_single href hsingle).trans ?_) rfl rfl
    rcases hnot with h | h <;> simp only [observeSingle, h] <;> simp <;> rfl

end Sys2Proof.Machine
end

section

/-! ## Engaged pulses: the counters, the figures, and the sale they act on (R5 to R11, R29, R47 to R54) -/

namespace Sys2Proof.Machine

open Sys2Proof

/-! ### The counters of a sale -/

section
variable {ctx : Sale} {m : Meter} {c : Counters}

/-- The meters of a sale, by which one the counters are of. -/
theorem Sale.counters_cases (h : ctx.counters m = some c) :
    (ctx.primary = m ∧ ctx.primaryCt = c) ∨ (ctx.primary ≠ m ∧ ctx.secondary = some (m, c)) := by
  unfold Sale.counters at h
  by_cases hp : ctx.primary = m
  · rw [if_pos hp] at h
    cases h
    exact .inl ⟨hp, rfl⟩
  · rw [if_neg hp] at h
    cases hs : ctx.secondary with
    | none => simp [hs] at h
    | some x =>
      obtain ⟨n, c'⟩ := x
      by_cases hn : n = m
      · simp only [hs, hn, if_true] at h
        cases h
        exact .inr ⟨hp, by rw [hn]⟩
      · simp [hs, hn] at h

/-- New counters replace those of their meter, and nothing else of the sale. -/
theorem Sale.withCounters_cases (h : ctx.counters m = some c) (c1 : Counters) :
    (ctx.primary = m ∧ ctx.withCounters m c1 = { ctx with primaryCt := c1 }) ∨
    (ctx.primary ≠ m ∧ ctx.withCounters m c1 = { ctx with secondary := some (m, c1) }) := by
  rcases Sale.counters_cases h with ⟨hp, -⟩ | ⟨hp, hs⟩
  · exact .inl ⟨hp, by simp [Sale.withCounters, hp]⟩
  · exact .inr ⟨hp, by simp [Sale.withCounters, hp, hs]⟩

theorem Sale.counters_withCounters (h : ctx.counters m = some c) (c1 : Counters) :
    (ctx.withCounters m c1).counters m = some c1 := by
  rcases Sale.withCounters_cases h c1 with ⟨hp, e⟩ | ⟨hp, e⟩ <;> simp [Sale.counters, e, hp]

theorem Sale.withCounters_eq (h : ctx.counters m = some c) (c1 : Counters) :
    ctx.withCounters m c1 = { ctx with
      primaryCt := (ctx.withCounters m c1).primaryCt, secondary := (ctx.withCounters m c1).secondary } := by
  rcases Sale.withCounters_cases h c1 with ⟨-, e⟩ | ⟨-, e⟩ <;> rw [e]

end

/-! ### The renewal and the reports -/

section
variable {sd : Side} {s : State} {p : Phase} {ctx : Sale}

theorem withSale_of_sale (h : s.sideState sd = .sale p ctx) (f : Sale → Sale) :
    withSale sd f s = s.withSideState sd (.sale p (f ctx)) := by
  simp only [withSale, h]

/-- A stop that a test result brings, where the sale is not in STOPPED. -/
theorem actOnResult_withSale (s : State) (sd : Side) (p : Phase) (ctx : Sale) (hp : ∀ e, p ≠ .stopped e) (r : EndReason) :
    stopSale sd r none (s.withSideState sd (.sale p ctx)) = s.withSideState sd (s.saleStopped r ctx) := by
  rw [stopSale_eq (State.sideState_withSideState s sd _) hp, State.withSideState_withSideState]
  rfl

/-- The no-flow timer started afresh, the figures renewed and their result acted on: what the statements call the side
after a renewal. -/
theorem renew_flowIndication (h : s.sideState sd = .sale p ctx) :
    renew sd (flowIndication sd s) =
      s.withSideState sd (s.afterRenewal p { ctx with figures := renewedFigures s.cfg ctx }) := by
  have hlast : (renewedFigures s.cfg ctx).last = classifyFigures ctx.limit (renewedFigures s.cfg ctx) := rfl
  cases p with
  | stopped e =>
    have hflow : flowIndication sd s = s := by simp only [flowIndication, h]
    simp only [hflow, renew, h, State.afterRenewal, actOnResult]
    cases (renewedFigures s.cfg ctx).last with
    | clear => rfl
    | slow => simp only [State.sideState_withSideState]
    | limit => exact stopSale_of_stopped (State.sideState_withSideState s sd _) _ _
    | saturated => exact stopSale_of_stopped (State.sideState_withSideState s sd _) _ _
  | starting d =>
    have hflow : flowIndication sd s = s := by simp only [flowIndication, h]
    simp only [hflow, renew, h, State.afterRenewal, actOnResult, ← hlast]
    cases (renewedFigures s.cfg ctx).last with
    | clear => rfl
    | slow => simp only [State.sideState_withSideState]
    | limit => exact actOnResult_withSale s sd _ _ (by simp) _
    | saturated => exact actOnResult_withSale s sd _ _ (by simp) _
  | suspended d =>
    have hflow : flowIndication sd s = s := by simp only [flowIndication, h]
    simp only [hflow, renew, h, State.afterRenewal, actOnResult, ← hlast]
    cases (renewedFigures s.cfg ctx).last with
    | clear => rfl
    | slow => simp only [State.sideState_withSideState]
    | limit => exact actOnResult_withSale s sd _ _ (by simp) _
    | saturated => exact actOnResult_withSale s sd _ _ (by simp) _
  | fuelling d =>
    have hflow : flowIndication sd s =
        s.withSideState sd (.sale (.fuelling (s.now + 1000 * s.cfg.timers.noFlow)) ctx) := by simp only [flowIndication, h]
    simp only [hflow, renew, State.sideState_withSideState, State.withSideState_withSideState, State.afterRenewal,
      actOnResult, ← hlast, State.withSideState_cfg]
    cases (renewedFigures s.cfg ctx).last with
    | clear => rfl
    | slow => rfl
    | limit => exact actOnResult_withSale s sd _ _ (by simp) _
    | saturated => exact actOnResult_withSale s sd _ _ (by simp) _
  | slowing d =>
    have hflow : flowIndication sd s =
        s.withSideState sd (.sale (.slowing (s.now + 1000 * s.cfg.timers.noFlow)) ctx) := by simp only [flowIndication, h]
    simp only [hflow, renew, State.sideState_withSideState, State.withSideState_withSideState, State.afterRenewal,
      actOnResult, ← hlast, State.withSideState_cfg]
    cases (renewedFigures s.cfg ctx).last with
    | clear => rfl
    | slow => rfl
    | limit => exact actOnResult_withSale s sd _ _ (by simp) _
    | saturated => exact actOnResult_withSale s sd _ _ (by simp) _

theorem EndReason.latched_ne_none_iff (r : EndReason) :
    r.latched ≠ none ↔ r ∈ [EndReason.meterFault, .reverseFlow, .strayFlow, .displayFault] := by
  cases r <;> simp [EndReason.latched]

/-- A report as the statements say it. -/
theorem takeReport_eq (h : s.sideState sd = .sale p ctx) (kind : MeterReport) (m : Meter) :
    takeReport sd kind m s = s.withSideState sd (s.afterReport kind m (.sale p ctx)) := by
  have hbefore : (∀ e, p ≠ .stopped e) → takeReport sd kind m s =
      s.withSideState sd (.sale (.stopped ⟨kind.endReason, some m, ctx.figures.volume,
        if ctx.hangSeen then some (s.now + s.cfg.timers.settle) else none⟩) ctx) := fun hp => by
    rw [takeReport_of_not_stopped h hp, stopSale_eq h hp]
  cases p with
  | starting d => rw [hbefore (by simp)]; cases kind <;> rfl
  | fuelling d => rw [hbefore (by simp)]; cases kind <;> rfl
  | slowing d => rw [hbefore (by simp)]; cases kind <;> rfl
  | suspended d => rw [hbefore (by simp)]; cases kind <;> rfl
  | stopped e =>
    by_cases hset : e.reason.latched ≠ none ∨ ctx.closureAfter ≠ none
    · have hlisted : kind = .highFlow ∨ e.reason ∈ [EndReason.meterFault, .reverseFlow, .strayFlow, .displayFault] ∨
          ctx.closureAfter ≠ none := .inr (hset.imp_left (EndReason.latched_ne_none_iff _).1)
      rw [State.afterReport, if_pos hlisted, State.withSideState_self h]
      cases kind with
      | highFlow => exact takeReport_highFlow_of_stopped h m
      | meterFault =>
        rw [takeReport_meterFault_of_stopped h, faultInStopped_kept hset, State.withSideState_self h]
      | reverseFlow =>
        rw [takeReport_reverseFlow_of_stopped h, faultInStopped_kept hset, State.withSideState_self h]
    · obtain ⟨hlatched, hclosure⟩ := not_or.1 hset
      have hunlisted := mt (EndReason.latched_ne_none_iff e.reason).2 hlatched
      cases kind with
      | highFlow =>
        rw [State.afterReport, if_pos (.inl rfl), State.withSideState_self h]
        exact takeReport_highFlow_of_stopped h m
      | meterFault =>
        rw [State.afterReport, if_neg (by simp [hunlisted, hclosure]),
          takeReport_meterFault_of_stopped h, faultInStopped_set (not_not.1 hlatched) (not_not.1 hclosure)]
        rfl
      | reverseFlow =>
        rw [State.afterReport, if_neg (by simp [hunlisted, hclosure]),
          takeReport_reverseFlow_of_stopped h, faultInStopped_set (not_not.1 hlatched) (not_not.1 hclosure)]
        rfl

end

/-! ### An engaged pulse -/

/-- The command of a pulse in a direction. -/
def pulseCommand (m : Meter) : Direction → Instr
  | .forward => .forwardPulse m
  | .reverse => .reversePulse m

theorem exec_pulseCommand {s t : State} {m : Meter} {d : Direction} (hs : s.Live)
    (hquad : d = .reverse → (s.cfg.meters.get m).mode = .quad) (h : pulse d m (endCycle m s) = t)
    (hnvs : t.nvs = s.nvs) (hpsq : t.psq = s.psq) : exec (pulseCommand m d) s = .next t := by
  cases d with
  | forward => exact (exec_forwardPulse m s).trans (event_to hs h hnvs hpsq)
  | reverse => exact event_to hs ((reversePulse_of_quad (hquad rfl)).trans h) hnvs hpsq

theorem countPulse_kept (now : Nat) (d : Direction) (c : Counters) :
    (countPulse now d c).saidReverse = c.saidReverse ∧ (countPulse now d c).saidHigh = c.saidHigh ∧
    (countPulse now d c).phase = c.phase := by
  cases d with
  | forward =>
    simp only [countPulse, countRate, countForward]
    by_cases hnet : c.net < Config.countMax <;> by_cases hrate : now - c.rateStart < Config.rateWindow <;>
      simp [hnet, hrate]
  | reverse =>
    simp only [countPulse, countRate, countReverse]
    by_cases hrate : now - c.rateStart < Config.rateWindow <;> simp [hrate]

section
variable (s : State) (m : Meter) (d : Direction) (c : Counters)

/-- The pulse brings the report of a reverse fault (R8). -/
def State.pulseReverse : Bool :=
  d == .reverse && decide (((s.cfg.meters.get m).ra : Int) <
    ((countPulse s.now d c).high : Int) - (countPulse s.now d c).net) && !c.saidReverse

/-- The pulse brings the report of a rate above Fmax (R10). -/
def State.pulseHigh : Bool :=
  decide ((s.cfg.meters.get m).fmax < 10 * (countPulse s.now d c).rateCount) && !c.saidHigh

/-- The counters of the meter after the pulse, with the marks of its reports. -/
def State.pulseCounters : Counters := { countPulse s.now d c with
  saidReverse := c.saidReverse || s.pulseReverse m d c, saidHigh := c.saidHigh || s.pulseHigh m d c }

/-- The sale with the pulse counted and its figures renewed. -/
def State.pulsedSale (ctx : Sale) : Sale := { ctx.withCounters m (s.pulseCounters m d c) with
  figures := renewedFigures s.cfg (ctx.withCounters m (s.pulseCounters m d c)) }

end

/-- An engaged pulse: counted, renewed, and then its reports. -/
theorem pulse_endCycle_of_engaged {s : State} {m : Meter} {sd : Side} {p : Phase} {ctx : Sale} {c : Counters}
    (hengaged : s.engagement m = some (sd, ctx, c)) (hstate : s.sideState sd = .sale p ctx) (d : Direction) :
    pulse d m (endCycle m s) = reportPulse sd m (s.pulseReverse m d c) (s.pulseHigh m d c)
      ((endCycle m s).withSideState sd (s.afterRenewal p (s.pulsedSale m d c ctx))) := by
  obtain ⟨hreverse, hhigh, -⟩ := countPulse_kept s.now d c
  have hrev : reverseFault d ((endCycle m s).cfg.meters.get m).ra (countPulse (endCycle m s).now d c) =
      s.pulseReverse m d c := by
    rw [reverseFault, State.pulseReverse, ← hreverse]
    rfl
  have hrate : highFault ((endCycle m s).cfg.meters.get m).fmax (countPulse (endCycle m s).now d c) =
      s.pulseHigh m d c := by
    rw [highFault, State.pulseHigh, ← hhigh]
    rfl
  have hcounters : { countPulse (endCycle m s).now d c with
      saidReverse := (countPulse (endCycle m s).now d c).saidReverse || s.pulseReverse m d c
      saidHigh := (countPulse (endCycle m s).now d c).saidHigh || s.pulseHigh m d c } = s.pulseCounters m d c := by
    simp [endCycle, State.pulseCounters, hreverse, hhigh]
  have hsale : (endCycle m s).sideState sd = .sale p ctx := hstate
  have hrenewed := renew_flowIndication (State.sideState_withSideState (endCycle m s) sd
    (.sale p (ctx.withCounters m (s.pulseCounters m d c))))
  rw [State.withSideState_withSideState] at hrenewed
  simp only [pulse, (engagement_endCycle s m).trans hengaged, engagedPulse, hrev, hrate, hcounters,
    withSale_of_sale hsale]
  rw [hrenewed]
  rfl

/-! ### The reports of a pulse -/

theorem afterRenewal_sale (s : State) (p : Phase) (ctx : Sale) : ∃ q, s.afterRenewal p ctx = .sale q ctx := by
  unfold State.afterRenewal
  cases p <;> cases classifyFigures ctx.limit ctx.figures <;> exact ⟨_, rfl⟩

theorem afterReport_sale (s : State) (kind : MeterReport) (m : Meter) (p : Phase) (ctx : Sale) :
    ∃ q x, s.afterReport kind m (.sale p ctx) = .sale q { ctx with closureAfter := x } := by
  cases p with
  | stopped e =>
    rw [State.afterReport]
    split
    · exact ⟨_, ctx.closureAfter, rfl⟩
    · exact ⟨_, _, rfl⟩
  | starting d => exact ⟨_, ctx.closureAfter, rfl⟩
  | fuelling d => exact ⟨_, ctx.closureAfter, rfl⟩
  | slowing d => exact ⟨_, ctx.closureAfter, rfl⟩
  | suspended d => exact ⟨_, ctx.closureAfter, rfl⟩

/-- Two reports, one after the other. -/
theorem takeReport_takeReport {s : State} {sd : Side} {p : Phase} {ctx : Sale} (h : s.sideState sd = .sale p ctx)
    (k1 k2 : MeterReport) (m : Meter) :
    takeReport sd k2 m (takeReport sd k1 m s) =
      s.withSideState sd (s.afterReport k2 m (s.afterReport k1 m (.sale p ctx))) := by
  obtain ⟨q, x, hafter⟩ := afterReport_sale s k1 m p ctx
  rw [takeReport_eq h, hafter, takeReport_eq (State.sideState_withSideState s sd _), State.withSideState_withSideState]
  rfl

section
variable {s : State} {sd : Side} {p : Phase} {ctx : Sale} (h : s.sideState sd = .sale p ctx) (m : Meter)
include h

/-- Where both reports arise they act in one of the two orders. -/
theorem reportPulse_both :
    reportPulse sd m true true s =
      s.drawn.withSideState sd (s.afterReport .highFlow m (s.afterReport .reverseFlow m (.sale p ctx))) ∨
    reportPulse sd m true true s =
      s.drawn.withSideState sd (s.afterReport .reverseFlow m (s.afterReport .highFlow m (.sale p ctx))) := by
  have hdrawn : s.drawn.sideState sd = .sale p ctx := h
  simp only [reportPulse, Bool.and_self, if_true]
  by_cases hfirst : Config.highFlowFirst s.freeCount = true
  · rw [if_pos hfirst]
    exact .inr (takeReport_takeReport hdrawn _ _ m)
  · rw [if_neg hfirst]
    exact .inl (takeReport_takeReport hdrawn _ _ m)

/-- Whatever a pulse reports, the sale keeps all but its phase and its closure, and nothing else changes but the draw
of a free order. -/
theorem reportPulse_sale (rev high : Bool) : ∃ q x n, reportPulse sd m rev high s =
    { s with freeCount := n }.withSideState sd (.sale q { ctx with closureAfter := x }) := by
  have hkept : s = { s with freeCount := s.freeCount }.withSideState sd (.sale p ctx) :=
    (State.withSideState_self h).symm
  cases rev with
  | false =>
    cases high with
    | false => exact ⟨p, ctx.closureAfter, s.freeCount, hkept⟩
    | true =>
      obtain ⟨q, x, hafter⟩ := afterReport_sale s .highFlow m p ctx
      exact ⟨q, x, s.freeCount, (takeReport_eq h .highFlow m).trans (by rw [hafter])⟩
  | true =>
    cases high with
    | false =>
      obtain ⟨q, x, hafter⟩ := afterReport_sale s .reverseFlow m p ctx
      exact ⟨q, x, s.freeCount, (takeReport_eq h .reverseFlow m).trans (by rw [hafter])⟩
    | true =>
      obtain ⟨q, x, hreverse⟩ := afterReport_sale s .reverseFlow m p ctx
      obtain ⟨q', x', hhigh⟩ := afterReport_sale s .highFlow m p ctx
      obtain ⟨q1, x1, hthen⟩ := afterReport_sale s .highFlow m q { ctx with closureAfter := x }
      obtain ⟨q2, x2, hthen'⟩ := afterReport_sale s .reverseFlow m q' { ctx with closureAfter := x' }
      rcases reportPulse_both h m with e | e
      · exact ⟨q1, x1, s.freeCount + 1, e.trans (by rw [hreverse, hthen]; rfl)⟩
      · exact ⟨q2, x2, s.freeCount + 1, e.trans (by rw [hhigh, hthen']; rfl)⟩

end

/-! ### Phase errors -/

/-- An engaged phase error before the report: counted up to 8. -/
theorem engagedPhase_eq {s : State} {sd : Side} {p : Phase} {ctx : Sale} (h : s.sideState sd = .sale p ctx) (m : Meter)
    (c : Counters) {n : Nat} {fault : Bool} (hn : min (c.phase + 1) 8 = n)
    (hfault : (decide (n = 8) && !c.saidFault) = fault) :
    engagedPhase sd m ctx c s = if fault
      then s.withSideState sd (s.afterReport .meterFault m
        (.sale p (ctx.withCounters m { c with phase := n, saidFault := c.saidFault || fault })))
      else s.withSideState sd (.sale p (ctx.withCounters m { c with phase := n, saidFault := c.saidFault || fault })) := by
  simp only [engagedPhase, hn, hfault, withSale_of_sale h]
  cases fault with
  | false => rfl
  | true =>
    simp only [if_true]
    rw [takeReport_eq (State.sideState_withSideState s sd _), State.withSideState_withSideState]
    rfl

/-- Settles O49: the pulse by the reports it brings, and the phase error by the count it reaches. -/
theorem pulsesActOnTheSale : Obligations.PulsesActOnTheSale := by
  intro s m sd p ctx c hs hengaged hstate
  refine ⟨fun d hquad => ?pulse, fun hquad => ?phase⟩
  case pulse =>
    intro pulse c1 rev high counted renewed seen
    have hcommand : pulse = pulseCommand m d := by cases d <;> rfl
    have hpulse := pulse_endCycle_of_engaged hengaged hstate d
    obtain ⟨q, hsale⟩ := afterRenewal_sale s p (s.pulsedSale m d c ctx)
    have hseen : (seen.withSideState sd renewed).sideState sd = .sale q (s.pulsedSale m d c ctx) :=
      (State.sideState_withSideState ..).trans hsale
    have hrenewed : renewed = .sale q (s.pulsedSale m d c ctx) := hsale
    have hreported : ∀ kind, takeReport sd kind m (seen.withSideState sd renewed) =
        seen.withSideState sd (s.afterReport kind m renewed) := fun kind => by
      rw [takeReport_eq hseen, State.withSideState_withSideState, hrenewed]
      rfl
    have hexec : ∀ {t : State}, reportPulse sd m rev high (seen.withSideState sd renewed) = t → t.nvs = s.nvs →
        t.psq = s.psq → exec pulse s = .next t := fun ht hnvs hpsq => by
      rw [hcommand]
      exact exec_pulseCommand hs hquad (hpulse.trans ht) hnvs hpsq
    refine ⟨fun hrev hhigh => ?_, fun hrev hhigh => ?_, fun hrev hhigh => ?_, fun hrev hhigh => ?_⟩
    · exact hexec (by rw [hrev, hhigh]; rfl) rfl rfl
    · exact hexec (by rw [hrev, hhigh]; exact hreported .reverseFlow) rfl rfl
    · exact hexec (by rw [hrev, hhigh]; exact hreported .highFlow) rfl rfl
    · refine ⟨_, hexec rfl (by simp [seen]) (by simp [seen]), ?_⟩
      rw [hrev, hhigh]
      rcases reportPulse_both hseen m with e | e <;> rw [e, State.sideState_withSideState, hrenewed]
      · exact .inl rfl
      · exact .inr rfl
  case phase =>
    intro errors
    have hstate' : errors.sideState sd = .sale p ctx := hstate
    have hexec : ∀ {t : State}, engagedPhase sd m ctx c errors = t → t.nvs = s.nvs → t.psq = s.psq →
        exec (.phaseError m) s = .next t := fun ht hnvs hpsq =>
      event_to hs ((phaseYield_of_quad hquad).trans ((phaseError_endCycle_of_engaged hengaged).trans ht)) hnvs hpsq
    refine ⟨fun hfew => ?_, fun hseven hnew => ?_, fun hmany hsaid => ?_⟩
    · refine hexec ((engagedPhase_eq hstate' m c (n := c.phase + 1) (fault := false) (by omega) ?_).trans ?_) rfl rfl
      · simp; omega
      · simp
    · refine hexec ((engagedPhase_eq hstate' m c (n := 8) (fault := true) (by omega) ?_).trans ?_) rfl rfl
      · simp [hnew]
      · simp only [if_true, Bool.or_true]
        rfl
    · refine hexec ((engagedPhase_eq hstate' m c (n := 8) (fault := false) (by omega) ?_).trans ?_) rfl rfl
      · simp [hsaid]
      · simp

/-! ### What a pulse leaves in its counters and figures -/

theorem countRate_net (now : Nat) (c : Counters) : (countRate now c).net = c.net := by
  unfold countRate
  split <;> rfl

theorem countRate_reverse (now : Nat) (c : Counters) : (countRate now c).reverse = c.reverse := by
  unfold countRate
  split <;> rfl

theorem countRate_high (now : Nat) (c : Counters) : (countRate now c).high = c.high := by
  unfold countRate
  split <;> rfl

section
variable (s : State) (m : Meter) (c : Counters)

/-- A forward pulse in N and H (R7). -/
theorem pulseCounters_forward :
    (s.pulseCounters m .forward c).net = min (c.net + 1) (max c.net 67108863) ∧
    (s.pulseCounters m .forward c).reverse = c.reverse ∧
    (c.net < 67108863 → ((s.pulseCounters m .forward c).high : Int) = max (c.high : Int) (c.net + 1)) ∧
    (67108863 ≤ c.net → (s.pulseCounters m .forward c).high = c.high) := by
  simp only [State.pulseCounters, countPulse, countRate_net, countRate_reverse, countRate_high, countForward, Config.countMax]
  by_cases hfull : c.net < 67108863
  · simp only [Nat.cast_ofNat, hfull, if_true]
    refine ⟨by omega, trivial, fun _ => ?_, fun h => by omega⟩
    split <;> omega
  · simp only [Nat.cast_ofNat, hfull, if_false]
    exact ⟨by omega, trivial, False.elim, fun _ => trivial⟩

/-- A reverse pulse in N and the reverse total (R8). -/
theorem pulseCounters_reverse :
    (s.pulseCounters m .reverse c).net = max (c.net - 1) (min c.net (-67108864)) ∧
    (s.pulseCounters m .reverse c).high = c.high ∧
    (s.pulseCounters m .reverse c).reverse = min (c.reverse + 1) 67108863 := by
  simp only [State.pulseCounters, countPulse, countRate_net, countRate_reverse, countRate_high, countReverse, Config.countMax, and_true]
  split <;> omega

/-- A pulse in its rate window (R10). -/
theorem pulseCounters_rate (d : Direction) :
    (s.now - c.rateStart < 100 → (s.pulseCounters m d c).rateStart = c.rateStart ∧
      (s.pulseCounters m d c).rateCount = min (c.rateCount + 1) 65535) ∧
    (100 ≤ s.now - c.rateStart →
      (s.pulseCounters m d c).rateStart = c.rateStart + (s.now - c.rateStart) / 100 * 100 ∧
      (s.pulseCounters m d c).rateCount = 1) := by
  have hcounted : ∃ x : Counters, x.rateStart = c.rateStart ∧ x.rateCount = c.rateCount ∧
      countPulse s.now d c = countRate s.now x := by
    cases d with
    | forward =>
      refine ⟨countForward c, ?_, ?_, rfl⟩ <;> (unfold countForward; split <;> rfl)
    | reverse => exact ⟨countReverse c, rfl, rfl, rfl⟩
  obtain ⟨x, hstart, hcount, e⟩ := hcounted
  simp only [State.pulseCounters, e, countRate, Config.rateWindow, hstart, hcount]
  by_cases hin : s.now - c.rateStart < 100
  · simp only [hin, if_true]
    exact ⟨fun _ => ⟨trivial, trivial⟩, fun h => absurd h (by omega)⟩
  · simp only [hin, if_false]
    exact ⟨False.elim, fun _ => ⟨trivial, trivial⟩⟩

end

/-- A second renewal on the same counts changes nothing. -/
theorem renewedFigures_idempotent (cfg : Cfg) (ctx : Sale) :
    renewedFigures cfg { ctx with figures := renewedFigures cfg ctx } = renewedFigures cfg ctx := by
  have hagain : ∀ a b c : Bool, (a || b || c || b || c) = (a || b || c) := by decide
  have hpriced : ∀ (f : Figures) (price v1 v2 : Nat) (last : TestResult),
      pricedFigures { pricedFigures f price v1 v2 with last := last } price v1 v2 =
        { pricedFigures f price v1 v2 with last := last } := fun f price v1 v2 last => by
    simp only [pricedFigures, Figures.mk.injEq, true_and, and_true]
    exact hagain _ _ _
  simp only [renewedFigures, hpriced]
  rfl

/-- Settles O48: the sale after the pulse is the pulsed one, whatever its reports do to its phase and its closure. -/
theorem engagedPulsesArePriced : Obligations.EngagedPulsesArePriced := by
  intro s m sd ctx c hs hengaged d hquad
  obtain ⟨⟨p, hstate⟩, hcounters⟩ := engagement_eq_some hengaged
  have hpulse := pulse_endCycle_of_engaged hengaged hstate d
  obtain ⟨q, hrenewed⟩ := afterRenewal_sale s p (s.pulsedSale m d c ctx)
  rw [hrenewed] at hpulse
  obtain ⟨q', x, n, hreport⟩ := reportPulse_sale (State.sideState_withSideState (endCycle m s) sd
    (.sale q (s.pulsedSale m d c ctx))) m (s.pulseReverse m d c) (s.pulseHigh m d c)
  have hexec := exec_pulseCommand hs hquad (hpulse.trans hreport) rfl rfl
  have hcounted := Sale.withCounters_eq hcounters (s.pulseCounters m d c)
  have hSaleId := congrArg Sale.saleId hcounted
  have hLatch := congrArg Sale.latch hcounted
  have hLimit := congrArg Sale.limit hcounted
  have hHose := congrArg Sale.hose hcounted
  have hFigures := congrArg Sale.figures hcounted
  obtain ⟨-, -, hphase⟩ := countPulse_kept s.now d c
  obtain ⟨hwindow, hnewWindow⟩ := pulseCounters_rate s m c d
  refine ⟨_, q', { s.pulsedSale m d c ctx with closureAfter := x }, s.pulseCounters m d c, hexec,
    State.sideState_withSideState .., Sale.counters_withCounters hcounters _, ?forward, ?reverse, hphase, hwindow,
    hnewWindow, ?renewed, ?figures, ?saleId, ?latch, ?limit, ?hose, ?other, ?lifted, ?rest⟩
  case forward => rintro rfl; exact pulseCounters_forward s m c
  case reverse => rintro rfl; exact pulseCounters_reverse s m c
  case renewed => exact (renewedFigures_idempotent s.cfg (ctx.withCounters m (s.pulseCounters m d c))).symm
  case figures =>
    intro f units money
    simp only [f, units, money, State.pulsedSale, renewedFigures, pricedFigures, displayUnits, hFigures, hLatch, hLimit,
      Config.displayMax, true_and, and_true]
    cases h : (ctx.withCounters m (s.pulseCounters m d c)).secondary <;> exact ⟨rfl, rfl⟩
  case saleId => exact hSaleId
  case latch => exact hLatch
  case limit => exact hLimit
  case hose => exact hHose
  case other => simp [State.side, endCycle]
  case lifted => simp [State.lifted, State.side, endCycle]
  case rest => rfl

end Sys2Proof.Machine
end

section

/-! ## The completion of a sale (R15, R59, R85 to R93) -/

namespace Sys2Proof.Machine

open Sys2Proof

/-! ### A write queue that grows -/

theorem mem_enqueueKind_of_mem {w : Bool} {k k' : Kind} {q : List Kind} (h : k' ∈ q) : k' ∈ enqueueKind w k q := by
  unfold enqueueKind
  split
  · exact h
  · split
    · exact List.mem_cons_of_mem k h
    · exact List.mem_append_left [k] h

/-- Kinds that are queued one after the other. -/
def enqueueAll (warning : Bool) (ks : List Kind) (q : List Kind) : List Kind :=
  ks.foldl (fun q k => enqueueKind warning k q) q

theorem mem_enqueueAll {w : Bool} {k : Kind} (ks : List Kind) {q : List Kind} (h : k ∈ q) : k ∈ enqueueAll w ks q := by
  induction ks generalizing q with
  | nil => exact h
  | cons j ks ih => exact ih (mem_enqueueKind_of_mem h)

/-- The store of `t` is the one of `s` with some kinds queued, under the warning line of both. -/
def State.QueueGrown (s t : State) : Prop :=
  t.lines = s.lines ∧ ∃ ks, t.nvs = { s.nvs with queue := enqueueAll s.lines.warning ks s.nvs.queue }

theorem queueGrown_of_nvs {s t : State} (hlines : t.lines = s.lines) (hnvs : t.nvs = s.nvs) : s.QueueGrown t :=
  ⟨hlines, [], hnvs⟩

theorem State.QueueGrown.trans {s t u : State} (hst : s.QueueGrown t) (htu : t.QueueGrown u) : s.QueueGrown u := by
  obtain ⟨hlines, ks, hnvs⟩ := hst
  obtain ⟨hlines', ks', hnvs'⟩ := htu
  refine ⟨hlines'.trans hlines, ks ++ ks', ?_⟩
  rw [hnvs', hnvs, hlines]
  simp [enqueueAll]

theorem State.QueueGrown.mem {s t : State} (h : s.QueueGrown t) {k : Kind} (hk : k ∈ s.nvs.queue) : k ∈ t.nvs.queue := by
  obtain ⟨-, ks, hnvs⟩ := h
  rw [hnvs]
  exact mem_enqueueAll ks hk

theorem requestWrite_queueGrown (k : Kind) (s : State) : s.QueueGrown (requestWrite k s) := ⟨rfl, [k], rfl⟩

theorem clearSideOpen_queueGrown (sd : Side) (s : State) : s.QueueGrown (clearSideOpen sd s) := by
  rcases clearSideOpen_cases sd s with ⟨-, e⟩ | ⟨-, e⟩ <;> rw [e]
  · exact queueGrown_of_nvs rfl rfl
  · exact (queueGrown_of_nvs rfl rfl).trans (requestWrite_queueGrown .config _)

theorem enterClosed_queueGrown (sd : Side) (r : ClosedReason) (s : State) : s.QueueGrown (enterClosed sd r s) := by
  have hkept : s.QueueGrown (s.withSideState sd (.closed r)) := queueGrown_of_nvs rfl rfl
  exact (hkept.trans (clearSideOpen_queueGrown sd _)).trans (queueGrown_of_nvs (by simp) (enterClosed_nvs sd r s))

theorem afterCompletion_queueGrown (sd : Side) (e : Ended) (ctx : Sale) (s : State) :
    s.QueueGrown (afterCompletion sd e ctx s) := by
  rcases afterCompletion_cases sd e ctx s with ⟨r, -, h⟩ | ⟨-, -, h⟩ <;> rw [h]
  · exact enterClosed_queueGrown sd r s
  · exact queueGrown_of_nvs (by simp) (by simp)

theorem recordSale_queueGrown (sd : Side) (e : Ended) (ctx : Sale) (s : State) : s.QueueGrown (recordSale sd e ctx s) := by
  unfold recordSale
  split
  · exact queueGrown_of_nvs rfl rfl
  · exact (requestWrite_queueGrown .metrology _).trans (queueGrown_of_nvs rfl rfl)

theorem completeSale_queueGrown (sd : Side) (s : State) : s.QueueGrown (completeSale sd s) := by
  rcases completeSale_cases sd s with ⟨h, -⟩ | ⟨e, ctx, -, h⟩ <;> rw [h]
  · exact queueGrown_of_nvs rfl rfl
  · exact ((recordSale_queueGrown sd e ctx s).trans (queueGrown_of_nvs (by simp) (by simp))).trans (afterCompletion_queueGrown ..)

/-! ### The side after completion -/

/-- The side state a completed sale leaves (R59 step 5). -/
def State.stateCompleted (s : State) (sd : Side) (e : Ended) (ctx : Sale) : SideState :=
  match e.reason.latched, ctx.closureAfter with
  | some q, _ => .closed q
  | none, some q => .closed q
  | none, none => if s.lifted sd = [] then .idle else .calling

theorem enterOpen_sides (sd : Side) (s : State) :
    (enterOpen sd s).sides = (s.withSideState sd (if s.lifted sd = [] then .idle else .calling)).sides := by
  rcases enterOpen_cases sd s with ⟨hl, h⟩ | ⟨hl, h⟩ <;> rw [h]
  · rw [if_pos hl]
  · rw [if_neg hl]; rfl

theorem afterCompletion_sides (sd : Side) (e : Ended) (ctx : Sale) (s : State) :
    (afterCompletion sd e ctx s).sides = (s.withSideState sd (s.stateCompleted sd e ctx)).sides := by
  rcases afterCompletion_cases sd e ctx s with ⟨r, hr, h⟩ | ⟨hl, hc, h⟩ <;> rw [h]
  · have hstate : s.stateCompleted sd e ctx = .closed r := by
      rcases hr with hl | ⟨hl, hc⟩
      · simp only [State.stateCompleted, hl]
      · simp only [State.stateCompleted, hl, hc]
    rw [enterClosed_sides, hstate]
  · have hstate : s.stateCompleted sd e ctx = if s.lifted sd = [] then .idle else .calling := by
      simp only [State.stateCompleted, hl, hc]
    rw [hstate, ← enterOpen_sides]
    simp

theorem afterCompletion_cfg (sd : Side) (e : Ended) (ctx : Sale) (s : State) :
    ∃ o, (afterCompletion sd e ctx s).cfg = { s.cfg with sideOpen := o } := by
  rcases afterCompletion_cases sd e ctx s with ⟨r, -, h⟩ | ⟨-, -, h⟩ <;> rw [h]
  · exact ⟨_, enterClosed_cfg sd r s⟩
  · exact ⟨s.cfg.sideOpen, by simp⟩

theorem enterOpen_keeps_raised {sd : Side} {s : State} {e : Event} (h : s.raised e = true) :
    (enterOpen sd s).raised e = true := by
  rcases enterOpen_cases sd s with ⟨-, eq⟩ | ⟨-, eq⟩ <;> rw [eq]
  · exact h
  · exact raised_of_raised h

theorem enterClosed_keeps_raised {sd : Side} {r : ClosedReason} {s : State} {e : Event} (h : s.raised e = true) :
    (enterClosed sd r s).raised e = true := by
  by_cases hsilent : s.psq.mode ≠ .run ∨ r = .management
  · simpa [State.raised, enterClosed_sli_silent sd r s hsilent] using h
  · obtain ⟨hrun, hreason⟩ := not_or.1 hsilent
    have hevents := enterClosed_events sd r s (not_not.1 hrun) hreason
    simp only [State.raised, hevents]
    exact raised_of_raised (e' := .closed sd) h

theorem afterCompletion_keeps_raised {sd : Side} {x : Ended} {ctx : Sale} {s : State} {e : Event}
    (h : s.raised e = true) : (afterCompletion sd x ctx s).raised e = true := by
  rcases afterCompletion_cases sd x ctx s with ⟨r, -, eq⟩ | ⟨-, -, eq⟩ <;> rw [eq]
  · exact enterClosed_keeps_raised h
  · exact enterOpen_keeps_raised (s := s) h

/-! ### What completion leaves -/

/-- The outcome of a sale that ends (R59 step 2). -/
def Figures.outcome (f : Figures) : EndOutcome := if f.zeroDelivery then .noDelivery else .stacked

theorem recordSale_side (sd : Side) (e : Ended) (ctx : Sale) (s : State) :
    (recordSale sd e ctx s).sides = s.sides.set sd { s.side sd with
      lastSale := ctx.saleId, lastOutcome := ctx.figures.outcome } := by
  unfold recordSale Figures.outcome
  by_cases h : ctx.figures.zeroDelivery = true <;> simp [h, State.side]

theorem recordSale_of_zero {ctx : Sale} (h : ctx.figures.zeroDelivery = true) (sd : Side) (e : Ended) (s : State) :
    (recordSale sd e ctx s).sru = s.sru ∧ (recordSale sd e ctx s).stack = s.stack := by
  simp [recordSale, h]

theorem recordSale_of_delivery {ctx : Sale} (h : ctx.figures.zeroDelivery = false) (sd : Side) (e : Ended) (s : State) :
    (recordSale sd e ctx s).sru = (stackRecord sd ctx (s.recordOf sd s.sru.seq e ctx) s).sru ∧
    (recordSale sd e ctx s).stack = (stackRecord sd ctx (s.recordOf sd s.sru.seq e ctx) s).stack ∧
    .metrology ∈ (recordSale sd e ctx s).nvs.queue := by
  rw [← buildRecord_eq_recordOf]
  simp only [recordSale, h, Bool.false_eq_true, if_false]
  exact ⟨rfl, rfl, requestWrite_mem .metrology _⟩

section
variable {s : State} {sd : Side} {e : Ended} {ctx : Sale} (h : s.sideState sd = .sale (.stopped e) ctx)
include h

theorem completeSale_eq : completeSale sd s =
    afterCompletion sd e ctx (raise (.done sd) (resetStrays sd (recordSale sd e ctx s))) := by
  simp only [completeSale, h]

theorem completeSale_sides : (completeSale sd s).sides = s.sides.set sd
    ⟨s.stateCompleted sd e ctx, s.lifted sd, ctx.saleId, ctx.figures.outcome⟩ := by
  have hlifted : (raise (.done sd) (resetStrays sd (recordSale sd e ctx s))).lifted sd = s.lifted sd := by
    simp [State.lifted, State.side, recordSale_side]
  have hstate : (raise (.done sd) (resetStrays sd (recordSale sd e ctx s))).stateCompleted sd e ctx =
      s.stateCompleted sd e ctx := by simp only [State.stateCompleted, hlifted]
  rw [completeSale_eq h, afterCompletion_sides, hstate]
  simp [recordSale_side, State.side, State.lifted]

theorem completeSale_side : (completeSale sd s).side sd =
    ⟨s.stateCompleted sd e ctx, s.lifted sd, ctx.saleId, ctx.figures.outcome⟩ := by
  rw [State.side, completeSale_sides h, PerSide.get_set_same]

theorem completeSale_sru : (completeSale sd s).sru = (recordSale sd e ctx s).sru := by
  rw [completeSale_eq h]; simp

theorem completeSale_stack : (completeSale sd s).stack = (recordSale sd e ctx s).stack := by
  rw [completeSale_eq h]; simp

theorem completeSale_raised : (completeSale sd s).raised (.done sd) = true := by
  rw [completeSale_eq h]
  exact afterCompletion_keeps_raised (raised_raise _ _)

theorem completeSale_channel (m : Meter) : (completeSale sd s).channel m =
    if owningSide s.cfg.hoses m = some sd then { s.channel m with stray := 0, strayTold := false }
    else s.channel m := by
  have hreset := resetStrays_channel sd (recordSale sd e ctx s) m
  rw [completeSale_eq h]
  simpa [State.channel] using hreset

theorem completeSale_queues_metrology (hdelivers : ctx.figures.zeroDelivery = false) :
    .metrology ∈ (completeSale sd s).nvs.queue := by
  obtain ⟨-, -, hqueued⟩ := recordSale_of_delivery hdelivers sd e s
  rw [completeSale_eq h]
  exact (afterCompletion_queueGrown sd e ctx _).mem (by simpa using hqueued)

end

theorem completeSale_side_other (sd : Side) (s : State) : (completeSale sd s).side sd.other = s.side sd.other := by
  rcases completeSale_cases sd s with ⟨h, -⟩ | ⟨e, ctx, h, -⟩
  · rw [h]
  · rw [State.side, completeSale_sides h, PerSide.get_set_other, State.side]

theorem zeroDelivery_iff (f : Figures) : f.zeroDelivery = true ↔ f.volume = 0 ∧ f.amount = 0 := by
  simp [Figures.zeroDelivery]

/-- The pulse totals of the two meters of a sale, each by its own count. -/
theorem addSalePulses_get {ctx : Sale} (hdistinct : ∀ n c, ctx.secondary = some (n, c) → n ≠ ctx.primary)
    (p : PerMeter Nat) (m : Meter) :
    (addSalePulses p ctx).get m =
      if m = ctx.primary then (p.get m + ctx.primaryCt.high) % 1000000000000
      else match ctx.secondary with
        | none => p.get m
        | some (n, c) => if m = n then (p.get m + c.high) % 1000000000000 else p.get m := by
  unfold addSalePulses addPulses
  cases hs : ctx.secondary with
  | none =>
    simp only [PerMeter.get_set]
    split
    · next e => rw [e]
    · rfl
  | some x =>
    obtain ⟨n, c⟩ := x
    have hne : n ≠ ctx.primary := hdistinct n c hs
    simp only [PerMeter.get_set, if_neg hne]
    by_cases hn : m = n
    · rw [if_pos hn, hn, if_neg hne]
      simp
    · rw [if_neg hn]
      by_cases hp : m = ctx.primary <;> simp [hp, hn]

/-- Settles O53: the timer, and what the completion leaves, field by field. -/
theorem completionStacksOneRecord : Obligations.CompletionStacksOneRecord := by
  intro s sd e ctx h
  refine ⟨fun hs d hd => ?timer, fun hs hd => ?noTimer, ?_⟩
  case timer => exact event_finish_to hs (by simp only [settleExpires, h, hd]; rfl)
  case noTimer => exact event_unchanged hs (by simp only [settleExpires, h, hd])
  intro t r
  have hside : t.side sd = ⟨s.stateCompleted sd e ctx, s.lifted sd, ctx.saleId, ctx.figures.outcome⟩ :=
    completeSale_side h
  have hrecord : s.recordOf sd s.sru.seq e ctx = r := rfl
  refine ⟨completeSale_raised h, by rw [hside], fun hzero => ?zero, fun hdelivers => ?delivery, fun m hm => ?own,
    fun m hm => ?others, ?state, completeSale_side_other sd s, ?lifted, ?rest⟩
  case zero =>
    have hz := (zeroDelivery_iff _).2 hzero
    obtain ⟨hsru, hstack⟩ := recordSale_of_zero hz sd e s
    refine ⟨?_, (completeSale_sru h).trans hsru, (completeSale_stack h).trans hstack⟩
    rw [hside, Figures.outcome, if_pos hz]
  case delivery =>
    have hz : ctx.figures.zeroDelivery = false := by
      rw [← Bool.not_eq_true, zeroDelivery_iff]
      omega
    obtain ⟨hsru, hstack, -⟩ := recordSale_of_delivery hz sd e s
    rw [← completeSale_sru h, hrecord] at hsru
    rw [← completeSale_stack h, hrecord] at hstack
    refine ⟨?_, hstack.trans (by simp [stackRecord]), ?_, ?_, ?_, fun hdistinct m => ?_, completeSale_queues_metrology h hz⟩
    · rw [hside, Figures.outcome, if_neg (by simp [hz])]
    · rw [hsru]; rfl
    · rw [hsru]; rfl
    · rw [hsru]; rfl
    · rw [hsru]; exact addSalePulses_get hdistinct _ m
  case own => exact (completeSale_channel h m).trans (if_pos hm)
  case others => exact (completeSale_channel h m).trans (if_neg hm)
  case state =>
    rw [State.sideState, hside]
    rfl
  case lifted => rw [State.lifted, hside]
  case rest => simp [t]

end Sys2Proof.Machine
end

section

/-! ## A sale that the power warning completes (R65, R177) -/

namespace Sys2Proof.Machine

open Sys2Proof

/-! ### The end of an event whose queue has only grown -/

theorem storeIdle_beginWrite_iff (s : State) :
    storeIdle (beginWrite s) = true ↔ s.nvs.job = none ∧ s.nvs.queue = [] := by
  rcases beginWrite_cases s with ⟨h, -⟩ | ⟨k, rest, hjob, -, hqueue, h⟩ <;> rw [h]
  · exact storeIdle_iff s
  · simp [storeIdle, hqueue]

/-- An event that empties no queue and ends no write leaves no drain to act on. -/
theorem finish_of_settled {s t : State} (hs : s.Settled) (hjob : t.nvs.job = s.nvs.job)
    (hqueue : t.nvs.queue = [] → s.nvs.queue = []) (hnight : t.psq.night = s.psq.night)
    (hrestart : t.psq.restart = s.psq.restart) : finish t = beginWrite t := by
  rcases finish_cases t with ⟨-, h⟩ | ⟨hidle, h⟩
  · exact h
  · obtain ⟨hjobNone, hempty⟩ := (storeIdle_beginWrite_iff t).1 hidle
    have hbefore : storeIdle s = true := (storeIdle_iff s).2 ⟨hjob ▸ hjobNone, hqueue hempty⟩
    obtain ⟨-, hnightDrain, hrestartDrain⟩ := hs
    rcases endDrain_cases (beginWrite t) with ⟨hr, -⟩ | ⟨r, -, hn, hd, -⟩ | ⟨-, -, h'⟩
    · have hr' : s.restartDraining = true := by simpa [State.restartDraining, hrestart] using hr
      rw [hrestartDrain hr'] at hbefore
      cases hbefore
    · have hn' : s.nightDraining = true := by
        have hsame : (beginWrite t).psq.night = s.psq.night := by simp [hnight]
        rw [State.nightDraining, ← hsame, hn]
        exact hd
      rw [hnightDrain hn'] at hbefore
      cases hbefore
    · rw [h, h']

theorem enqueueAll_ne {w : Bool} (ks : List Kind) {q : List Kind} (h : q ≠ []) : enqueueAll w ks q ≠ [] := by
  obtain ⟨k, hk⟩ := List.exists_mem_of_ne_nil q h
  exact List.ne_nil_of_mem (mem_enqueueAll ks hk)

/-! ### METROLOGY at the head under the warning -/

/-- METROLOGY is the head of the queue where it is in it (R177). -/
def MetrologyFirst (q : List Kind) : Prop := Kind.metrology ∈ q → q.head? = some .metrology

theorem urgentQueue_metrologyFirst (q : List Kind) : MetrologyFirst (urgentQueue q) := by
  unfold urgentQueue MetrologyFirst
  split
  · exact fun _ => rfl
  · next h => exact fun hk => absurd hk h

theorem enqueueKind_metrologyFirst {k : Kind} {q : List Kind} (h : MetrologyFirst q) :
    MetrologyFirst (enqueueKind true k q) := by
  unfold enqueueKind
  split
  · exact h
  · split
    · next hk => exact fun _ => by simp [hk.1]
    · next hk =>
      intro hmem
      have hne : k ≠ .metrology := fun e => hk ⟨e, rfl⟩
      have hq : Kind.metrology ∈ q := by
        rcases List.mem_append.1 hmem with hq | hq
        · exact hq
        · exact absurd (List.mem_singleton.1 hq).symm hne
      have hhead := h hq
      cases q with
      | nil => cases hhead
      | cons j rest => exact hhead

theorem enqueueAll_metrologyFirst (ks : List Kind) {q : List Kind} (h : MetrologyFirst q) :
    MetrologyFirst (enqueueAll true ks q) := by
  induction ks generalizing q with
  | nil => exact h
  | cons k ks ih => exact ih (enqueueKind_metrologyFirst h)

theorem urgentQueue_eq_nil_iff (q : List Kind) : urgentQueue q = [] ↔ q = [] := by
  unfold urgentQueue
  split
  · next h => simp [List.ne_nil_of_mem h]
  · rfl

/-! ### One side -/

theorem recordOf_congr {s t : State} (h : t.now = s.now) (sd : Side) (seq : Nat) (e : Ended) (ctx : Sale) :
    t.recordOf sd seq e ctx = s.recordOf sd seq e ctx := by
  simp only [State.recordOf, h]

section
variable {s : State} {sd : Side}

theorem powerFailSide_of_no_sale (h : (s.sideState sd).sale? = none) : powerFailSide sd s = s := by
  have hstop : stopSale sd .powerFail none s = s := by
    rcases stopSale_cases sd .powerFail none s with ⟨e, -⟩ | ⟨p, ctx, hsale, -, -⟩
    · exact e
    · simp [hsale, SideState.sale?] at h
  rcases completeSale_cases sd s with ⟨e, -⟩ | ⟨e, ctx, hsale, -⟩
  · rw [powerFailSide, hstop, e]
  · simp [hsale, SideState.sale?] at h

/-- A sale that the warning completes was in STOPPED, or is stopped by it. -/
theorem powerFailSide_of_sale {p : Phase} {ctx : Sale} (h : s.sideState sd = .sale p ctx) :
    ∃ e, powerFailSide sd s = completeSale sd (s.withSideState sd (.sale (.stopped e) ctx)) ∧
      ∀ (u : State) seq, u.recordOf sd seq e ctx = u.recordOf sd seq (p.endAtWarning ctx) ctx := by
  have hbefore : (∀ e, p ≠ .stopped e) → powerFailSide sd s = completeSale sd (s.withSideState sd
      (.sale (.stopped ⟨.powerFail, none, ctx.figures.volume,
        if ctx.hangSeen then some (s.now + s.cfg.timers.settle) else none⟩) ctx)) := fun hp => by
    rw [powerFailSide, stopSale_eq h hp]
  cases p with
  | stopped e => exact ⟨e, by rw [powerFailSide, stopSale_of_stopped h, State.withSideState_self h], fun _ _ => rfl⟩
  | starting d => exact ⟨_, hbefore (by simp), fun _ _ => rfl⟩
  | fuelling d => exact ⟨_, hbefore (by simp), fun _ _ => rfl⟩
  | slowing d => exact ⟨_, hbefore (by simp), fun _ _ => rfl⟩
  | suspended d => exact ⟨_, hbefore (by simp), fun _ _ => rfl⟩

theorem powerFailSide_queueGrown (sd : Side) (s : State) : s.QueueGrown (powerFailSide sd s) :=
  (queueGrown_of_nvs (by simp) (by simp)).trans (completeSale_queueGrown sd _)

theorem powerFailSide_side_other (sd : Side) (s : State) : (powerFailSide sd s).side sd.other = s.side sd.other := by
  have hstop : (stopSale sd .powerFail none s).side sd.other = s.side sd.other := by
    rcases stopSale_cases sd .powerFail none s with ⟨h, -⟩ | ⟨p, ctx, -, -, h⟩ <;> rw [h]
    simp [State.side]
  rw [powerFailSide, completeSale_side_other, hstop]

theorem completeSale_keeps_raised {e : Event} (h : s.raised e = true) : (completeSale sd s).raised e = true := by
  rcases completeSale_cases sd s with ⟨eq, -⟩ | ⟨x, ctx, -, eq⟩ <;> rw [eq]
  · exact h
  · exact afterCompletion_keeps_raised (raised_of_raised (by simpa [State.raised] using h))

theorem powerFailSide_keeps_raised {e : Event} (h : s.raised e = true) : (powerFailSide sd s).raised e = true :=
  completeSale_keeps_raised (by simpa [State.raised] using h)

theorem completeSale_cfg (sd : Side) (s : State) : ∃ o, (completeSale sd s).cfg = { s.cfg with sideOpen := o } := by
  rcases completeSale_cases sd s with ⟨eq, -⟩ | ⟨x, ctx, -, eq⟩ <;> rw [eq]
  · exact ⟨s.cfg.sideOpen, rfl⟩
  · simpa using afterCompletion_cfg sd x ctx (raise (.done sd) (resetStrays sd (recordSale sd x ctx s)))

theorem powerFailSide_hoses (sd : Side) (s : State) : (powerFailSide sd s).cfg.hoses = s.cfg.hoses := by
  obtain ⟨o, h⟩ := completeSale_cfg sd (stopSale sd .powerFail none s)
  rw [powerFailSide, h]
  simp

/-- A sale that delivered something has no zero delivery. -/
theorem delivers_of_sale {p : Phase} {ctx : Sale} (h : s.sideState sd = .sale p ctx) :
    s.delivers sd = !ctx.figures.zeroDelivery := by
  have hsale : (s.sideState sd).sale? = some ctx := by rw [h]; rfl
  simp only [State.delivers, hsale]
  cases hz : ctx.figures.zeroDelivery with
  | true =>
    obtain ⟨hv, ha⟩ := (zeroDelivery_iff _).1 hz
    simp [hv, ha]
  | false =>
    have hnot := mt (zeroDelivery_iff ctx.figures).2 (by simp [hz])
    have hsome : ctx.figures.volume ≠ 0 ∨ ctx.figures.amount ≠ 0 := by omega
    simpa using hsome

theorem stateCompleted_no_sale (s : State) (sd : Side) (e : Ended) (ctx : Sale) :
    (s.stateCompleted sd e ctx).sale? = none ∧ ∀ a, s.stateCompleted sd e ctx ≠ .authorized a := by
  unfold State.stateCompleted
  split
  · exact ⟨rfl, fun a => by simp⟩
  · exact ⟨rfl, fun a => by simp⟩
  · split
    · exact ⟨rfl, fun a => by simp⟩
    · exact ⟨rfl, fun a => by simp⟩

variable {p : Phase} {ctx : Sale}

/-- The side after its sale has been completed: no sale, and the last ended sale with its outcome. -/
theorem powerFailSide_side (h : s.sideState sd = .sale p ctx) :
    ((powerFailSide sd s).sideState sd).sale? = none ∧
    (∀ a, (powerFailSide sd s).sideState sd ≠ .authorized a) ∧
    ((powerFailSide sd s).side sd).lastSale = ctx.saleId ∧
    ((powerFailSide sd s).side sd).lastOutcome = ctx.figures.outcome ∧
    (powerFailSide sd s).raised (.done sd) = true := by
  obtain ⟨e, heq, -⟩ := powerFailSide_of_sale h
  have hside := completeSale_side (State.sideState_withSideState s sd (.sale (.stopped e) ctx))
  have hraised := completeSale_raised (State.sideState_withSideState s sd (.sale (.stopped e) ctx))
  have hstate := stateCompleted_no_sale (s.withSideState sd (.sale (.stopped e) ctx)) sd e ctx
  rw [← heq] at hside hraised
  simp only [State.sideState, hside]
  exact ⟨hstate.1, hstate.2, trivial, trivial, hraised⟩

theorem powerFailSide_lifted (sd : Side) (s : State) : (powerFailSide sd s).lifted sd = s.lifted sd := by
  cases h : (s.sideState sd).sale? with
  | none => rw [powerFailSide_of_no_sale h]
  | some ctx =>
    obtain ⟨p, hsale⟩ := SideState.sale?_eq_some h
    obtain ⟨e, heq, -⟩ := powerFailSide_of_sale hsale
    rw [heq, State.lifted, completeSale_side (State.sideState_withSideState s sd _)]
    simp

/-- Nothing delivered: no record. -/
theorem powerFailSide_undelivered (hnone : s.delivers sd = false) :
    (powerFailSide sd s).sru = s.sru ∧ (powerFailSide sd s).stack = s.stack := by
  cases h : (s.sideState sd).sale? with
  | none => rw [powerFailSide_of_no_sale h]; exact ⟨rfl, rfl⟩
  | some ctx =>
    obtain ⟨p, hsale⟩ := SideState.sale?_eq_some h
    obtain ⟨e, heq, -⟩ := powerFailSide_of_sale hsale
    rw [delivers_of_sale hsale, Bool.not_eq_false'] at hnone
    have hstate := State.sideState_withSideState s sd (.sale (.stopped e) ctx)
    obtain ⟨hsru, hstack⟩ := recordSale_of_zero hnone sd e (s.withSideState sd (.sale (.stopped e) ctx))
    rw [heq, completeSale_sru hstate, completeSale_stack hstate, hsru, hstack]
    exact ⟨rfl, rfl⟩

/-- A delivery: one record, in the stack and the journal, under the present sequence number. -/
theorem powerFailSide_delivered (h : s.sideState sd = .sale p ctx) (hdelivers : s.delivers sd = true) :
    (powerFailSide sd s).stack = s.stack.set sd (s.stack.get sd ++ [s.recordOf sd s.sru.seq (p.endAtWarning ctx) ctx]) ∧
    (powerFailSide sd s).sru.journal =
      appendJournal s.sru.journal (s.recordOf sd s.sru.seq (p.endAtWarning ctx) ctx) ∧
    (powerFailSide sd s).sru.seq = nextSeq s.sru.seq ∧ .metrology ∈ (powerFailSide sd s).nvs.queue := by
  obtain ⟨e, heq, hrecord⟩ := powerFailSide_of_sale h
  have hz : ctx.figures.zeroDelivery = false := by rwa [delivers_of_sale h, Bool.not_eq_true'] at hdelivers
  have hstate := State.sideState_withSideState s sd (.sale (.stopped e) ctx)
  obtain ⟨hsru, hstack, -⟩ := recordSale_of_delivery hz sd e (s.withSideState sd (.sale (.stopped e) ctx))
  have hsame : (s.withSideState sd (.sale (.stopped e) ctx)).recordOf sd s.sru.seq e ctx =
      s.recordOf sd s.sru.seq (p.endAtWarning ctx) ctx := (recordOf_congr rfl ..).trans (hrecord s _)
  rw [State.withSideState_sru, hsame] at hsru hstack
  rw [heq]
  refine ⟨?_, ?_, ?_, completeSale_queues_metrology hstate hz⟩
  · rw [completeSale_stack hstate, hstack]; simp [stackRecord]
  · rw [completeSale_sru hstate, hsru]; rfl
  · rw [completeSale_sru hstate, hsru]; rfl

theorem powerFailSide_stack_other (sd : Side) (s : State) :
    (powerFailSide sd s).stack.get sd.other = s.stack.get sd.other := by
  cases hdelivers : s.delivers sd with
  | false => rw [(powerFailSide_undelivered hdelivers).2]
  | true =>
    cases h : (s.sideState sd).sale? with
    | none => rw [powerFailSide_of_no_sale h]
    | some ctx =>
      obtain ⟨p, hsale⟩ := SideState.sale?_eq_some h
      rw [(powerFailSide_delivered hsale hdelivers).1, PerSide.get_set_other]

end

/-- An unpaid record stays in the journal when another joins it. -/
theorem mem_removeOldestPaid_of_unpaid {r : SaleRecord} {j : List JournalEntry} (h : (⟨r, false⟩ : JournalEntry) ∈ j) :
    (⟨r, false⟩ : JournalEntry) ∈ removeOldestPaid j := by
  induction j with
  | nil => cases h
  | cons x rest ih =>
    rcases List.mem_cons.1 h with rfl | hrest
    · exact List.mem_cons_self
    · rw [removeOldestPaid]
      split
      · exact hrest
      · exact List.mem_cons_of_mem _ (ih hrest)

theorem mem_appendJournal_of_unpaid {r q : SaleRecord} {j : List JournalEntry} (h : (⟨r, false⟩ : JournalEntry) ∈ j) :
    (⟨r, false⟩ : JournalEntry) ∈ appendJournal j q := by
  unfold appendJournal
  split
  · exact List.mem_append_left _ h
  · exact List.mem_append_left _ (mem_removeOldestPaid_of_unpaid h)

theorem mem_appendJournal_self (j : List JournalEntry) (r : SaleRecord) :
    (⟨r, false⟩ : JournalEntry) ∈ appendJournal j r := by
  simp [appendJournal]

end Sys2Proof.Machine
end

section

/-! ## The power warning in each mode (R45, R65, R177, R192 to R196) -/

namespace Sys2Proof.Machine

open Sys2Proof

theorem side_eq_or (first sd : Side) : sd = first ∨ sd = first.other := by cases first <;> cases sd <;> decide

theorem side_other_other (sd : Side) : sd.other.other = sd := by cases sd <;> rfl

/-! ### Both sides in an order -/

/-- The sales of both sides completed, one side first (R65; log 13). -/
def failBoth (first : Side) (s : State) : State := powerFailSide first.other (powerFailSide first s)

/-- The sequence number of a side's record, by the side that is first. -/
def State.seqAtWarning (s : State) (first sd : Side) : Nat :=
  if sd = first ∨ s.delivers sd.other = false then s.sru.seq
  else if 4294967295 ≤ s.sru.seq then 1 else s.sru.seq + 1

section
variable (first : Side) (s : State)

theorem failBoth_queueGrown : s.QueueGrown (failBoth first s) :=
  (powerFailSide_queueGrown first s).trans (powerFailSide_queueGrown first.other _)

theorem failBoth_hoses : (failBoth first s).cfg.hoses = s.cfg.hoses := by
  rw [failBoth, powerFailSide_hoses, powerFailSide_hoses]

/-- The first side, as it is when both are through. -/
theorem failBoth_first : (failBoth first s).side first = (powerFailSide first s).side first ∧
    (failBoth first s).stack.get first = (powerFailSide first s).stack.get first := by
  have hside := powerFailSide_side_other first.other (powerFailSide first s)
  have hstack := powerFailSide_stack_other first.other (powerFailSide first s)
  rw [side_other_other] at hside hstack
  exact ⟨hside, hstack⟩

/-- The other side, as it is when its turn comes. -/
theorem powerFailSide_other_kept : (powerFailSide first s).sideState first.other = s.sideState first.other ∧
    (powerFailSide first s).delivers first.other = s.delivers first.other := by
  have hstate : (powerFailSide first s).sideState first.other = s.sideState first.other := by
    rw [State.sideState, powerFailSide_side_other, State.sideState]
  exact ⟨hstate, by rw [State.delivers, hstate, State.delivers]⟩

variable {first s} {sd : Side}

theorem failBoth_of_no_sale (h : (s.sideState sd).sale? = none) :
    (failBoth first s).side sd = s.side sd ∧ (failBoth first s).stack.get sd = s.stack.get sd := by
  obtain ⟨hside, hstack⟩ := failBoth_first first s
  rcases side_eq_or first sd with rfl | rfl
  · rw [hside, hstack, powerFailSide_of_no_sale h]
    exact ⟨rfl, rfl⟩
  · obtain ⟨hstate, -⟩ := powerFailSide_other_kept first s
    rw [failBoth, powerFailSide_of_no_sale (by rw [hstate]; exact h), powerFailSide_side_other,
      powerFailSide_stack_other]
    exact ⟨rfl, rfl⟩

theorem failBoth_lifted : (failBoth first s).lifted sd = s.lifted sd := by
  rcases side_eq_or first sd with rfl | rfl
  · rw [State.lifted, (failBoth_first sd s).1]
    exact powerFailSide_lifted sd s
  · rw [failBoth, powerFailSide_lifted, State.lifted, powerFailSide_side_other, State.lifted]

variable {p : Phase} {ctx : Sale} (h : s.sideState sd = .sale p ctx)
include h

/-- A side whose sale the warning has completed. -/
theorem failBoth_of_sale :
    ((failBoth first s).sideState sd).sale? = none ∧ (∀ a, (failBoth first s).sideState sd ≠ .authorized a) ∧
    ((failBoth first s).side sd).lastSale = ctx.saleId ∧
    ((failBoth first s).side sd).lastOutcome = ctx.figures.outcome ∧ (failBoth first s).raised (.done sd) = true := by
  rcases side_eq_or first sd with rfl | rfl
  · obtain ⟨hside, -⟩ := failBoth_first sd s
    obtain ⟨hsale, hauth, hlast, houtcome, hraised⟩ := powerFailSide_side h
    simp only [State.sideState] at hsale hauth ⊢
    rw [hside]
    exact ⟨hsale, hauth, hlast, houtcome, powerFailSide_keeps_raised hraised⟩
  · exact powerFailSide_side ((powerFailSide_other_kept first s).1.trans h)

theorem failBoth_undelivered (hnone : s.delivers sd = false) :
    (failBoth first s).stack.get sd = s.stack.get sd := by
  rcases side_eq_or first sd with rfl | rfl
  · rw [(failBoth_first sd s).2, (powerFailSide_undelivered hnone).2]
  · rw [failBoth, (powerFailSide_undelivered ((powerFailSide_other_kept first s).2.trans hnone)).2,
      powerFailSide_stack_other]

/-- The record of a side that delivered, whichever side is first. -/
theorem failBoth_delivered (hdelivers : s.delivers sd = true) :
    (failBoth first s).stack.get sd =
      s.stack.get sd ++ [s.recordOf sd (s.seqAtWarning first sd) (p.endAtWarning ctx) ctx] ∧
    (⟨s.recordOf sd (s.seqAtWarning first sd) (p.endAtWarning ctx) ctx, false⟩ : JournalEntry) ∈
      (failBoth first s).sru.journal ∧
    .metrology ∈ (failBoth first s).nvs.queue := by
  rcases side_eq_or first sd with rfl | rfl
  · obtain ⟨hstack, hjournal, -, hqueue⟩ := powerFailSide_delivered h hdelivers
    have hseq : s.seqAtWarning sd sd = s.sru.seq := if_pos (.inl rfl)
    have hmem : (⟨s.recordOf sd s.sru.seq (p.endAtWarning ctx) ctx, false⟩ : JournalEntry) ∈
        (powerFailSide sd s).sru.journal := by
      rw [hjournal]
      exact mem_appendJournal_self _ _
    rw [hseq]
    refine ⟨?_, ?_, (powerFailSide_queueGrown sd.other _).mem hqueue⟩
    · rw [(failBoth_first sd s).2, hstack, PerSide.get_set_same]
    · rw [failBoth]
      cases hother : (powerFailSide sd s).delivers sd.other with
      | false => rwa [(powerFailSide_undelivered hother).1]
      | true =>
        cases hsale : ((powerFailSide sd s).sideState sd.other).sale? with
        | none => rwa [powerFailSide_of_no_sale hsale]
        | some ctx' =>
          obtain ⟨p', hstate⟩ := SideState.sale?_eq_some hsale
          rw [(powerFailSide_delivered hstate hother).2.1]
          exact mem_appendJournal_of_unpaid hmem
  · obtain ⟨hstate, hdel⟩ := powerFailSide_other_kept first s
    obtain ⟨hstack, hjournal, -, hqueue⟩ := powerFailSide_delivered (hstate.trans h) (hdel.trans hdelivers)
    have hseq : (powerFailSide first s).sru.seq = s.seqAtWarning first first.other := by
      rw [State.seqAtWarning, side_other_other]
      cases hfirst : s.delivers first with
      | false => rw [(powerFailSide_undelivered hfirst).1, if_pos (.inr rfl)]
      | true =>
        rw [if_neg (by simp [side_other_ne])]
        cases hsale : (s.sideState first).sale? with
        | none => simp [State.delivers, hsale] at hfirst
        | some ctx' =>
          obtain ⟨p', hsale⟩ := SideState.sale?_eq_some hsale
          exact (powerFailSide_delivered hsale hfirst).2.2.1
    have hrecord : (powerFailSide first s).recordOf first.other (powerFailSide first s).sru.seq (p.endAtWarning ctx) ctx =
        s.recordOf first.other (s.seqAtWarning first first.other) (p.endAtWarning ctx) ctx := by
      rw [hseq]
      exact recordOf_congr (by simp) ..
    rw [hrecord] at hstack hjournal
    refine ⟨?_, ?_, hqueue⟩
    · rw [failBoth, hstack, PerSide.get_set_same, powerFailSide_stack_other]
    · rw [failBoth, hjournal]
      exact mem_appendJournal_self _ _

end

/-! ### The authorizations -/

/-- The start-blocked reason of an authorization that cannot start (R45). -/
def State.BlockedReason (s : State) (sd : Side) (a : Auth) (b : StartBlocked) : Prop :=
  ((s.lifted sd).find? (allowedHose s.cfg.hoses sd a.allowed) = none → b = .none) ∧
  (∀ h r, (s.lifted sd).find? (allowedHose s.cfg.hoses sd a.allowed) = some h → s.cfg.hoses.get h = some r →
    (s.ptu.active.entry r.grade a.level = 0 ∨ 99999 < s.ptu.active.entry r.grade a.level → b = .priceInvalid) ∧
    (1 ≤ s.ptu.active.entry r.grade a.level → s.ptu.active.entry r.grade a.level ≤ 99999 → b = .railDown))

theorem State.BlockedReason.congr {s t : State} {sd : Side} {a : Auth} {b : StartBlocked} (h : t.BlockedReason sd a b)
    (hlifted : t.lifted sd = s.lifted sd) (hhoses : t.cfg.hoses = s.cfg.hoses) (hptu : t.ptu = s.ptu) :
    s.BlockedReason sd a b := by
  unfold State.BlockedReason at *
  rwa [hlifted, hhoses, hptu] at h

/-- Both sides renew the start-blocked reason of an authorization. -/
def renewBoth (s : State) : State := renewBlocked .b (renewBlocked .a s)

section
variable {s : State} {sd : Side}

theorem renewBlocked_side_ne {d : Side} (h : d ≠ sd) (s : State) : (renewBlocked sd s).side d = s.side d := by
  unfold renewBlocked
  split
  · split <;> simp [State.side, PerSide.get_set_ne _ _ h]
  · rfl

theorem renewBoth_kept (h : ∀ a, s.sideState sd ≠ .authorized a) : (renewBoth s).side sd = s.side sd := by
  cases sd with
  | a => rw [renewBoth, renewBlocked_side_ne (by decide), renewBlocked_of_not_authorized h]
  | b =>
    have hside : (renewBlocked .a s).side .b = s.side .b := renewBlocked_side_ne (by decide) s
    have hnot : ∀ a, (renewBlocked .a s).sideState .b ≠ .authorized a := by
      simpa [State.sideState, hside] using h
    rw [renewBoth, renewBlocked_of_not_authorized hnot, hside]

theorem renewBlocked_authorized {a : Auth} (h : s.sideState sd = .authorized a) (hwarning : s.lines.warning = true) :
    ∃ b, (renewBlocked sd s).sideState sd = .authorized { a with blocked := b } ∧ s.BlockedReason sd a b := by
  obtain ⟨b, hwait, hreason⟩ := startTest_blocked sd a (.inr hwarning)
  exact ⟨b, by rw [renewBlocked_of_wait h hwait, State.sideState_withSideState], hreason⟩

theorem renewBoth_authorized {a : Auth} (h : s.sideState sd = .authorized a) (hwarning : s.lines.warning = true) :
    ∃ b, (renewBoth s).sideState sd = .authorized { a with blocked := b } ∧ s.BlockedReason sd a b := by
  cases sd with
  | a =>
    obtain ⟨b, hstate, hreason⟩ := renewBlocked_authorized h hwarning
    refine ⟨b, ?_, hreason⟩
    rw [State.sideState, renewBoth, renewBlocked_side_ne (by decide)]
    exact hstate
  | b =>
    have hside : (renewBlocked .a s).side .b = s.side .b := renewBlocked_side_ne (by decide) s
    obtain ⟨b, hstate, hreason⟩ := renewBlocked_authorized (s := renewBlocked .a s) (sd := .b) (a := a)
      (by rw [State.sideState, hside]; exact h) (by simpa using hwarning)
    exact ⟨b, hstate, hreason.congr (by rw [State.lifted, hside, State.lifted]) (by simp) (by simp)⟩

end

/-! ### The sides take the warning -/

/-- A sale stands on one side at least. -/
def State.anySale (s : State) : Bool := (s.sideState .a).sale?.isSome || (s.sideState .b).sale?.isSome

/-- In RUN: one side first, the event of an interrupted sale, and the authorizations. -/
theorem warnSides_cases (s : State) : ∃ first n, warnSides s =
    renewBoth (raiseIf s.anySale .powerFailEnd (failBoth first { s with freeCount := n })) := by
  by_cases hboth : ((s.sideState .a).sale?.isSome && (s.sideState .b).sale?.isSome) = true
  · by_cases hfirst : Config.sideBFirst s.freeCount = true
    · exact ⟨.b, s.freeCount + 1, by simp only [warnSides, hboth, if_true, completeBoth, hfirst]; rfl⟩
    · exact ⟨.a, s.freeCount + 1, by
        simp only [warnSides, hboth, if_true, completeBoth, if_neg hfirst]; rfl⟩
  · exact ⟨.a, s.freeCount, by simp only [warnSides, if_neg hboth]; rfl⟩

end Sys2Proof.Machine
end

section

/-! ## The power warning: aborts, and the obligation (R65, R177, R192 to R196) -/

namespace Sys2Proof.Machine

open Sys2Proof

/-! ### Readers switched off -/

theorem powerOff_reader_tampered {sd : Side} {s : State} (h : (s.reader sd).state = .tampered) : powerOff sd s = s :=
  if_pos h

theorem powerOff_state {sd : Side} {s : State} (h : (s.reader sd).state ≠ .tampered) :
    ((powerOff sd s).reader sd).state = .off .power := by
  rw [powerOff, if_neg h, enterOff, cutReader_reader]

theorem powerOff_reader_other {sd d : Side} (hne : d ≠ sd) (s : State) : (powerOff sd s).reader d = s.reader d := by
  unfold powerOff
  split
  · rfl
  · exact cutReader_reader_other hne ..

theorem powerOff_lbc {sd : Side} {s : State} (h : s.lbc.slot = none) : (powerOff sd s).lbc = s.lbc := by
  unfold powerOff
  split
  · rfl
  · exact cutReader_lbc_of_other sd _ _ _ s (by simp [h])

theorem powerOffReaders_lbc {s : State} (h : s.lbc.slot = none) : (powerOffReaders s).lbc = s.lbc := by
  have ha : (powerOff .a s).lbc = s.lbc := powerOff_lbc h
  rw [powerOffReaders, powerOff_lbc (by rw [ha]; exact h), ha]

theorem powerOffReaders_tampered {s : State} {sd : Side} (h : (s.reader sd).state = .tampered) :
    (powerOffReaders s).reader sd = s.reader sd := by
  cases sd with
  | a => rw [powerOffReaders, powerOff_reader_other (by decide), powerOff_reader_tampered h]
  | b =>
    have hkept : (powerOff .a s).reader .b = s.reader .b := powerOff_reader_other (by decide) s
    rw [powerOffReaders, powerOff_reader_tampered (by rw [hkept]; exact h), hkept]

theorem powerOffReaders_off {s : State} {sd : Side} (h : (s.reader sd).state ≠ .tampered) :
    ((powerOffReaders s).reader sd).state = .off .power := by
  cases sd with
  | a => rw [powerOffReaders, powerOff_reader_other (by decide), powerOff_state h]
  | b =>
    have hkept : (powerOff .a s).reader .b = s.reader .b := powerOff_reader_other (by decide) s
    rw [powerOffReaders, powerOff_state (by rw [hkept]; exact h)]

/-! ### An aborted sequence -/

/-- What an abort makes of the sequencer (R194, R196). -/
def Psq.aborted (p : Psq) (now : Nat) : Psq := { p with
  mode := if p.restarts + 1 < 3 then .poweringUp .wait else .failsafe
  restarts := p.restarts + 1
  displayDemand := false
  stageTimer := if p.restarts + 1 < 3 then some (now + 2000) else none
  found := ⟨dropProbe p.found.a, dropProbe p.found.b⟩ }

/-- An abort switches the displays and the readers off and goes to WAIT, or to FAILSAFE at the third. -/
theorem abortSequence_eq (s : State) :
    abortSequence s = (showFoundBoth ((powerOffReaders (stopDisplays s)).withPsq { s.psq with
      displayDemand := false
      restarts := s.psq.restarts + 1
      found := ⟨dropProbe s.psq.found.a, dropProbe s.psq.found.b⟩ })).withPsq (s.psq.aborted s.now) := by
  have hpsq : (powerOffReaders (stopDisplays s)).psq = { s.psq with displayDemand := false } := by
    simp [stopDisplays]
  unfold abortSequence
  simp only [hpsq, showFoundBoth_frame, State.withPsq_psq, withStage]
  by_cases h : s.psq.restarts + 1 < 3
  · rw [if_pos h, Psq.aborted, if_pos h, if_pos h]
    simp [Config.waitTime]
  · rw [if_neg h, Psq.aborted, if_neg h, if_neg h]

theorem abortSequence_psq (s : State) : (abortSequence s).psq = s.psq.aborted s.now := by
  rw [abortSequence_eq, State.withPsq_psq]

theorem abortSequence_reader (s : State) (sd : Side) :
    (abortSequence s).reader sd = (powerOffReaders (stopDisplays s)).reader sd := by
  rw [abortSequence_eq]
  simp [State.reader]

theorem abortSequence_leaves (s : State) : (abortSequence s).nvs = s.nvs ∧ (abortSequence s).sli = s.sli ∧
    (abortSequence s).lbc.slot = none := by
  have hslot : (stopDisplays s).lbc.slot = none := rfl
  rw [abortSequence_eq]
  simp [powerOffReaders_sli, powerOffReaders_lbc hslot, hslot]

/-! ### The line becomes asserted -/

/-- The warning line asserted and METROLOGY at the head of the queue (R177). -/
def State.warned (s : State) : State := { s with
  lines := { s.lines with warning := true }, nvs := { s.nvs with queue := urgentQueue s.nvs.queue } }

theorem warned_settled {s : State} (hs : s.Settled) : s.warned.Settled := by
  obtain ⟨hwrites, hnight, hrestart⟩ := hs
  have hidle : storeIdle s.warned = storeIdle s := by
    rw [Bool.eq_iff_iff, storeIdle_iff, storeIdle_iff]
    exact and_congr_right fun _ => urgentQueue_eq_nil_iff _
  exact ⟨fun hjob hload => (urgentQueue_eq_nil_iff _).2 (hwrites hjob hload), fun h => hidle.trans (hnight h),
    fun h => hidle.trans (hrestart h)⟩

theorem exec_powerWarning {s : State} (hs : s.Live) (hline : s.lines.warning = false) :
    exec .powerWarning s = .next (finish (powerWarning s)) := by
  refine (lineEvent_eq_event hs _).trans (event_finish_to hs ?_)
  rw [warningRaised, if_neg (by simp [hline])]

theorem powerWarning_run {s : State} (h : s.psq.mode = .run) : powerWarning s = warnSides s.warned := by
  have hmode : s.warned.psq.mode = .run := h
  unfold powerWarning
  simp only [State.withNvs_psq, State.withLines_psq, h]
  rfl

theorem powerWarning_kept {s : State}
    (h : s.psq.mode ∈ [.poweringUp .load, .poweringUp .apply, .poweringUp .wait, .night, .failsafe]) :
    powerWarning s = s.warned := by
  simp only [List.mem_cons, List.not_mem_nil, or_false] at h
  unfold powerWarning
  simp only [State.withNvs_psq, State.withLines_psq]
  rcases h with h | h | h | h | h <;> rw [h] <;> rfl

theorem powerWarning_aborts {s : State} (h : (∃ sd, s.psq.mode = .poweringUp (.supplies sd)) ∨
    (∃ b, s.psq.mode = .poweringUp (.displays b)) ∨ s.psq.mode = .poweringUp .readers) :
    powerWarning s = abortSequence s.warned := by
  unfold powerWarning
  simp only [State.withNvs_psq, State.withLines_psq]
  rcases h with ⟨sd, h⟩ | ⟨b, h⟩ | h <;> rw [h] <;> rfl

/-- The part in RUN when both sides have taken the warning, before a write begins. -/
def State.afterWarning (s : State) (first : Side) (n : Nat) : State :=
  renewBoth (raiseIf s.anySale .powerFailEnd (failBoth first { s.warned with freeCount := n }))

theorem afterWarning_nvs (s : State) (first : Side) (n : Nat) : ∃ ks,
    (s.afterWarning first n).nvs = { s.nvs with queue := enqueueAll true ks (urgentQueue s.nvs.queue) } := by
  obtain ⟨-, ks, hnvs⟩ := failBoth_queueGrown first { s.warned with freeCount := n }
  have hkept : (s.afterWarning first n).nvs = (failBoth first { s.warned with freeCount := n }).nvs := by
    simp [State.afterWarning, renewBoth]
  exact ⟨ks, hkept.trans hnvs⟩

theorem afterWarning_frame (s : State) (first : Side) (n : Nat) :
    (s.afterWarning first n).lines = { s.lines with warning := true } ∧ (s.afterWarning first n).psq = s.psq ∧
    (s.afterWarning first n).ptu = s.ptu ∧ (s.afterWarning first n).riu = s.riu ∧
    (s.afterWarning first n).now = s.now := by
  simp [State.afterWarning, renewBoth, failBoth, State.warned]

theorem exec_powerWarning_run {s : State} (hs : s.Live) (hline : s.lines.warning = false) (hrun : s.psq.mode = .run) :
    ∃ first n, exec .powerWarning s = .next (beginWrite (s.afterWarning first n)) := by
  obtain ⟨first, n, hwarn⟩ := warnSides_cases s.warned
  obtain ⟨ks, hnvs⟩ := afterWarning_nvs s first n
  obtain ⟨-, hpsq, -⟩ := afterWarning_frame s first n
  refine ⟨first, n, ?_⟩
  rw [exec_powerWarning hs hline, powerWarning_run hrun, hwarn]
  refine congrArg _ (finish_of_settled (t := s.afterWarning first n) hs.2 (by rw [hnvs]) (fun hempty => ?_) (by rw [hpsq]) (by rw [hpsq]))
  by_contra hne
  have hgrown := enqueueAll_ne (w := true) ks (mt (urgentQueue_eq_nil_iff _).1 hne)
  exact hgrown ((congrArg Nvs.queue hnvs).symm.trans hempty)

/-! ### The sides after the warning -/

section
variable {s : State} {first : Side} {n : Nat} {sd : Side}

theorem afterWarning_stack (sd : Side) : (s.afterWarning first n).stack.get sd =
    (failBoth first { s.warned with freeCount := n }).stack.get sd := by
  simp [State.afterWarning, renewBoth]

theorem afterWarning_sru : (s.afterWarning first n).sru = (failBoth first { s.warned with freeCount := n }).sru := by
  simp [State.afterWarning, renewBoth]

theorem afterWarning_raised {e : Event} (h : (failBoth first { s.warned with freeCount := n }).raised e = true) :
    (s.afterWarning first n).raised e = true := by
  have hsli : (s.afterWarning first n).sli = (raiseIf s.anySale .powerFailEnd
      (failBoth first { s.warned with freeCount := n })).sli := by simp [State.afterWarning, renewBoth]
  rw [State.raised, hsli]
  cases s.anySale with
  | false => exact h
  | true => exact raised_of_raised h

theorem afterWarning_side_kept (h : ∀ a, (failBoth first { s.warned with freeCount := n }).sideState sd ≠ .authorized a) :
    (s.afterWarning first n).side sd = (failBoth first { s.warned with freeCount := n }).side sd := by
  have hkept : (raiseIf s.anySale .powerFailEnd (failBoth first { s.warned with freeCount := n })).side sd =
      (failBoth first { s.warned with freeCount := n }).side sd := by simp [State.side]
  rw [State.afterWarning, renewBoth_kept (by rwa [State.sideState, hkept]), hkept]

/-- A side without a sale and without an authorization keeps all it has. -/
theorem afterWarning_side_quiet (hsale : (s.sideState sd).sale? = none) (hauth : ∀ a, s.sideState sd ≠ .authorized a) :
    (s.afterWarning first n).side sd = s.side sd := by
  obtain ⟨hside, -⟩ := failBoth_of_no_sale (first := first) (s := { s.warned with freeCount := n }) hsale
  have hsame : (failBoth first { s.warned with freeCount := n }).side sd = s.side sd := hside
  rw [afterWarning_side_kept (by rw [State.sideState, hsame]; exact hauth), hsame]

theorem State.lastSale_withSideState (s : State) (sd d : Side) (st : SideState) :
    ((s.withSideState sd st).side d).lastSale = (s.side d).lastSale := by
  simp only [State.side, State.withSideState_sides, PerSide.get_set]
  split
  · next h => rw [h]
  · rfl

theorem renewBlocked_lastSale (sd d : Side) (s : State) :
    ((renewBlocked sd s).side d).lastSale = (s.side d).lastSale := by
  unfold renewBlocked
  split
  · split <;> exact State.lastSale_withSideState ..
  · rfl

theorem afterWarning_lastSale (hsale : (s.sideState sd).sale? = none) :
    ((s.afterWarning first n).side sd).lastSale = (s.side sd).lastSale := by
  obtain ⟨hside, -⟩ := failBoth_of_no_sale (first := first) (s := { s.warned with freeCount := n }) hsale
  have hkept : (raiseIf s.anySale .powerFailEnd (failBoth first { s.warned with freeCount := n })).side sd =
      (failBoth first { s.warned with freeCount := n }).side sd := by simp [State.side]
  rw [State.afterWarning, renewBoth, renewBlocked_lastSale, renewBlocked_lastSale, hkept, hside]
  rfl

/-- An authorization stands with its reason renewed. -/
theorem afterWarning_authorized {a : Auth} (h : s.sideState sd = .authorized a) :
    ∃ b, (s.afterWarning first n).sideState sd = .authorized { a with blocked := b } ∧ s.BlockedReason sd a b := by
  obtain ⟨hside, -⟩ := failBoth_of_no_sale (first := first) (s := { s.warned with freeCount := n }) (sd := sd)
    (by exact congrArg SideState.sale? h)
  have hstate : (raiseIf s.anySale .powerFailEnd (failBoth first { s.warned with freeCount := n })).sideState sd =
      .authorized a := by
    have hfail : (failBoth first { s.warned with freeCount := n }).sideState sd = .authorized a := by
      rw [State.sideState, hside]
      exact h
    simpa [State.sideState, State.side] using hfail
  obtain ⟨b, hb, hreason⟩ := renewBoth_authorized hstate (by simp [failBoth, State.warned])
  refine ⟨b, hb, hreason.congr ?_ ?_ ?_⟩
  · have hlifted := failBoth_lifted (first := first) (s := { s.warned with freeCount := n }) (sd := sd)
    simpa [State.lifted, State.side, State.warned] using hlifted
  · have hhoses := failBoth_hoses first { s.warned with freeCount := n }
    simpa [State.warned] using hhoses
  · simp [failBoth, State.warned]

/-- A completed sale: the side, its stack and its events. -/
theorem afterWarning_sale {p : Phase} {ctx : Sale} (h : s.sideState sd = .sale p ctx) :
    ((s.afterWarning first n).sideState sd).sale? = none ∧
    ((s.afterWarning first n).side sd).lastSale = ctx.saleId ∧
    ((s.afterWarning first n).side sd).lastOutcome = ctx.figures.outcome ∧
    (s.afterWarning first n).raised (.done sd) = true ∧ (s.afterWarning first n).raised .powerFailEnd = true := by
  obtain ⟨hsale, hauth, hlast, houtcome, hdone⟩ := failBoth_of_sale (first := first)
    (s := { s.warned with freeCount := n }) h
  have hside := afterWarning_side_kept (n := n) hauth
  have hany : s.anySale = true := by
    have hsome : (s.sideState sd).sale?.isSome = true := by rw [h]; rfl
    cases sd <;> simp [State.anySale, hsome]
  refine ⟨?_, by rw [hside]; exact hlast, by rw [hside]; exact houtcome, afterWarning_raised hdone, ?_⟩
  · rw [State.sideState, hside]
    exact hsale
  · have hsli : (s.afterWarning first n).sli = (raise .powerFailEnd
        (failBoth first { s.warned with freeCount := n })).sli := by simp [State.afterWarning, renewBoth, hany, raiseIf]
    rw [State.raised, hsli]
    exact raised_raise .powerFailEnd _

/-- METROLOGY, where it is queued, is the head of the queue or the write that has begun. -/
theorem afterWarning_metrology (hqueued : Kind.metrology ∈ (s.afterWarning first n).nvs.queue) :
    (beginWrite (s.afterWarning first n)).nvs.queue.head? = some .metrology ∨ (s.nvs.job = none ∧
      ∃ slot x due, (beginWrite (s.afterWarning first n)).nvs.job = some ⟨.metrology slot x, due⟩ ∧
        x.content = (beginWrite (s.afterWarning first n)).sru) := by
  obtain ⟨ks, hnvs⟩ := afterWarning_nvs s first n
  have hfirst : MetrologyFirst (s.afterWarning first n).nvs.queue := by
    rw [hnvs]
    exact enqueueAll_metrologyFirst ks (urgentQueue_metrologyFirst _)
  have hhead := hfirst hqueued
  rcases beginWrite_cases (s.afterWarning first n) with ⟨h, -⟩ | ⟨k, rest, hjob, -, hqueue, h⟩ <;> rw [h]
  · exact .inl hhead
  · rw [hqueue] at hhead
    cases hhead
    exact .inr ⟨(congrArg Nvs.job hnvs).symm.trans hjob, _, _, _, rfl, rfl⟩

end

/-- The warning in RUN, as the obligation says it. -/
theorem warning_in_run {s : State} (hs : s.Live) (hline : s.lines.warning = false) (hrun : s.psq.mode = .run) :
      ∃ t, exec .powerWarning s = .next t ∧ t.lines = { s.lines with warning := true } ∧ t.DrivesNothing ∧
        (∀ sd, (t.sideState sd).sale? = none) ∧
        (∀ sd ctx, (s.sideState sd).sale? = some ctx → (t.side sd).lastSale = ctx.saleId ∧
          t.raised (.done sd) = true ∧ t.raised .powerFailEnd = true) ∧
        (∀ sd, (s.sideState sd).sale? = none → t.stack.get sd = s.stack.get sd ∧
          (t.side sd).lastSale = (s.side sd).lastSale) ∧
        (∀ sd, s.sideState sd = .idle ∨ s.sideState sd = .calling ∨ (∃ r, s.sideState sd = .closed r) →
          t.side sd = s.side sd) ∧
        (∀ sd a, s.sideState sd = .authorized a →
          ∃ b, t.sideState sd = .authorized { a with blocked := b } ∧ s.BlockedReason sd a b) ∧
        (∀ sd p ctx, s.sideState sd = .sale p ctx → s.delivers sd = false →
          (t.side sd).lastOutcome = .noDelivery ∧ t.stack.get sd = s.stack.get sd) ∧
        (∃ first : Side, ∀ sd p ctx, s.sideState sd = .sale p ctx → s.delivers sd = true →
          (t.side sd).lastOutcome = .stacked ∧ t.stack.get sd =
            s.stack.get sd ++ [s.recordOf sd (s.seqAtWarning first sd) (p.endAtWarning ctx) ctx] ∧
          ⟨s.recordOf sd (s.seqAtWarning first sd) (p.endAtWarning ctx) ctx, false⟩ ∈ t.sru.journal ∧
          (t.nvs.queue.head? = some .metrology ∨ (s.nvs.job = none ∧
            ∃ n x due, t.nvs.job = some ⟨.metrology n x, due⟩ ∧ x.content = t.sru))) ∧
        t.psq = s.psq ∧ t.ptu = s.ptu ∧ t.riu = s.riu ∧ t.now = s.now := by
  obtain ⟨first, n, hexec⟩ := exec_powerWarning_run hs hline hrun
  obtain ⟨hlines, hpsq, hptu, hriu, hnow⟩ := afterWarning_frame s first n
  have hside : ∀ sd, (beginWrite (s.afterWarning first n)).side sd = (s.afterWarning first n).side sd := by
    simp [State.side]
  have hstate : ∀ sd, (beginWrite (s.afterWarning first n)).sideState sd = (s.afterWarning first n).sideState sd := by
    simp [State.sideState, State.side]
  have hrecords : (beginWrite (s.afterWarning first n)).stack = (s.afterWarning first n).stack := by simp
  have hsru : (beginWrite (s.afterWarning first n)).sru = (s.afterWarning first n).sru := by simp
  refine ⟨_, hexec, by simp [hlines], ?drives, fun sd => ?noSale, fun sd ctx hsale => ?ended, fun sd hsale => ?others,
    fun sd hquiet => ?quiet, fun sd a h => ?authorized, fun sd p ctx h hnone => ?undelivered,
    ⟨first, fun sd p ctx h hdelivers => ?delivered⟩, by simp [hpsq], by simp [hptu], by simp [hriu], by simp [hnow]⟩
  case drives => exact drivesNothing_of_disabled (driveEnabled_eq_false (.inr (.inl (by simp [hlines]))))
  case noSale =>
    rw [hstate]
    cases h : s.sideState sd with
    | sale p ctx => exact (afterWarning_sale h).1
    | authorized a =>
      obtain ⟨b, hb, -⟩ := afterWarning_authorized (first := first) (n := n) h
      rw [hb]
      rfl
    | closed r =>
      rw [State.sideState, afterWarning_side_quiet (by rw [h]; rfl) (by simp [h]), ← State.sideState, h]
      rfl
    | idle =>
      rw [State.sideState, afterWarning_side_quiet (by rw [h]; rfl) (by simp [h]), ← State.sideState, h]
      rfl
    | calling =>
      rw [State.sideState, afterWarning_side_quiet (by rw [h]; rfl) (by simp [h]), ← State.sideState, h]
      rfl
  case ended =>
    obtain ⟨p, h⟩ := SideState.sale?_eq_some hsale
    obtain ⟨-, hlast, -, hdone, hfail⟩ := afterWarning_sale (first := first) (n := n) h
    exact ⟨by rw [hside]; exact hlast, by simpa using hdone, by simpa using hfail⟩
  case others =>
    obtain ⟨-, hstack⟩ := failBoth_of_no_sale (first := first) (s := { s.warned with freeCount := n }) hsale
    exact ⟨by rw [hrecords]; exact (afterWarning_stack sd).trans hstack, by rw [hside]; exact afterWarning_lastSale hsale⟩
  case quiet =>
    rw [hside]
    rcases hquiet with h | h | ⟨r, h⟩ <;> exact afterWarning_side_quiet (by rw [h]; rfl) (by simp [h])
  case authorized =>
    rw [hstate]
    exact afterWarning_authorized h
  case undelivered =>
    obtain ⟨-, -, houtcome, -⟩ := afterWarning_sale (first := first) (n := n) h
    rw [delivers_of_sale h, Bool.not_eq_false'] at hnone
    refine ⟨by rw [hside, houtcome, Figures.outcome, if_pos hnone], ?_⟩
    have hstack := failBoth_undelivered (first := first) (s := { s.warned with freeCount := n }) h
      ((delivers_of_sale (s := { s.warned with freeCount := n }) h).trans (by rw [hnone]; rfl))
    rw [hrecords]
    exact (afterWarning_stack sd).trans hstack
  case delivered =>
    obtain ⟨-, -, houtcome, -⟩ := afterWarning_sale (first := first) (n := n) h
    obtain ⟨hstack, hjournal, hqueue⟩ := failBoth_delivered (first := first) (s := { s.warned with freeCount := n }) h
      hdelivers
    have hz : ctx.figures.zeroDelivery = false := by rwa [delivers_of_sale h, Bool.not_eq_true'] at hdelivers
    refine ⟨by rw [hside, houtcome, Figures.outcome, if_neg (by simp [hz])], ?_, ?_, afterWarning_metrology ?_⟩
    · rw [hrecords]
      exact (afterWarning_stack sd).trans hstack
    · rw [← afterWarning_sru] at hjournal
      rw [hsru]
      exact hjournal
    · simpa [State.afterWarning, renewBoth] using hqueue

theorem warning_aborts {s : State} (hs : s.Live) (hline : s.lines.warning = false)
    (h : (∃ sd, s.psq.mode = .poweringUp (.supplies sd)) ∨ (∃ b, s.psq.mode = .poweringUp (.displays b)) ∨
      s.psq.mode = .poweringUp .readers) :
    exec .powerWarning s = .next (beginWrite (abortSequence s.warned)) := by
  obtain ⟨hnvs, -⟩ := abortSequence_leaves s.warned
  have hpsq := abortSequence_psq s.warned
  rw [exec_powerWarning hs hline, powerWarning_aborts h]
  exact congrArg _ (finish_of_settled (warned_settled hs.2) (by rw [hnvs])
    (fun hempty => (congrArg Nvs.queue hnvs).symm.trans hempty) (by rw [hpsq]; rfl) (by rw [hpsq]; rfl))

/-- What an abort at the warning leaves, by the state before the line became asserted. -/
theorem abortSequence_warned (s : State) : (abortSequence s.warned).psq = s.psq.aborted s.now ∧
    (abortSequence s.warned).sli = s.sli ∧ (abortSequence s.warned).lbc.slot = none := by
  obtain ⟨-, hsli, hslot⟩ := abortSequence_leaves s.warned
  exact ⟨abortSequence_psq s.warned, hsli, hslot⟩

/-- Settles O55: RUN, the modes that only follow the line, the aborts, and the release. -/
theorem thePowerWarningCompletesSales : Obligations.ThePowerWarningCompletesSales := by
  intro s hs warned
  refine ⟨fun hline hrun => warning_in_run hs hline hrun, fun hline hmode => ?kept, fun hline hmode => ?aborts,
    fun hline => ⟨?stillOn, fun hrun => ?release, fun happly => ?apply⟩, fun hline => ?stillOff⟩
  case kept =>
    rw [exec_powerWarning hs hline, powerWarning_kept hmode]
    exact congrArg _ (finish_eq_of_settled (warned_settled hs.2))
  case aborts =>
    obtain ⟨hpsq, hsli, hslot⟩ := abortSequence_warned s
    have hreader : ∀ sd, (beginWrite (abortSequence s.warned)).reader sd =
        (powerOffReaders (stopDisplays s.warned)).reader sd := fun sd => by
      rw [beginWrite_reader, abortSequence_reader]
    have hbefore : ∀ sd, (stopDisplays s.warned).reader sd = s.reader sd := fun sd => rfl
    refine ⟨_, warning_aborts hs hline hmode, by simp [hpsq, Psq.aborted], by simpa using hslot,
      by simp [hpsq, Psq.aborted], by simp [hpsq, Psq.aborted], fun hfew => ?timer,
      fun sd htampered => ?tampered, fun sd hother => ?off, by simp [hpsq, Psq.aborted],
      by simp [hpsq, Psq.aborted], by simp [hsli], by simp [State.warned],
      by simp [State.warned], by simp [State.warned], by simp [State.warned],
      by simp [State.warned], by simp [State.warned]⟩
    case timer => simp [hpsq, Psq.aborted, hfew]
    case tampered =>
      rw [hreader, powerOffReaders_tampered (by rw [hbefore]; exact htampered), hbefore]
    case off =>
      rw [hreader, powerOffReaders_off (by rw [hbefore]; exact hother)]
  case stillOn => exact (lineEvent_eq_event hs _).trans (event_unchanged hs (by simp [warningRaised, hline]))
  case release =>
    refine (lineEvent_eq_event hs _).trans (event_to hs ?_ (by simp) (by simp))
    rw [warningDropped, if_pos hline]
    simp only [warningReleased, State.withLines_psq, hrun]
    rfl
  case apply =>
    refine (lineEvent_eq_event hs _).trans ((event_finish_to hs ?_).trans (congrArg _ (finish_eq_of_eq hs.2 rfl rfl rfl)))
    rw [warningDropped, if_pos hline]
    simp only [warningReleased, State.withLines_psq, happly]
    rfl
  case stillOff => exact (lineEvent_eq_event hs _).trans (event_unchanged hs (by simp [warningDropped, hline]))

end Sys2Proof.Machine
end

section

/-! ## A cold power-on, and the end of a write (R172 to R177, R182, R191) -/

namespace Sys2Proof.Machine

open Sys2Proof

/-! ### A cold power-on -/

/-- What a cold power-on leaves: the state at reset with what the part keeps (log 6). -/
def State.Cold (t : State) : Prop :=
  ∃ (pending : List Instr) (count now : Nat) (lines : Lines) (config : Option Cfg) (prices : Option Prices)
    (slot0 slot1 : Option Stamped) (deadline : Nat),
    t = { State.reset with
      pending := pending, freeCount := count, now := now, lines := lines
      nvs := { Nvs.blank with
        config := config, prices := prices, slot0 := slot0, slot1 := slot1
        load := .reading true .config 1 false deadline } }

theorem reset_cold : State.reset.Cold := ⟨_, _, _, _, _, _, _, _, _, rfl⟩

theorem coldStart_cold (s : State) : (coldStart s).Cold := ⟨_, _, _, _, _, _, _, _, _, rfl⟩

theorem powerOn_of_unpowered {s : State} (h : s.powered = false) : exec .powerOn s = .next (coldStart s) := by
  have hexec : exec .powerOn s = .next (coldStart (if s.powered then loseSupply s else s)) := rfl
  rw [hexec, if_neg (by simp [h])]

theorem supplyLost_of_powered {s : State} (h : s.powered = true) : exec .supplyLost s = .next (loseSupply s) := by
  have hexec : exec .supplyLost s = .next (if s.powered then loseSupply s else s) := rfl
  rw [hexec, if_pos h]

theorem loseSupply_idle {s : State} (h : s.nvs.job = none) : loseSupply s = { s with powered := false } := by
  simp only [loseSupply, Nvs.cut, h]

theorem loseSupply_writing {s : State} {c : WriteContent} {d : Nat} (h : s.nvs.job = some ⟨c, d⟩) :
    loseSupply s = { s with powered := false, nvs := { cutBlock c s.nvs with job := none } } := by
  simp only [loseSupply, Nvs.cut, h]

/-- Settles O56: the cold values, the supply lost with and without a write, and what POWER_ON keeps. -/
theorem powerOnHasTheColdValues : Obligations.PowerOnHasTheColdValues := by
  refine ⟨fun t ht => ?values, fun s => ⟨_, rfl⟩, fun s hpow => ⟨?idle, ?config, ?prices, ?slot0, ?slot1⟩,
    fun s hpow => ⟨_, powerOn_of_unpowered hpow, rfl, rfl, rfl, rfl, rfl⟩⟩
  case values =>
    have hcold : t.Cold := by
      rcases ht with rfl | ⟨s, hpow, hexec⟩
      · exact reset_cold
      · cases (powerOn_of_unpowered hpow).symm.trans hexec
        exact coldStart_cold s
    obtain ⟨_, _, _, _, _, _, _, _, _, rfl⟩ := hcold
    refine ⟨rfl, rfl, rfl, rfl, rfl, rfl, rfl, rfl, rfl, rfl, rfl, rfl, rfl, rfl, rfl, rfl, rfl, rfl, fun sd => ?side,
      fun sd => ?reader, fun m => ?module, rfl, fun m => ?channel⟩
    case side => cases sd <;> exact ⟨rfl, rfl, rfl⟩
    case reader => cases sd <;> rfl
    case module =>
      cases m with
      | sale sd => cases sd <;> rfl
      | panel sd => cases sd <;> rfl
    case channel => cases m <;> rfl
  case idle => exact fun h => (supplyLost_of_powered hpow).trans (by rw [loseSupply_idle h])
  case config => exact fun c d h => (supplyLost_of_powered hpow).trans (by rw [loseSupply_writing h]; rfl)
  case prices => exact fun c d h => (supplyLost_of_powered hpow).trans (by rw [loseSupply_writing h]; rfl)
  case slot0 => exact fun c d h => (supplyLost_of_powered hpow).trans (by rw [loseSupply_writing h]; rfl)
  case slot1 => exact fun c d h => (supplyLost_of_powered hpow).trans (by rw [loseSupply_writing h]; rfl)

/-! ### The end of a write -/

section
variable {s : State} {c : WriteContent} {d : Nat}

/-- The state at the end of a write's time, before its verdict acts. -/
def State.writeEnded (s : State) (d : Nat) : State := { s with now := max s.now d, nvs := { s.nvs with job := none } }

theorem resumeLoad_of_not_loading (h : s.nvs.load = .none) : resumeLoad s = s := by
  simp only [resumeLoad, h]

theorem writeVerified_nvs (c : WriteContent) (s : State) :
    (writeVerified c s).nvs.job = s.nvs.job ∧ (writeVerified c s).nvs.queue = s.nvs.queue ∧
    (writeVerified c s).nvs.load = s.nvs.load ∧ (writeVerified c s).nvs.fail = s.nvs.fail.set 0 c.kind := by
  cases c with
  | config v => exact ⟨rfl, rfl, rfl, rfl⟩
  | prices v => exact ⟨rfl, rfl, rfl, rfl⟩
  | metrology n v => cases n <;> exact ⟨rfl, rfl, rfl, rfl⟩

theorem writeVerified_eq (c : WriteContent) (s : State) :
    writeVerified c s = { s with nvs := (writeVerified c s).nvs } := by
  cases c with
  | config v => rfl
  | prices v => rfl
  | metrology n v => cases n <;> rfl

theorem FailCounts.get_set (f : FailCounts) (v : Nat) (k : Kind) : (f.set v k).get k = v := by cases k <;> rfl

theorem writeComplete_verified (hjob : s.nvs.job = some ⟨c, d⟩) (hload : s.nvs.load = .none) :
    writeComplete true s = writeVerified c (s.writeEnded d) := by
  obtain ⟨-, -, hkept, -⟩ := writeVerified_nvs c (s.writeEnded d)
  have hloading : (writeVerified c (s.writeEnded d)).nvs.load = .none := hkept.trans hload
  have hcomplete : writeComplete true s = resumeLoad (writeVerified c (s.writeEnded d)) := by
    simp only [writeComplete, hjob]
    rfl
  rw [hcomplete, resumeLoad_of_not_loading hloading]

/-- A failed write before the third METROLOGY failure acts: the block, the event, the request and the count. -/
def State.writeFailedAt (s : State) (c : WriteContent) (d : Nat) : State :=
  let s1 := requestWrite c.kind (raise .nvFault ((s.writeEnded d).withNvs (failBlock c (s.writeEnded d).nvs)))
  s1.withNvs { s1.nvs with fail := s1.nvs.fail.set (min (s.nvs.fail.get c.kind + 1) 3) c.kind }

theorem failBlock_nvs (c : WriteContent) (n : Nvs) :
    (failBlock c n).fail = n.fail ∧ (failBlock c n).load = n.load ∧ (failBlock c n).job = n.job ∧
    (failBlock c n).current = n.current ∧ (failBlock c n).condition = n.condition ∧
    (failBlock c n).config = n.config ∧ (failBlock c n).prices = n.prices := by
  cases c with
  | config v => simp [failBlock]
  | prices v => simp [failBlock]
  | metrology slot v => cases slot <;> simp [failBlock]

theorem writeComplete_failed (hjob : s.nvs.job = some ⟨c, d⟩) (hnight : s.psq.night = none)
    (hrestart : s.psq.restart ≠ .draining) :
    writeComplete false s = resumeLoad (if c.kind = .metrology ∧ s.nvs.fail.get c.kind = 2
      then thirdFailure (s.writeFailedAt c d) else s.writeFailedAt c d) := by
  have hends : ∀ t : State, t.psq = s.psq → endDrain t = t := fun t ht => by
    rcases endDrain_cases t with ⟨hr, -⟩ | ⟨r, -, hn, -, -⟩ | ⟨-, -, h⟩
    · simp [State.restartDraining, ht, hrestart] at hr
    · rw [ht, hnight] at hn
      cases hn
    · exact h
  obtain ⟨hfail, -⟩ := failBlock_nvs c (s.writeEnded d).nvs
  have hbefore : (requestWrite c.kind (raise .nvFault ((s.writeEnded d).withNvs
      (failBlock c (s.writeEnded d).nvs)))).nvs.fail = s.nvs.fail := hfail
  have hfailed : writeFailed c (s.writeEnded d) = if c.kind = .metrology ∧ s.nvs.fail.get c.kind = 2
      then thirdFailure (s.writeFailedAt c d) else s.writeFailedAt c d := by
    simp only [writeFailed, hbefore]
    have hkept : (if c.kind = .metrology ∧ s.nvs.fail.get c.kind = 2
        then thirdFailure (s.writeFailedAt c d) else s.writeFailedAt c d).psq = s.psq := by
      split <;> simp [thirdFailure, State.writeFailedAt, State.writeEnded]
    have hsame : (requestWrite c.kind (raise .nvFault ((s.writeEnded d).withNvs
        (failBlock c (s.writeEnded d).nvs)))).withNvs { (requestWrite c.kind (raise .nvFault ((s.writeEnded d).withNvs
        (failBlock c (s.writeEnded d).nvs)))).nvs with
          fail := s.nvs.fail.set (min (s.nvs.fail.get c.kind + 1) 3) c.kind } = s.writeFailedAt c d := by
      simp only [State.writeFailedAt, hbefore]
    rw [hsame, hends _ hkept, ite_self]
  have hcomplete : writeComplete false s = resumeLoad (writeFailed c (s.writeEnded d)) := by
    simp only [writeComplete, hjob]
    rfl
  rw [hcomplete, hfailed]

/-- What a failed write leaves of the store. -/
theorem writeFailedAt_nvs (s : State) (c : WriteContent) (d : Nat) : (s.writeFailedAt c d).nvs =
    { failBlock c s.nvs with
      job := none
      queue := enqueueKind s.lines.warning c.kind s.nvs.queue
      fail := s.nvs.fail.set (min (s.nvs.fail.get c.kind + 1) 3) c.kind } := by
  cases c with
  | config v => rfl
  | prices v => rfl
  | metrology slot v => cases slot <;> rfl

end

theorem exec_writeComplete {s t : State} (hpow : s.powered = true) {good : Bool} (h : writeComplete good s = t) :
    exec (.writeComplete good) s = .next (finish t) := by
  have hexec : exec (.writeComplete good) s = event (writeComplete good) s := rfl
  rw [hexec, event, if_pos hpow, h]

/-! ### The third METROLOGY failure -/

section
variable {s : State} {sd : Side}

theorem takeStoreFailure_side_ne {d : Side} (h : d ≠ sd) (s : State) : (takeStoreFailure sd s).side d = s.side d := by
  have hclosed : (enterClosed sd .nvFault s).side d = s.side d := by
    simp [State.side, enterClosed_sides, PerSide.get_set_ne _ _ h]
  unfold takeStoreFailure
  split
  · rfl
  · exact hclosed
  · exact hclosed
  · exact hclosed
  · simp [State.side, PerSide.get_set_ne _ _ h]

theorem takeStoreFailure_queueGrown (sd : Side) (s : State) : s.QueueGrown (takeStoreFailure sd s) := by
  unfold takeStoreFailure
  split
  · exact queueGrown_of_nvs rfl rfl
  · exact enterClosed_queueGrown ..
  · exact enterClosed_queueGrown ..
  · exact enterClosed_queueGrown ..
  · exact queueGrown_of_nvs rfl rfl

theorem takeStoreFailure_of_open (h : s.sideState sd = .idle ∨ s.sideState sd = .calling ∨
    ∃ a, s.sideState sd = .authorized a) : (takeStoreFailure sd s).sideState sd = .closed .nvFault := by
  have heq : takeStoreFailure sd s = enterClosed sd .nvFault s := by
    rcases h with h | h | ⟨a, h⟩ <;> simp only [takeStoreFailure, h]
  rw [heq, enterClosed_sideState]

theorem takeStoreFailure_of_closed {r : ClosedReason} (h : s.sideState sd = .closed r) : takeStoreFailure sd s = s := by
  simp only [takeStoreFailure, h]

/-- Both sides take the failure, each by its own state. -/
theorem thirdFailure_sideState (s : State) (sd : Side) :
    (thirdFailure s).sideState sd = (takeStoreFailure sd s).sideState sd := by
  have hsides : (thirdFailure s).sideState sd = (takeStoreFailure .b (takeStoreFailure .a s)).sideState sd := rfl
  rw [hsides]
  cases sd with
  | a => rw [State.sideState, takeStoreFailure_side_ne (by decide), State.sideState]
  | b =>
    have hother : (takeStoreFailure .a s).sideState .b = s.sideState .b := by
      rw [State.sideState, takeStoreFailure_side_ne (by decide), State.sideState]
    cases h : s.sideState .b with
    | closed r =>
      rw [takeStoreFailure_of_closed (hother.trans h), takeStoreFailure_of_closed h, hother]
    | idle => rw [takeStoreFailure_of_open (.inl (hother.trans h)), takeStoreFailure_of_open (.inl h)]
    | calling =>
      rw [takeStoreFailure_of_open (.inr (.inl (hother.trans h))), takeStoreFailure_of_open (.inr (.inl h))]
    | authorized a =>
      rw [takeStoreFailure_of_open (.inr (.inr ⟨a, hother.trans h⟩)),
        takeStoreFailure_of_open (.inr (.inr ⟨a, h⟩))]
    | sale p ctx =>
      rw [takeStoreFailure_of_sale (hother.trans h), takeStoreFailure_of_sale h, State.sideState_withSideState,
        State.sideState_withSideState]

theorem thirdFailure_nvs (s : State) : ∃ ks, (thirdFailure s).nvs =
    { s.nvs with queue := enqueueAll s.lines.warning ks s.nvs.queue, condition := .write } := by
  obtain ⟨-, ks, h⟩ := (takeStoreFailure_queueGrown .a s).trans (takeStoreFailure_queueGrown .b _)
  refine ⟨ks, ?_⟩
  rw [thirdFailure]
  simp [h]

end

/-- Settles O59: a verified write, a failed one, and the third METROLOGY failure. -/
theorem writesAreVerifiedOrTriedAgain : Obligations.WritesAreVerifiedOrTriedAgain := by
  intro s c d hpow hjob hload
  refine ⟨?verified, fun hnight hrestart hfew => ?failed, fun hnight hrestart hkind hcount => ?third⟩
  case verified =>
    obtain ⟨hnone, hqueue, -, hfail⟩ := writeVerified_nvs c (s.writeEnded d)
    refine ⟨_, exec_writeComplete hpow (writeComplete_verified hjob hload), hnone, hqueue, ?_, ?_, ?_, ?_, ?_,
      writeVerified_eq c (s.writeEnded d)⟩
    · rw [hfail, FailCounts.get_set]
    · rintro v rfl; rfl
    · rintro v rfl; rfl
    · rintro v rfl; rfl
    · rintro v rfl; rfl
  case failed =>
    have hnvs := writeFailedAt_nvs s c d
    obtain ⟨-, hloading, -, hcurrent, hcondition, hconfig, hprices⟩ := failBlock_nvs c s.nvs
    have hcomplete := writeComplete_failed hjob hnight hrestart
    rw [if_neg (by omega), resumeLoad_of_not_loading (by rw [hnvs]; exact hloading.trans hload)] at hcomplete
    have hqueue : c.kind ∈ (s.writeFailedAt c d).nvs.queue := by
      rw [hnvs]
      exact mem_enqueueKind ..
    refine ⟨_, (exec_writeComplete hpow hcomplete).trans (by rw [finish_of_queue (List.ne_nil_of_mem hqueue)]),
      by rw [hnvs], hqueue, ?_, raised_raise .nvFault _, by rw [hnvs]; exact hcurrent, by rw [hnvs]; exact hcondition,
      by rw [hnvs]; exact hconfig, by rw [hnvs]; exact hprices, ?_, ?_, rfl, rfl, rfl, rfl, rfl, rfl⟩
    · rw [hnvs, Nat.min_eq_left (by omega)]
    · rw [hnvs]
      cases c with
      | config v => rfl
      | prices v => rfl
      | metrology slot v => cases slot <;> rfl
    · rw [hnvs]
      cases c with
      | config v => rfl
      | prices v => rfl
      | metrology slot v => cases slot <;> rfl
  case third =>
    have hcount' : s.nvs.fail.get c.kind = 2 := by rw [hkind]; exact hcount
    have hbefore := writeFailedAt_nvs s c d
    obtain ⟨ks, hnvs⟩ := thirdFailure_nvs (s.writeFailedAt c d)
    obtain ⟨-, hloading, -⟩ := failBlock_nvs c s.nvs
    have hcomplete := writeComplete_failed hjob hnight hrestart
    rw [if_pos ⟨hkind, hcount'⟩,
      resumeLoad_of_not_loading (by rw [hnvs, hbefore]; exact hloading.trans hload)] at hcomplete
    have hqueue : .metrology ∈ (thirdFailure (s.writeFailedAt c d)).nvs.queue := by
      rw [hnvs]
      refine mem_enqueueAll ks ?_
      rw [hbefore, hkind]
      exact mem_enqueueKind ..
    have hside : ∀ sd, (s.writeFailedAt c d).sideState sd = s.sideState sd := fun sd => rfl
    refine ⟨_, (exec_writeComplete hpow hcomplete).trans (by rw [finish_of_queue (List.ne_nil_of_mem hqueue)]),
      by rw [hnvs], ?_, hqueue, fun sd hopen => ?_, fun sd p ctx hsale => ?_⟩
    · rw [hnvs, hbefore, hcount', hkind]
      rfl
    · rw [thirdFailure_sideState]
      exact takeStoreFailure_of_open (by rw [hside]; exact hopen)
    · rw [thirdFailure_sideState, takeStoreFailure_of_sale ((hside sd).trans hsale), State.sideState_withSideState,
        Sale.closing_eq]

end Sys2Proof.Machine
end


section

/-! ## The stages after LOAD, READY, and the wait after an abort (O58) -/

namespace Sys2Proof.Machine

open Sys2Proof

/-! ### What follows an event where no drain is under way -/

theorem endDrain_of_no_drain {t : State} (hnight : t.psq.night = none) (hrestart : t.psq.restart ≠ .draining) :
    endDrain t = t := by
  simp [endDrain, State.restartDraining, hnight, hrestart]

theorem finish_of_no_drain {t : State} (hnight : t.psq.night = none) (hrestart : t.psq.restart ≠ .draining) :
    finish t = beginWrite t := by
  rcases finish_cases t with ⟨-, h⟩ | ⟨-, h⟩
  · exact h
  · rw [h, endDrain_of_no_drain (by simp [hnight]) (by simp [hrestart])]

theorem beginLoad_load (fresh : Bool) (s : State) : (beginLoad fresh s).nvs.load ≠ .none := by
  unfold beginLoad
  split <;> simp [beginReading]

theorem finish_beginSequence (cause : WakeCause) (fresh : Bool) (s : State) :
    finish (beginSequence cause fresh s) = beginSequence cause fresh s := by
  rw [finish_of_no_drain (by simp [beginSequence, Psq.atStart]) (by simp [beginSequence, Psq.atStart])]
  exact beginWrite_idle fun _ hload => absurd hload (beginLoad_load fresh _)

/-! ### SUPPLIES -/

theorem supplyReader_tampered {sd : Side} {s : State} (h : s.lines.tamper.get sd = true) :
    ((supplyReader sd s).reader sd).state = .tampered := by
  rw [supplyReader, if_pos h, enterTampered]
  split
  next htampered => exact htampered
  next => rw [cutReader_reader]

theorem supplyReader_probing {sd : Side} {s : State} (h : s.lines.tamper.get sd = false) :
    (supplyReader sd s).reader sd = { s.reader sd with state := .probing, probe := none } := by
  simp [supplyReader, h]

/-! ### The end of DISPLAYS -/

/-- The display probe is recorded, the closed reasons are shown and READERS begins. -/
def State.displaysOver (s : State) (d : Nat) : State :=
  withStage .readers none (showFoundBoth (recordDisplays .b (recordDisplays .a (s.expireAt d))))

theorem displaysEnd_eq {s : State} {d : Nat} (hmode : s.psq.mode = .poweringUp (.displays false))
    (htimer : s.psq.stageTimer = some d) :
    displaysEnd s = readyCheck (startProbe .b (startProbe .a (s.displaysOver d))) := by
  simp only [displaysEnd, hmode, htimer]
  rfl

section
variable (s : State) (d : Nat)

@[simp] theorem displaysOver_frame :
    (s.displaysOver d).now = max s.now d ∧ (s.displaysOver d).powered = s.powered ∧
    (s.displaysOver d).lines = s.lines ∧ (s.displaysOver d).cfg = s.cfg ∧ (s.displaysOver d).lbc = s.lbc ∧
    (s.displaysOver d).riu = s.riu ∧ (s.displaysOver d).sli = s.sli ∧ (s.displaysOver d).nvs = s.nvs := by
  simp [State.displaysOver, State.expireAt]

theorem displaysOver_psq : (s.displaysOver d).psq = { s.psq with
    mode := .poweringUp .readers
    stageTimer := none
    found := (s.displaysOver d).psq.found } := by
  simp [State.displaysOver, withStage, recordDisplays, State.expireAt]

theorem displaysOver_found (sd : Side) :
    (s.displaysOver d).psq.found.get sd = { s.psq.found.get sd with display := s.sideLost sd } := by
  cases sd <;> rfl

theorem displaysOver_sideState (sd : Side) :
    (s.displaysOver d).sideState sd = .closed (((s.displaysOver d).psq.found.get sd).reason.getD .management) := by
  cases sd <;> rfl

theorem displaysOver_lifted (sd : Side) : (s.displaysOver d).lifted sd = s.lifted sd := by
  cases sd <;> rfl

end

theorem startProbe_of_probing {sd : Side} {s : State} (h : (s.reader sd).state = .probing) :
    (startProbe sd s).reader sd = { s.reader sd with probe := some (s.now + 2000) } := by
  simp [startProbe, h, Config.probeTime]

theorem startProbe_of_not_probing {sd : Side} {s : State} (h : (s.reader sd).state ≠ .probing) :
    startProbe sd s = s := by
  rw [startProbe, if_neg h]

theorem startProbe_reader_other {sd d : Side} (h : d ≠ sd) (s : State) :
    (startProbe sd s).reader d = s.reader d := by
  unfold startProbe
  split
  · exact State.reader_withReader_other _ _ h
  · rfl

theorem startProbe_reader_state (sd d : Side) (s : State) :
    ((startProbe sd s).reader d).state = (s.reader d).state := by
  by_cases hd : d = sd
  · subst hd
    by_cases hp : (s.reader d).state = .probing
    · rw [startProbe_of_probing hp]
    · rw [startProbe_of_not_probing hp]
  · rw [startProbe_reader_other hd]

theorem startProbe_both_of_probing {sd : Side} {s : State} (h : (s.reader sd).state = .probing) :
    (startProbe .b (startProbe .a s)).reader sd = { s.reader sd with probe := some (s.now + 2000) } := by
  cases sd with
  | a => rw [startProbe_reader_other (by decide), startProbe_of_probing h]
  | b =>
    rw [startProbe_of_probing (by rwa [startProbe_reader_state]), startProbe_reader_other (by decide)]
    simp

theorem readyCheck_of_probing {sd : Side} {s : State} (h : (s.reader sd).state = .probing) : readyCheck s = s := by
  unfold readyCheck
  rw [if_neg]
  rintro ⟨-, ha, hb⟩
  cases sd with
  | a => exact ha h
  | b => exact hb h

theorem readyCheck_eq_ready {s : State} (hmode : s.psq.mode = .poweringUp .readers)
    (h : ∀ sd, (s.reader sd).state ≠ .probing) : readyCheck s = ready s :=
  if_pos ⟨hmode, h .a, h .b⟩

end Sys2Proof.Machine
end


section

/-! ## READY (O58) -/

namespace Sys2Proof.Machine

open Sys2Proof

/-! ### The sides at READY -/

section
variable (sd : Side) (s : State)

theorem sideAtReady_of_found {reason : ClosedReason} (h : (s.psq.found.get sd).reason = some reason) :
    sideAtReady sd s = clearSideOpen sd s := by
  simp only [sideAtReady, h]

theorem sideAtReady_of_none (h : (s.psq.found.get sd).reason = none) :
    sideAtReady sd s = if s.cfg.sideOpen.get sd then handPanel sd (enterOpen sd s) else s := by
  simp only [sideAtReady, h]

/-- What READY does to a side is one of three things. -/
theorem sideAtReady_cases :
    (sideAtReady sd s = clearSideOpen sd s ∧ (s.psq.found.get sd).reason ≠ none) ∨
    (sideAtReady sd s = handPanel sd (enterOpen sd s) ∧ (s.psq.found.get sd).reason = none ∧
      s.cfg.sideOpen.get sd = true) ∨
    (sideAtReady sd s = s ∧ (s.psq.found.get sd).reason = none ∧ s.cfg.sideOpen.get sd = false) := by
  cases hfound : (s.psq.found.get sd).reason with
  | some reason => exact .inl ⟨sideAtReady_of_found sd s hfound, by simp⟩
  | none =>
    rw [sideAtReady_of_none sd s hfound]
    cases hopen : s.cfg.sideOpen.get sd with
    | true => exact .inr (.inl ⟨by simp, rfl, rfl⟩)
    | false => exact .inr (.inr ⟨by simp, rfl, rfl⟩)

/-- The state READY gives a side that is shown closed. -/
def State.stateAtReady : SideState :=
  if (s.psq.found.get sd).reason = none ∧ s.cfg.sideOpen.get sd = true then
    (if s.lifted sd = [] then .idle else .calling)
  else s.sideState sd

theorem sideAtReady_sideState : (sideAtReady sd s).sideState sd = s.stateAtReady sd := by
  unfold State.stateAtReady
  rcases sideAtReady_cases sd s with ⟨h, hfound⟩ | ⟨h, hfound, hopen⟩ | ⟨h, -, hopen⟩
  · rw [h, clearSideOpen_sideState, if_neg (fun hboth => hfound hboth.1)]
  · rw [h, if_pos ⟨hfound, hopen⟩]
    exact enterOpen_sideState sd s
  · rw [h, if_neg (fun hboth => by simp [hopen] at hboth)]

theorem sideAtReady_side_other : (sideAtReady sd s).side sd.other = s.side sd.other := by
  rcases sideAtReady_cases sd s with ⟨h, -⟩ | ⟨h, -⟩ | ⟨h, -⟩ <;> rw [h]
  · simp [State.side]
  · exact enterOpen_side_other sd s

theorem sideAtReady_cfg : (sideAtReady sd s).cfg =
    if (s.psq.found.get sd).reason = none then s.cfg
    else { s.cfg with sideOpen := s.cfg.sideOpen.set sd false } := by
  rcases sideAtReady_cases sd s with ⟨h, hfound⟩ | ⟨h, hfound, -⟩ | ⟨h, hfound, -⟩ <;> rw [h]
  · rw [if_neg hfound, clearSideOpen_cfg]
  · simp [hfound]
  · simp [hfound]

theorem sideAtReady_timers : (sideAtReady sd s).cfg.timers = s.cfg.timers := by
  rw [sideAtReady_cfg]
  split <;> rfl

theorem sideAtReady_sideOpen_other : (sideAtReady sd s).cfg.sideOpen.get sd.other = s.cfg.sideOpen.get sd.other := by
  rw [sideAtReady_cfg]
  split
  · rfl
  · exact PerSide.get_set_ne _ _ (side_other_ne sd)

theorem sideAtReady_modules : (sideAtReady sd s).lbc.modules = s.lbc.modules := by
  rcases sideAtReady_cases sd s with ⟨h, -⟩ | ⟨h, -⟩ | ⟨h, -⟩ <;> rw [h]
  · simp
  · simp [handPanel]

end

theorem sideAtReady_keeps_raised {sd : Side} {s : State} {e : Event} (h : s.raised e = true) :
    (sideAtReady sd s).raised e = true := by
  rcases sideAtReady_cases sd s with ⟨eq, -⟩ | ⟨eq, -⟩ | ⟨eq, -⟩ <;> rw [eq]
  · simpa [State.raised] using h
  · simpa [State.raised] using enterOpen_keeps_raised h
  · exact h

theorem Event.number_injective {e e' : Event} (h : e.number = e'.number) : e = e' := by
  revert h
  rcases e with (_ | _) | (_ | _) | (_ | _) | _ | _ | _ | (_ | _) | _ | _ | _ | _ | _ <;>
    rcases e' with (_ | _) | (_ | _) | (_ | _) | _ | _ | _ | (_ | _) | _ | _ | _ | _ | _ <;>
    simp [Event.number]

theorem raise_raised_ne {e e' : Event} (h : e ≠ e') (s : State) : (raise e' s).raised e = s.raised e := by
  have hnumber : e.number ≠ e'.number := fun heq => h (Event.number_injective heq)
  have hlt := e.number_lt
  simp only [State.raised, raise, State.withEvents, Event.bit, BitVec.getLsbD_or, BitVec.getLsbD_shiftLeft]
  by_cases hle : e.number < e'.number
  · simp [hle]
  · have hpos : e.number - e'.number ≠ 0 := by omega
    simp [hle, hpos]

theorem enterOpen_raised_ne {sd : Side} {e : Event} (h : e ≠ .call sd) (s : State) :
    (enterOpen sd s).raised e = s.raised e := by
  rcases enterOpen_cases sd s with ⟨-, eq⟩ | ⟨-, eq⟩ <;> rw [eq]
  · rfl
  · exact raise_raised_ne h _

theorem sideAtReady_raised_ne {sd : Side} {e : Event} (h : e ≠ .call sd) (s : State) :
    (sideAtReady sd s).raised e = s.raised e := by
  rcases sideAtReady_cases sd s with ⟨eq, -⟩ | ⟨eq, -⟩ | ⟨eq, -⟩ <;> rw [eq]
  · simp [State.raised]
  · simpa [State.raised] using enterOpen_raised_ne h s

/-- Both sides at READY. -/
def sidesAtReady (s : State) : State := sideAtReady .b (sideAtReady .a s)

section
variable (s : State)

theorem stateAtReady_congr {s t : State} {sd : Side} (hside : t.side sd = s.side sd)
    (hfound : t.psq.found = s.psq.found) (hopen : t.cfg.sideOpen.get sd = s.cfg.sideOpen.get sd) :
    t.stateAtReady sd = s.stateAtReady sd := by
  unfold State.stateAtReady State.lifted State.sideState
  rw [hside]
  by_cases h : (s.psq.found.get sd).reason = none ∧ s.cfg.sideOpen.get sd = true
  · rw [if_pos h, if_pos (by rwa [hfound, hopen])]
  · rw [if_neg h, if_neg (by rwa [hfound, hopen])]

theorem sidesAtReady_sideState (sd : Side) : (sidesAtReady s).sideState sd = s.stateAtReady sd := by
  cases sd with
  | a =>
    have hkept := sideAtReady_side_other .b (sideAtReady .a s)
    exact (congrArg SideRec.state hkept).trans (sideAtReady_sideState .a s)
  | b =>
    exact (sideAtReady_sideState .b _).trans (stateAtReady_congr (sideAtReady_side_other .a s) (by simp)
      (sideAtReady_sideOpen_other .a s))

theorem sidesAtReady_psq : (sidesAtReady s).psq = s.psq := by simp [sidesAtReady]

theorem sidesAtReady_sideOpen_of_found {sd : Side} (h : (s.psq.found.get sd).reason ≠ none) :
    (sidesAtReady s).cfg.sideOpen.get sd = false := by
  cases sd with
  | a =>
    rw [sidesAtReady]
    refine (sideAtReady_sideOpen_other .b _).trans ?_
    rw [sideAtReady_cfg, if_neg h]
    simp [Side.other]
  | b =>
    rw [sidesAtReady, sideAtReady_cfg, if_neg (by simpa using h)]
    simp

theorem sidesAtReady_timers : (sidesAtReady s).cfg.timers = s.cfg.timers :=
  (sideAtReady_timers .b _).trans (sideAtReady_timers .a s)

theorem sidesAtReady_modules : (sidesAtReady s).lbc.modules = s.lbc.modules :=
  (sideAtReady_modules .b _).trans (sideAtReady_modules .a s)

theorem sidesAtReady_keeps_raised {e : Event} (h : s.raised e = true) : (sidesAtReady s).raised e = true :=
  sideAtReady_keeps_raised (sideAtReady_keeps_raised h)

theorem sidesAtReady_raised_ne {e : Event} (ha : e ≠ .call .a) (hb : e ≠ .call .b) :
    (sidesAtReady s).raised e = s.raised e :=
  (sideAtReady_raised_ne hb _).trans (sideAtReady_raised_ne ha s)

end

/-! ### The modules that are LOST at READY -/

/-- A module that is LOST belongs to a side that is CLOSED. -/
def State.LossesClosed (s : State) : Prop :=
  ∀ sd, s.sideLost sd = true → ∃ reason, s.sideState sd = .closed reason

theorem reportLost_of_lossesClosed {s : State} (h : s.LossesClosed) (m : DisplayModule) : reportLost m s = s := by
  unfold reportLost
  split
  next => rfl
  next hlost =>
    have hside : s.sideLost m.side = true := by
      cases m <;> simp_all [State.sideLost, State.displayModule, DisplayModule.side, PerDisplay.get]
    obtain ⟨reason, hclosed⟩ := h _ hside
    simp only [takeLoss, hclosed]

theorem reportLostAll_of_lossesClosed {s : State} (h : s.LossesClosed) : reportLostAll s = s := by
  simp [reportLostAll, reportLost_of_lossesClosed h]

end Sys2Proof.Machine
end


section

/-! ## READY and the wait after an abort, settled (O58) -/

namespace Sys2Proof.Machine

open Sys2Proof

/-! ### READY -/

/-- READY up to its events, before the sides open. -/
def State.readyBegun (s : State) : State :=
  (eventsAtReady (s.withPsq { s.psq with restarts := 0 })).withPsq
    { s.psq with restarts := 0, mode := .run, stageTimer := none }

section
variable (s : State)

theorem ready_eq : ready s = timersAtReady (reportLostAll (sidesAtReady s.readyBegun)) := by
  simp [ready, State.readyBegun, sidesAtReady]

@[simp] theorem readyBegun_frame :
    s.readyBegun.psq = { s.psq with restarts := 0, mode := .run, stageTimer := none } ∧
    s.readyBegun.sides = s.sides ∧ s.readyBegun.cfg = s.cfg ∧ s.readyBegun.lbc = s.lbc ∧
    s.readyBegun.now = s.now := by
  simp [State.readyBegun]

theorem readyBegun_powerUpDone : s.readyBegun.raised .powerUpDone = true := by
  simp only [State.readyBegun, eventsAtReady]
  split
  · exact raised_raise _ _
  · exact raised_raise _ _
  · exact raised_of_raised (raised_raise _ _)
  · exact raised_raise _ _
  · exact raised_raise _ _
  · exact raised_raise _ _

variable {s}

/-- After a power-on or RESTART the events are those that persist. -/
theorem readyBegun_raised_of_fresh (hcause : s.psq.cause = .powerOn ∨ s.psq.cause = .restart) {e : Event}
    (he : e ≠ .powerUpDone) : s.readyBegun.raised e = (persisting s).getLsbD e.number := by
  rcases hcause with hcause | hcause <;> simp only [State.readyBegun, eventsAtReady, State.withPsq, hcause] <;>
    exact raise_raised_ne he _

/-- After a wake or an abort the events are kept. -/
theorem readyBegun_keeps_raised (hpower : s.psq.cause ≠ .powerOn) (hrestart : s.psq.cause ≠ .restart) {e : Event}
    (h : s.raised e = true) : s.readyBegun.raised e = true := by
  simp only [State.readyBegun, eventsAtReady]
  split
  next hcause => exact absurd hcause hpower
  next hcause => exact absurd hcause hrestart
  · exact raised_of_raised (raised_of_raised h)
  · exact raised_of_raised h
  · exact raised_of_raised h
  · exact raised_of_raised h

theorem readyBegun_wakeError (hcause : s.psq.cause = .fallback) : s.readyBegun.raised .wakeError = true := by
  simp only [State.readyBegun, eventsAtReady, State.withPsq, hcause]
  exact raised_raise _ _

end

section
variable (s : State)

theorem timersAtReady_confirmTimer : (timersAtReady s).psq.confirmTimer =
    if s.psq.cause = .filter ∨ s.psq.cause = .fallback then some (s.now + 1000 * s.cfg.timers.confirm)
    else s.psq.confirmTimer := by
  cases h : s.psq.cause <;> simp [timersAtReady, h]

theorem timersAtReady_wakeTimer : (timersAtReady s).psq.wakeTimer =
    if s.psq.cause = .nozzle then none else s.psq.wakeTimer := by
  cases h : s.psq.cause <;> simp [timersAtReady, h]

/-- Nothing of the sequencer but the two timers changes. -/
theorem timersAtReady_psq : (timersAtReady s).psq = { s.psq with
    confirmTimer := (timersAtReady s).psq.confirmTimer
    wakeTimer := (timersAtReady s).psq.wakeTimer } := by
  unfold timersAtReady
  split <;> rfl

end

/-! ### READY as the end of DISPLAYS brings it -/

section
variable {s : State} (d : Nat)

/-- The state READY leaves when it is reached at the end of DISPLAYS. -/
def State.readyAfterDisplays (s : State) (d : Nat) : State := timersAtReady (sidesAtReady (s.displaysOver d).readyBegun)

/-- The closed reason the sequence has found for a side. -/
theorem displaysOver_reason (sd : Side) : ((s.displaysOver d).psq.found.get sd).reason =
    if (s.psq.found.get sd).config = true ∨ (s.psq.found.get sd).metrology = true then some .nvFault
    else if s.sideLost sd = true then some .displayFault else none := by
  rw [displaysOver_found, Found.reason]

theorem displaysOver_stateAtReady (sd : Side) : (s.displaysOver d).readyBegun.stateAtReady sd =
    if ((s.displaysOver d).psq.found.get sd).reason = none ∧ s.cfg.sideOpen.get sd = true then
      (if s.lifted sd = [] then .idle else .calling)
    else .closed (((s.displaysOver d).psq.found.get sd).reason.getD .management) := by
  have hcfg : (s.displaysOver d).cfg = s.cfg := by simp
  rw [stateAtReady_congr (s := s.displaysOver d) (by simp [State.side]) (by simp) (by simp), State.stateAtReady,
    displaysOver_lifted, displaysOver_sideState, hcfg]

theorem displaysOver_lossesClosed : (sidesAtReady (s.displaysOver d).readyBegun).LossesClosed := by
  intro sd hlost
  have hlost' : s.sideLost sd = true := by
    simpa [State.sideLost, sidesAtReady_modules] using hlost
  have hreason : ((s.displaysOver d).psq.found.get sd).reason ≠ none := by
    rw [displaysOver_reason, if_pos hlost']
    split <;> simp
  have hstate := sidesAtReady_sideState (s.displaysOver d).readyBegun sd
  rw [displaysOver_stateAtReady, if_neg fun h => hreason h.1] at hstate
  exact ⟨_, hstate⟩

theorem ready_displaysOver : ready (s.displaysOver d) = s.readyAfterDisplays d := by
  rw [ready_eq, reportLostAll_of_lossesClosed (displaysOver_lossesClosed d)]
  rfl

theorem readyAfterDisplays_sideState (sd : Side) :
    (s.readyAfterDisplays d).sideState sd = (s.displaysOver d).readyBegun.stateAtReady sd := by
  rw [← sidesAtReady_sideState]
  simp [State.readyAfterDisplays, State.sideState, State.side]

theorem readyAfterDisplays_psq : (s.readyAfterDisplays d).psq = { s.psq with
    mode := .run
    restarts := 0
    stageTimer := none
    found := (s.displaysOver d).psq.found
    confirmTimer := (s.readyAfterDisplays d).psq.confirmTimer
    wakeTimer := (s.readyAfterDisplays d).psq.wakeTimer } := by
  have h := timersAtReady_psq (sidesAtReady (s.displaysOver d).readyBegun)
  rw [sidesAtReady_psq, (readyBegun_frame _).1, displaysOver_psq] at h
  exact h

theorem readyAfterDisplays_confirmTimer : (s.readyAfterDisplays d).psq.confirmTimer =
    if s.psq.cause = .filter ∨ s.psq.cause = .fallback then some (max s.now d + 1000 * s.cfg.timers.confirm)
    else s.psq.confirmTimer := by
  rw [State.readyAfterDisplays, timersAtReady_confirmTimer, sidesAtReady_timers, sidesAtReady_psq]
  rw [(readyBegun_frame _).1, displaysOver_psq]
  simp [sidesAtReady]

theorem readyAfterDisplays_wakeTimer : (s.readyAfterDisplays d).psq.wakeTimer =
    if s.psq.cause = .nozzle then none else s.psq.wakeTimer := by
  rw [State.readyAfterDisplays, timersAtReady_wakeTimer, sidesAtReady_psq, (readyBegun_frame _).1, displaysOver_psq]

theorem readyAfterDisplays_raised (e : Event) :
    (s.readyAfterDisplays d).raised e = (sidesAtReady (s.displaysOver d).readyBegun).raised e := by
  simp [State.readyAfterDisplays, State.raised]

end

end Sys2Proof.Machine
end


section

/-! ## The stages of the sequence, stage by stage (O58) -/

namespace Sys2Proof.Machine

open Sys2Proof

/-! ### A sequence that begins again -/

section
variable (cause : WakeCause) (s : State)

theorem beginSequence_psq (fresh : Bool) : (beginSequence cause fresh s).psq = s.psq.atStart cause fresh := by
  simp [beginSequence]

theorem beginSequence_displayModule (fresh : Bool) (m : DisplayModule) :
    (beginSequence cause fresh s).displayModule m = ⟨false, none⟩ := by
  rcases m with (_ | _) | (_ | _) <;>
    simp [beginSequence, State.displayModule, PerDisplay.get, handPanels, handPanel] <;> rfl

theorem beginSequence_reader (fresh : Bool) (sd : Side) :
    (beginSequence cause fresh s).reader sd = (s.reader sd).atStart fresh := by
  cases sd <;> simp [beginSequence, State.reader, PerSide.get]

theorem beginSequence_side (fresh : Bool) (sd : Side) :
    (beginSequence cause fresh s).side sd = (s.side sd).atStart fresh := by
  cases sd <;> simp [beginSequence, State.side, PerSide.get]

theorem mapAll_keep (p : PerMeter Channel) : (p.mapAll fun _ => Channel.atStart false) = p := by
  cases p
  simp [PerMeter.mapAll, Channel.atStart]

/-- What a wake leaves, the same for every cause. -/
theorem wake_wokenFrom : (wake cause s).WokenFrom s cause := by
  refine ⟨?mode, ?cause, ?restarts, ?confirm, ?mark, ?rx, ?errors, ?overflow, ?modules, ?readers, ?mci, ?_⟩
  case mode | cause | restarts | confirm | mark => simp [wake, beginSequence_psq, Psq.atStart]
  case rx | errors | overflow => simp [wake, beginSequence_sli, Sli.atStart]
  case modules => exact fun m => beginSequence_displayModule cause s false m
  case readers =>
    intro sd
    rw [wake, beginSequence_reader]
    rfl
  case mci => simp [wake, beginSequence, mapAll_keep]
  simp [wake]

end

/-! ### The stages -/

section
variable {s : State} {d : Nat} (hs : s.Live) (htimer : s.psq.stageTimer = some d)
include hs htimer

theorem exec_supplyStep_first (hmode : s.psq.mode = .poweringUp (.supplies .a)) :
    exec .supplyStep s = .next (withStage (.supplies .b) (some (max s.now d + 200))
      (supplyReader .a { s with now := max s.now d })) := by
  have hstep : supplyStep s = withStage (.supplies .b) (some (max s.now d + 200))
      (supplyReader .a { s with now := max s.now d }) := by
    simp [supplyStep, hmode, htimer, State.expireAt, Config.supplyStep]
  refine (event_finish_to hs hstep).trans (congrArg _ (finish_eq_of_eq hs.2 ?_ ?_ ?_)) <;> simp [withStage]

theorem exec_supplyStep_second (hmode : s.psq.mode = .poweringUp (.supplies .b)) :
    exec .supplyStep s = .next (startRounds (withStage (.displays true) (some (max s.now d + 1000))
      (supplyReader .b { s with now := max s.now d }))) := by
  have hstep : supplyStep s = startRounds (withStage (.displays true) (some (max s.now d + 1000))
      (supplyReader .b { s with now := max s.now d })) := by
    simp [supplyStep, hmode, htimer, State.expireAt, Config.displayTest]
  refine (event_finish_to hs hstep).trans (congrArg _ (finish_eq_of_eq hs.2 ?_ ?_ ?_)) <;> simp [withStage]

theorem exec_displayTestEnd (hmode : s.psq.mode = .poweringUp (.displays true)) :
    exec .displayTestEnd s = .next { s with
      now := max s.now d
      psq := { s.psq with mode := .poweringUp (.displays false), stageTimer := some (max s.now d + 500) } } := by
  have hstep : displayTestEnd s = { s with
      now := max s.now d
      psq := { s.psq with mode := .poweringUp (.displays false), stageTimer := some (max s.now d + 500) } } := by
    simp only [displayTestEnd, hmode, htimer]
    rfl
  exact (event_finish_to hs hstep).trans (congrArg _ (finish_eq_of_eq hs.2 rfl rfl rfl))

theorem exec_displaysEnd_probing (hmode : s.psq.mode = .poweringUp (.displays false)) {sd : Side}
    (hprobing : (s.reader sd).state = .probing) :
    exec .displaysEnd s = .next (startProbe .b (startProbe .a (s.displaysOver d))) := by
  have hreader : ((startProbe .b (startProbe .a (s.displaysOver d))).reader sd).state = .probing := by
    rw [startProbe_reader_state, startProbe_reader_state]
    simpa [State.reader] using hprobing
  have hstep : displaysEnd s = startProbe .b (startProbe .a (s.displaysOver d)) :=
    (displaysEnd_eq hmode htimer).trans (readyCheck_of_probing hreader)
  refine (event_finish_to hs hstep).trans (congrArg _ (finish_eq_of_eq hs.2 ?_ ?_ ?_)) <;> simp <;>
    rw [displaysOver_psq]

theorem exec_displaysEnd_ready (hmode : s.psq.mode = .poweringUp (.displays false))
    (hrestart : s.psq.restart = .none) (hnight : s.psq.night = none)
    (hprobing : ∀ sd, (s.reader sd).state ≠ .probing) :
    exec .displaysEnd s = .next (beginWrite (s.readyAfterDisplays d)) := by
  have hreader : ∀ sd, ((s.displaysOver d).reader sd).state ≠ .probing := by
    intro sd
    simpa [State.reader] using hprobing sd
  have hstep : displaysEnd s = s.readyAfterDisplays d := by
    rw [displaysEnd_eq hmode htimer, startProbe_of_not_probing (hreader .a), startProbe_of_not_probing (hreader .b),
      readyCheck_eq_ready (by rw [displaysOver_psq]) hreader, ready_displaysOver]
  refine (event_finish_to hs hstep).trans (congrArg _ (finish_of_no_drain ?_ ?_)) <;> rw [readyAfterDisplays_psq]
  · exact hnight
  · simp [hrestart]

theorem exec_waitTimer (hmode : s.psq.mode = .poweringUp .wait) :
    exec .waitTimer s = .next (beginSequence s.psq.cause false (s.expireAt d)) := by
  have hstep : waitTimer s = beginSequence s.psq.cause false (s.expireAt d) := by
    simp only [waitTimer, hmode, htimer]
    rfl
  exact (event_finish_to hs hstep).trans (congrArg _ (finish_beginSequence _ _ _))

end

/-! ### What READY leaves -/

section
variable {s : State} (d : Nat)

theorem readyAfterDisplays_sideOpen_of_found {sd : Side} (h : ((s.displaysOver d).psq.found.get sd).reason ≠ none) :
    (s.readyAfterDisplays d).cfg.sideOpen.get sd = false := by
  have hopen := sidesAtReady_sideOpen_of_found (s.displaysOver d).readyBegun (sd := sd) (by simpa using h)
  simpa [State.readyAfterDisplays] using hopen

/-- A side for which a closure was found stands CLOSED at READY with that reason, its flag cleared. -/
theorem readyAfterDisplays_closed {sd : Side} {reason : ClosedReason}
    (h : ((s.displaysOver d).psq.found.get sd).reason = some reason) :
    (s.readyAfterDisplays d).sideState sd = .closed reason ∧
    (s.readyAfterDisplays d).cfg.sideOpen.get sd = false := by
  refine ⟨?_, readyAfterDisplays_sideOpen_of_found d (by simp [h])⟩
  rw [readyAfterDisplays_sideState, displaysOver_stateAtReady]
  simp [h]

/-- A side without a closure follows its side-open flag. -/
theorem readyAfterDisplays_open {sd : Side} (h : ((s.displaysOver d).psq.found.get sd).reason = none) :
    (s.readyAfterDisplays d).sideState sd =
      if s.cfg.sideOpen.get sd then (if s.lifted sd = [] then .idle else .calling) else .closed .management := by
  rw [readyAfterDisplays_sideState, displaysOver_stateAtReady]
  cases hopen : s.cfg.sideOpen.get sd <;> simp [h]

theorem readyAfterDisplays_keeps_raised {e : Event} (h : (s.displaysOver d).readyBegun.raised e = true) :
    (s.readyAfterDisplays d).raised e = true := by
  rw [readyAfterDisplays_raised]
  exact sidesAtReady_keeps_raised _ h

theorem persisting_displaysOver : persisting (s.displaysOver d) = persisting s := by
  simp [persisting]

end

/-- Settles O58, stage by stage; READY over `readyAfterDisplays`, where every LOST module's side is CLOSED. -/
theorem theSequenceComesUpInStages : Obligations.TheSequenceComesUpInStages := by
  intro s d hs htimer hrestart hnight
  refine ⟨exec_supplyStep_first hs htimer, exec_supplyStep_second hs htimer, ?reader,
    exec_displayTestEnd hs htimer, ?probing, ?ready, ?wait⟩
  case reader =>
    rintro sd t rfl
    exact ⟨supplyReader_tampered, fun h => by simp [supplyReader_probing h]⟩
  case probing =>
    rintro hmode ⟨sd, hprobing⟩
    refine ⟨_, exec_displaysEnd_probing hs htimer hmode hprobing, ?_, ?_, ?_, ?_, ?_⟩
    · simp only [startProbe_frame]
      rw [displaysOver_psq]
    · intro sd' hsd'
      rw [startProbe_both_of_probing (by simpa [State.reader] using hsd')]
      simp [State.reader]
    · intro sd'
      simp [displaysOver_found, State.sideLost]
    · simp
    · simp
  case ready =>
    intro hmode hprobing
    have hcause : (s.displaysOver d).psq.cause = s.psq.cause := by rw [displaysOver_psq]
    refine ⟨_, exec_displaysEnd_ready hs htimer hmode hrestart hnight hprobing, ?mode, ?restarts, ?done, ?opened,
      ?fault, ?display, ?fresh, ?kept, ?fallback, ?confirm, ?wake⟩
    case mode | restarts =>
      simp only [beginWrite_frame]
      rw [readyAfterDisplays_psq]
    case done => simpa [State.raised] using readyAfterDisplays_keeps_raised d (readyBegun_powerUpDone _)
    case opened =>
      intro sd hconfig hmetrology hsale hpanel
      have hreason : ((s.displaysOver d).psq.found.get sd).reason = none := by
        simp [displaysOver_reason, hconfig, hmetrology, State.sideLost, hsale, hpanel]
      simpa [State.sideState, State.side] using readyAfterDisplays_open d hreason
    case fault =>
      intro sd hfound
      simpa [State.sideState, State.side] using
        readyAfterDisplays_closed d ((displaysOver_reason d sd).trans (if_pos hfound))
    case display =>
      intro sd hconfig hmetrology hlost
      have hside : s.sideLost sd = true := by simpa [State.sideLost] using hlost
      have hreason : ((s.displaysOver d).psq.found.get sd).reason = some .displayFault := by
        simp [displaysOver_reason, hconfig, hmetrology, hside]
      simpa [State.sideState, State.side] using readyAfterDisplays_closed d hreason
    case fresh =>
      intro hfresh e ha hb hdone
      have hraised : (s.readyAfterDisplays d).raised e = (persisting s).getLsbD e.number := by
        rw [readyAfterDisplays_raised, sidesAtReady_raised_ne _ ha hb,
          readyBegun_raised_of_fresh (by rwa [hcause]) hdone, persisting_displaysOver]
      simpa [State.raised] using hraised
    case kept =>
      intro hpower hrestartCause e he
      have hraised := readyAfterDisplays_keeps_raised d (readyBegun_keeps_raised (s := s.displaysOver d)
        (by rwa [hcause]) (by rwa [hcause]) (by simpa [State.raised] using he))
      simpa [State.raised] using hraised
    case fallback =>
      intro hfallback
      simpa [State.raised] using readyAfterDisplays_keeps_raised d (readyBegun_wakeError (hcause.trans hfallback))
    case confirm =>
      have h := readyAfterDisplays_confirmTimer (s := s) d
      cases hc : s.psq.cause <;> simpa [hc] using h
    case wake =>
      have h := readyAfterDisplays_wakeTimer (s := s) d
      cases hc : s.psq.cause <;> simpa [hc] using h
  case wait =>
    intro hmode
    refine ⟨_, exec_waitTimer hs htimer hmode, ?_, ?_, ?_, ?_, ?_, ?_, beginSequence_displayModule _ _ _,
      ?_, ?_, ?_, ?_⟩
    · simp [beginSequence_psq, Psq.atStart]
    · simp [beginSequence_psq, Psq.atStart]
    · simp [beginSequence_psq, Psq.atStart, State.expireAt]
    · simp [beginSequence_psq, Psq.atStart, State.expireAt]
    · simp [beginSequence_sli, Sli.atStart]
    · simp [beginSequence_sli, Sli.atStart, State.expireAt]
    · intro sd
      rw [State.sideState, beginSequence_side, beginSequence_reader]
      exact ⟨rfl, rfl⟩
    · simp [State.expireAt]
    · simp [State.expireAt]
    · simp [State.expireAt]

end Sys2Proof.Machine
end


section

/-! ## APPLY, and the read attempts of LOAD (O57) -/

namespace Sys2Proof.Machine

open Sys2Proof

/-! ### The staged table in APPLY -/

/-- No side holds an authorization. -/
def State.Unauthorized (s : State) : Prop := ∀ sd a, s.sideState sd ≠ .authorized a

section
variable {s : State} {t : PriceTable}

theorem unauthorized_of_salesOk (h : s.SalesOk) (hmode : s.psq.mode ≠ .run) : s.Unauthorized := by
  intro sd a hstate
  exact hmode (h.1 sd (by rw [hstate]; rfl)).1

theorem reachSides_sides_of_unauthorized (h : s.Unauthorized) : (reachSides s).sides = s.sides := by
  simp [reachSides, testStart_of_not_authorized (h .a), testStart_of_not_authorized (h .b)]

theorem setActive_sides_of_unauthorized (h : s.Unauthorized) : (setActive t s).sides = s.sides := by
  by_cases ht : t = s.ptu.active
  · rw [setActive_of_eq ht]
  · rw [setActive_of_ne ht, reachSides_sides_of_unauthorized]
    · simp
    · simpa [State.Unauthorized, State.sideState, State.side] using h

theorem applyScheduled_sides_of_unauthorized (h : s.Unauthorized) : (applyScheduled s).sides = s.sides := by
  unfold applyScheduled
  split
  · split
    · rw [commitStaged, setActive_sides_of_unauthorized]
      · simp
      · simpa [State.Unauthorized, State.sideState, State.side] using h
    · rfl
  · rfl

theorem applyScheduled_of_not_due (h : s.ptu.pending = false ∨ s.ptu.staged = none) : applyScheduled s = s := by
  unfold applyScheduled
  split
  next hstaged => rw [if_neg (by rcases h with h | h <;> simp_all)]
  next => rfl

theorem applyScheduled_of_due (hpending : s.ptu.pending = true) (hstaged : s.ptu.staged = some t) :
    applyScheduled s = commitStaged t s := by
  simp only [applyScheduled, hstaged]
  rw [if_pos hpending]

theorem setActive_ptu : (setActive t s).ptu = { s.ptu with
    active := t
    generation := if t = s.ptu.active then s.ptu.generation else generationStep s.ptu.generation } := by
  by_cases ht : t = s.ptu.active
  · rw [setActive_of_eq ht, if_pos ht, ht]
  · rw [setActive_of_ne ht, if_neg ht]
    simp

theorem commitStaged_ptu : (commitStaged t s).ptu =
    ⟨t, if t = s.ptu.active then s.ptu.generation else generationStep s.ptu.generation, none, false⟩ := by
  rw [commitStaged, setActive_ptu]
  simp [removeStaged]

theorem commitStaged_mem_prices : Kind.prices ∈ (commitStaged t s).nvs.queue := by
  by_cases ht : t = (removeStaged s).ptu.active
  · rw [commitStaged, setActive_of_eq ht]
    exact requestWrite_mem _ _
  · exact setActive_queues_prices ht

theorem commitStaged_raised (h : t ≠ s.ptu.active) : (commitStaged t s).raised .priceApplied = true :=
  setActive_raised (by simpa [removeStaged] using h)

/-- Of the store, a table that becomes active changes the queue alone. -/
theorem setActive_nvs : (setActive t s).nvs = { s.nvs with queue := (setActive t s).nvs.queue } := by
  by_cases ht : t = s.ptu.active
  · rw [setActive_of_eq ht]
  · simp [setActive_of_ne ht, requestWrite]

theorem applyScheduled_nvs : (applyScheduled s).nvs = { s.nvs with queue := (applyScheduled s).nvs.queue } := by
  unfold applyScheduled
  split
  · split
    · rw [commitStaged, setActive_nvs]
      simp [removeStaged, requestWrite]
    · rfl
  · rfl

theorem setActive_keeps_raised {e : Event} (h : s.raised e = true) : (setActive t s).raised e = true := by
  by_cases ht : t = s.ptu.active
  · rwa [setActive_of_eq ht]
  · have hsli (u : State) : (reachSides (requestWrite .prices u)).sli = u.sli := by simp
    rw [setActive_of_ne ht, State.raised, hsli]
    exact raised_of_raised h

theorem applyScheduled_keeps_raised {e : Event} (h : s.raised e = true) : (applyScheduled s).raised e = true := by
  unfold applyScheduled
  split
  · split
    · exact setActive_keeps_raised (by simpa [State.raised] using h)
    · exact h
  · exact h

end

/-! ### APPLY with SUPPLIES behind it -/

section
variable (s : State)

theorem enterApply_of_warning (h : s.lines.warning = true) :
    enterApply s = withStage .apply none (applyScheduled s) := by
  simp [enterApply, h]

theorem enterApply_of_no_warning (h : s.lines.warning = false) : enterApply s = enterSupplies (applyScheduled s) := by
  simp [enterApply, h]

/-- The stage that APPLY begins touches the sequencer alone. -/
theorem enterApply_applied : (enterApply s).nvs = (applyScheduled s).nvs ∧
    (enterApply s).ptu = (applyScheduled s).ptu ∧ (enterApply s).sli = (applyScheduled s).sli ∧
    (enterApply s).sides = (applyScheduled s).sides := by
  cases h : s.lines.warning with
  | true => simp [enterApply_of_warning s h]
  | false => simp [enterApply_of_no_warning s h]

theorem enterApply_psq : (enterApply s).psq = { s.psq with
    mode := .poweringUp (if s.lines.warning then .apply else .supplies .a)
    stageTimer := if s.lines.warning then none else some (s.now + 200)
    displayDemand := s.psq.displayDemand || !s.lines.warning } := by
  cases h : s.lines.warning with
  | true => simp [enterApply_of_warning s h, withStage]
  | false => simp [enterApply_of_no_warning s h, enterSupplies, withStage, Config.supplyStep]

end

/-! ### A read attempt -/

section
variable {s : State} {fresh g0 : Bool} {b : Block} {n d : Nat} (hload : s.nvs.load = .reading fresh b n g0 d)
include hload

theorem readAttempt_good (hholds : blockHolds s.nvs b = true) :
    readAttempt true s = blockRead fresh true b g0 (s.expireAt d) := by
  simp only [readAttempt, hload]
  exact if_pos (by simpa [State.expireAt] using hholds)

theorem readAttempt_again (hn : n < 4) : readAttempt false s = readNext fresh b (n + 1) g0 (s.expireAt d) := by
  simp [readAttempt, hload, hn]

theorem readAttempt_bad (hn : n = 4) : readAttempt false s = blockRead fresh false b g0 (s.expireAt d) := by
  simp [readAttempt, hload, hn]

end

/-- The next read is all that follows an attempt; nothing is written during LOAD. -/
theorem exec_readAttempt_reading {s u : State} {good fresh g0 : Bool} {b : Block} {n : Nat}
    (hpowered : s.powered = true) (h : readAttempt good s = readNext fresh b n g0 u) (hnight : u.psq.night = none)
    (hrestart : u.psq.restart = .none) : exec (.readAttempt good) s = .next (readNext fresh b n g0 u) := by
  have hfinish : finish (readNext fresh b n g0 u) = readNext fresh b n g0 u := by
    rw [finish_of_no_drain (by simpa using hnight) (by simp [hrestart])]
    exact beginWrite_idle fun _ hload => by simp [readNext] at hload
  have hevent : exec (.readAttempt good) s = .next (finish (readAttempt good s)) := by
    simp [exec, execReadAttempt, event, hpowered]
  rw [hevent, h, hfinish]

/-! ### What CONFIG brings -/

section
variable (fresh : Bool) (c : Cfg) (s : State)

theorem syncLine_of_sending (h : s.sli.tx.isSending = true) : syncLine s = s := by
  rw [syncLine, if_pos h]

theorem syncLine_sli_of_not_sending (h : s.sli.tx.isSending = false) : (syncLine s).sli = { s.sli with
    line := ⟨s.cfg.address, s.cfg.group, s.cfg.speed⟩
    rx := if s.cfg.speed = s.sli.line.speed then s.sli.rx else .waitQuiet } := by
  simp [syncLine, h]

theorem syncLine_events : (syncLine s).sli.events = s.sli.events := by
  rcases syncLine_cases s with ⟨-, h⟩ | ⟨-, -, h⟩ | ⟨-, -, h⟩ <;> rw [h] <;> rfl

/-- Of the site line, the configuration brings its settings and the bound on the error counter. -/
theorem takeConfig_sli : (takeConfig fresh c s).sli = { (syncLine (s.withCfg c)).sli with
    errors := (takeConfig fresh c s).sli.errors } := by
  unfold takeConfig boundCounters
  split <;> simp

theorem takeConfig_cfg : (takeConfig fresh c s).cfg = c := by
  unfold takeConfig
  split <;> simp

end

theorem tx_isSending_eq_false {tx : Transmit} (h : ∀ r more, tx ≠ .sending r more) : tx.isSending = false := by
  cases tx with
  | sending r more => exact absurd rfl (h r more)
  | idle | waiting | gap => rfl

end Sys2Proof.Machine
end


section

/-! ## LOAD, settled (O57) -/

namespace Sys2Proof.Machine

open Sys2Proof

/-! ### The first three blocks -/

section
variable {s : State} {fresh g0 : Bool} {n d : Nat} (hpowered : s.powered = true) (hnight : s.psq.night = none)
  (hrestart : s.psq.restart = .none)
include hpowered hnight hrestart

theorem exec_readAttempt_again {b : Block} (hload : s.nvs.load = .reading fresh b n g0 d) (hn : n < 4) :
    exec (.readAttempt false) s = .next { s with
      now := max s.now d
      nvs := { s.nvs with load := .reading fresh b (n + 1) g0 (max s.now d + readTime b) } } :=
  exec_readAttempt_reading hpowered (readAttempt_again hload hn) hnight hrestart

theorem exec_readAttempt_config {c : Cfg} (hload : s.nvs.load = .reading fresh .config n g0 d)
    (hblock : s.nvs.config = some c) :
    exec (.readAttempt true) s = .next (readNext fresh .prices 1 g0 (takeConfig fresh c (s.expireAt d))) := by
  refine exec_readAttempt_reading hpowered ?_ (by simpa using hnight) (by simpa using hrestart)
  rw [readAttempt_good hload (by simp [blockHolds, hblock])]
  simp [blockRead, loadConfig, State.expireAt, hblock]

theorem exec_readAttempt_config_bad (hload : s.nvs.load = .reading fresh .config 4 g0 d) :
    exec (.readAttempt false) s = .next (readNext fresh .prices 1 g0 (loadConfig fresh none (s.expireAt d))) := by
  refine exec_readAttempt_reading hpowered (readAttempt_bad hload rfl) ?_ ?_
  · simpa [loadConfig] using hnight
  · simpa [loadConfig] using hrestart

theorem exec_readAttempt_prices {p : Prices} (hload : s.nvs.load = .reading fresh .prices n g0 d)
    (hblock : s.nvs.prices = some p) :
    exec (.readAttempt true) s = .next (readNext fresh .m0 1 g0 (handPanels ((s.expireAt d).withPtu p))) := by
  refine exec_readAttempt_reading hpowered ?_ (by simpa using hnight) (by simpa using hrestart)
  rw [readAttempt_good hload (by simp [blockHolds, hblock])]
  simp [blockRead, loadPrices, State.expireAt, hblock]

theorem exec_readAttempt_prices_bad (hload : s.nvs.load = .reading fresh .prices 4 g0 d) :
    exec (.readAttempt false) s = .next (readNext fresh .m0 1 g0 (loadPrices none (s.expireAt d))) := by
  refine exec_readAttempt_reading hpowered (readAttempt_bad hload rfl) ?_ ?_ <;> simpa

theorem exec_readAttempt_m0 {x : Stamped} (hload : s.nvs.load = .reading fresh .m0 n g0 d)
    (hblock : s.nvs.slot0 = some x) :
    exec (.readAttempt true) s = .next { s with
      now := max s.now d, nvs := { s.nvs with load := .reading fresh .m1 1 true (max s.now d + 4) } } :=
  exec_readAttempt_reading hpowered (readAttempt_good hload (by simp [blockHolds, hblock])) hnight hrestart

theorem exec_readAttempt_m0_bad (hload : s.nvs.load = .reading fresh .m0 4 g0 d) :
    exec (.readAttempt false) s = .next { s with
      now := max s.now d
      sli := { s.sli with events := s.sli.events ||| Event.nvFault.bit }
      nvs := { s.nvs with load := .reading fresh .m1 1 false (max s.now d + 4) } } :=
  exec_readAttempt_reading hpowered (readAttempt_bad hload rfl) hnight hrestart

end

theorem loadConfig_none_sideState (fresh : Bool) (s : State) (sd : Side) :
    (loadConfig fresh none s).sideState sd = .closed .nvFault := by
  cases sd <;>
    simp [loadConfig, showFoundBoth, showFound, State.sideState, State.side, Found.reason, PerSide.get, PerSide.set,
      State.withSideState, State.withSide]

theorem loadConfig_none_raised (fresh : Bool) (s : State) : (loadConfig fresh none s).raised .nvFault = true := by
  have h := raised_raise .nvFault (takeConfig fresh .default s)
  simpa [loadConfig, State.raised] using h

theorem loadConfig_none_mem (fresh : Bool) (s : State) : Kind.config ∈ (loadConfig fresh none s).nvs.queue := by
  simpa [loadConfig] using requestWrite_mem .config (raise .nvFault (takeConfig fresh .default s))

theorem loadConfig_none_cfg (fresh : Bool) (s : State) : (loadConfig fresh none s).cfg = .default := by
  simp [loadConfig, takeConfig_cfg]

/-! ### The METROLOGY slots -/

section
variable {s : State} {fresh g0 good : Bool} {n d : Nat}

/-- The state in which the last read has been taken, before APPLY. -/
def State.allRead (s : State) (g0 good : Bool) (d : Nat) : State :=
  loadMetrology (newerSlot (slotFound g0 s.nvs.slot0) (slotFound good s.nvs.slot1))
    (raiseIf (!good) .nvFault (s.expireAt d))

theorem readAttempt_m1 (hload : s.nvs.load = .reading fresh .m1 n g0 d)
    (h : (good = true ∧ s.nvs.slot1 ≠ none) ∨ (good = false ∧ n = 4)) :
    readAttempt good s = endLoad (s.allRead g0 good d) := by
  rcases h with ⟨rfl, hslot⟩ | ⟨rfl, hn⟩
  · exact readAttempt_good hload (by simpa [blockHolds] using Option.isSome_iff_ne_none.mpr hslot)
  · exact readAttempt_bad hload hn

section
variable (chosen : Option (SlotNo × Stamped)) (s : State)

theorem loadMetrology_night_restart : (loadMetrology chosen s).psq.night = s.psq.night ∧
    (loadMetrology chosen s).psq.restart = s.psq.restart ∧ (loadMetrology chosen s).psq.mode = s.psq.mode := by
  cases chosen <;> simp [loadMetrology]

theorem loadMetrology_none_sideState (sd : Side) : (loadMetrology none s).sideState sd = .closed .nvFault := by
  cases sd <;>
    simp [loadMetrology, showFoundBoth, showFound, State.sideState, State.side, Found.reason, PerSide.get, PerSide.set,
      State.withSideState, State.withSide]

theorem loadMetrology_none_sideOpen (sd : Side) : (loadMetrology none s).cfg.sideOpen.get sd = false := by
  cases sd <;> simp [loadMetrology, clearSideOpen_cfg, PerSide.get, PerSide.set]

/-- A side that is not closed by the loss of both slots keeps its state. -/
theorem loadMetrology_unauthorized (h : s.Unauthorized) : (loadMetrology chosen s).Unauthorized := by
  cases chosen with
  | none =>
    intro sd a hstate
    rw [loadMetrology_none_sideState] at hstate
    cases hstate
  | some slot => exact h

theorem clearSideOpen_nvs (sd : Side) : (clearSideOpen sd s).nvs =
    { s.nvs with queue := (clearSideOpen sd s).nvs.queue } := by
  rcases clearSideOpen_cases sd s with ⟨-, h⟩ | ⟨-, h⟩ <;> rw [h]
  rfl

theorem loadMetrology_none_nvs : (loadMetrology none s).nvs = { s.nvs with
    current := none
    condition := .lost
    queue := (loadMetrology none s).nvs.queue } := by
  simp only [loadMetrology, showFoundBoth_frame]
  rw [clearSideOpen_nvs, clearSideOpen_nvs]
  simp

end

/-- The channels are set and the reads are over. -/
def State.readsOver (u : State) : State :=
  { u with
    mci := u.mci.mapAll fun _ => Channel.loaded
    nvs := { u.nvs with load := .none } }

theorem endLoad_eq (u : State) : endLoad u = enterApply u.readsOver := rfl

theorem endLoad_nvs (u : State) : (endLoad u).nvs = { u.nvs with
    load := .none
    queue := (endLoad u).nvs.queue } := by
  rw [endLoad_eq, (enterApply_applied _).1, applyScheduled_nvs]
  rfl

theorem endLoad_sides {u : State} (h : u.Unauthorized) : (endLoad u).sides = u.sides := by
  rw [endLoad_eq, (enterApply_applied _).2.2.2]
  exact applyScheduled_sides_of_unauthorized h

theorem endLoad_keeps_raised {u : State} {e : Event} (h : u.raised e = true) : (endLoad u).raised e = true := by
  rw [endLoad_eq, State.raised, (enterApply_applied _).2.2.1]
  exact applyScheduled_keeps_raised h

theorem endLoad_of_not_due {u : State} (h : u.ptu.pending = false ∨ u.ptu.staged = none) :
    (endLoad u).ptu = u.ptu := by
  rw [endLoad_eq, (enterApply_applied _).2.1, applyScheduled_of_not_due (s := u.readsOver) h]
  rfl

/-- A table that was scheduled is committed at the end of LOAD. -/
theorem endLoad_of_due {u : State} {t : PriceTable} (hpending : u.ptu.pending = true)
    (hstaged : u.ptu.staged = some t) :
    (endLoad u).ptu =
      ⟨t, if t = u.ptu.active then u.ptu.generation else generationStep u.ptu.generation, none, false⟩ ∧
    (t ≠ u.ptu.active → (endLoad u).raised .priceApplied = true) ∧ Kind.prices ∈ (endLoad u).nvs.queue := by
  obtain ⟨hnvs, hptu, hsli, -⟩ := enterApply_applied u.readsOver
  have hdue : applyScheduled u.readsOver = commitStaged t u.readsOver := applyScheduled_of_due hpending hstaged
  refine ⟨?ptu, ?raised, ?queued⟩
  case ptu =>
    rw [endLoad_eq, hptu, hdue]
    exact commitStaged_ptu
  case raised =>
    intro hne
    rw [endLoad_eq, State.raised, hsli, hdue]
    exact commitStaged_raised hne
  case queued =>
    rw [endLoad_eq, hnvs, hdue]
    exact commitStaged_mem_prices

theorem endLoad_psq (u : State) : (endLoad u).psq = { u.psq with
    mode := .poweringUp (if u.lines.warning then .apply else .supplies .a)
    stageTimer := if u.lines.warning then none else some (u.now + 200)
    displayDemand := u.psq.displayDemand || !u.lines.warning } :=
  enterApply_psq _

theorem endLoad_channel (u : State) (m : Meter) : (endLoad u).channel m =
    { u.channel m with reference := none, cyclePos := 0, stray := 0, strayTold := false } := by
  simp [endLoad_eq, State.readsOver, State.channel, Channel.loaded, Channel.strayReset]

theorem exec_readAttempt_m1 (hpowered : s.powered = true) (hnight : s.psq.night = none)
    (hrestart : s.psq.restart = .none) (hload : s.nvs.load = .reading fresh .m1 n g0 d)
    (h : (good = true ∧ s.nvs.slot1 ≠ none) ∨ (good = false ∧ n = 4)) :
    exec (.readAttempt good) s = .next (beginWrite (endLoad (s.allRead g0 good d))) := by
  have hevent : exec (.readAttempt good) s = .next (finish (readAttempt good s)) := by
    simp [exec, execReadAttempt, event, hpowered]
  obtain ⟨hnight', hrestart', -⟩ := loadMetrology_night_restart
    (newerSlot (slotFound g0 s.nvs.slot0) (slotFound good s.nvs.slot1)) (raiseIf (!good) .nvFault (s.expireAt d))
  rw [hevent, readAttempt_m1 hload h, finish_of_no_drain] <;> rw [endLoad_psq]
  · exact hnight'.trans (by simpa [State.expireAt] using hnight)
  · have hkept : (s.allRead g0 good d).psq.restart = .none :=
      hrestart'.trans (by simpa [State.expireAt] using hrestart)
    simp [hkept]

end

end Sys2Proof.Machine
end


section

/-! ## The four blocks of LOAD (O57) -/

namespace Sys2Proof.Machine

open Sys2Proof

/-! ### The newer of two slots -/

theorem eq_nextSeq_iff {a b : Nat} (ha : a ≤ 4294967295) (hb : b ≤ 4294967295) :
    a = nextSeq b ↔ a = b + 1 ∨ (a = 1 ∧ b = 4294967295) := by
  unfold nextSeq
  split <;> omega

theorem newerSlot_both {x y : Stamped} (hx : x.stamp ≤ 4294967295) (hy : y.stamp ≤ 4294967295) :
    newerSlot (some x) (some y) =
      (if x.stamp = y.stamp then some (.m0, x)
      else if x.stamp = y.stamp + 1 ∨ (x.stamp = 1 ∧ y.stamp = 4294967295) then some (.m0, x)
      else if y.stamp = x.stamp + 1 ∨ (y.stamp = 1 ∧ x.stamp = 4294967295) then some (.m1, y)
      else if y.stamp < x.stamp then some (.m0, x)
      else some (.m1, y)) := by
  simp only [newerSlot, eq_nextSeq_iff hx hy, eq_nextSeq_iff hy hx]

/-! ### What the last read leaves -/

section
variable {s : State} {g0 good : Bool} {d : Nat}

theorem allRead_of_some {k : SlotNo} {x : Stamped}
    (h : newerSlot (slotFound g0 s.nvs.slot0) (slotFound good s.nvs.slot1) = some (k, x)) :
    s.allRead g0 good d = loadMetrology (some (k, x)) (raiseIf (!good) .nvFault (s.expireAt d)) := by
  rw [State.allRead, h]

theorem allRead_of_none (h : newerSlot (slotFound g0 s.nvs.slot0) (slotFound good s.nvs.slot1) = none) :
    s.allRead g0 good d = loadMetrology none (raiseIf (!good) .nvFault (s.expireAt d)) := by
  rw [State.allRead, h]

theorem allRead_frame : (s.allRead g0 good d).ptu = s.ptu ∧ (s.allRead g0 good d).lines = s.lines ∧
    (s.allRead g0 good d).now = max s.now d ∧ (s.allRead g0 good d).mci = s.mci := by
  simp [State.allRead, State.expireAt]

theorem allRead_unauthorized (h : s.Unauthorized) : (s.allRead g0 good d).Unauthorized :=
  loadMetrology_unauthorized _ _ (by
    simpa [State.Unauthorized, State.sideState, State.side, State.expireAt] using h)

theorem allRead_raised (h : good = false) : (s.allRead g0 good d).raised .nvFault = true := by
  subst h
  have hraised : (raiseIf (!false) .nvFault (s.expireAt d)).raised .nvFault = true := raised_raise _ _
  simpa [State.allRead, State.raised] using hraised

variable {k : SlotNo} {x : Stamped}
  (h : newerSlot (slotFound g0 s.nvs.slot0) (slotFound good s.nvs.slot1) = some (k, x))
include h

/-- A good slot is current and its content is taken. -/
theorem allRead_some_store : (s.allRead g0 good d).nvs = { s.nvs with
    current := some (k, x.stamp), condition := .clear } ∧ (s.allRead g0 good d).sru = x.content ∧
    (∀ sd, (s.allRead g0 good d).stack.get sd = rebuiltStack x.content.journal sd) := by
  rw [allRead_of_some h]
  refine ⟨by simp [loadMetrology, State.expireAt], by simp [loadMetrology, takeMetrology], fun sd => ?_⟩
  cases sd <;> simp [loadMetrology, takeMetrology, PerSide.get]

theorem allRead_some_kept : (s.allRead g0 good d).psq = s.psq ∧ (s.allRead g0 good d).cfg = s.cfg ∧
    (s.allRead g0 good d).sides = s.sides := by
  rw [allRead_of_some h]
  simp [loadMetrology, State.expireAt]

end

section
variable {s : State} {g0 good : Bool} {d : Nat}
  (h : newerSlot (slotFound g0 s.nvs.slot0) (slotFound good s.nvs.slot1) = none)
include h

/-- Without a good slot the values of a lost store stand. -/
theorem allRead_none_store : (s.allRead g0 good d).nvs.current = none ∧
    (s.allRead g0 good d).nvs.condition = .lost ∧ (s.allRead g0 good d).sru = .lost ∧
    (s.allRead g0 good d).stack = ⟨[], []⟩ := by
  rw [allRead_of_none h, loadMetrology_none_nvs]
  refine ⟨rfl, rfl, ?_, ?_⟩ <;> simp [loadMetrology, takeMetrology]
  exact ⟨rfl, rfl⟩

theorem allRead_none_sides (sd : Side) : (s.allRead g0 good d).sideState sd = .closed .nvFault ∧
    (s.allRead g0 good d).cfg.sideOpen.get sd = false := by
  rw [allRead_of_none h]
  exact ⟨loadMetrology_none_sideState _ sd, loadMetrology_none_sideOpen _ sd⟩

end

section
variable {s : State} {g0 good : Bool} {d : Nat} (hgen : s.ptu.generation ≤ 65535)
include hgen

theorem generationStep_eq : generationStep s.ptu.generation =
    if s.ptu.generation = 65535 then 1 else s.ptu.generation + 1 := by
  unfold generationStep
  split <;> split <;> omega

/-- A scheduled table at the end of LOAD: it is active, and a PRICES write waits or has begun. -/
theorem endLoad_allRead_of_due {t : PriceTable} (hpending : s.ptu.pending = true) (hstaged : s.ptu.staged = some t) :
    (endLoad (s.allRead g0 good d)).ptu = ⟨t, if t = s.ptu.active then s.ptu.generation
      else if s.ptu.generation = 65535 then 1 else s.ptu.generation + 1, none, false⟩ ∧
    (t ≠ s.ptu.active → (endLoad (s.allRead g0 good d)).raised .priceApplied = true) ∧
    Kind.prices ∈ (endLoad (s.allRead g0 good d)).nvs.queue := by
  obtain ⟨hptu, -⟩ := allRead_frame (s := s) (g0 := g0) (good := good) (d := d)
  have hdue := endLoad_of_due (u := s.allRead g0 good d) (t := t) (by rwa [hptu]) (by rwa [hptu])
  rwa [hptu, generationStep_eq hgen] at hdue

end

/-- The reads are over; what they found current and the condition stand. -/
theorem endLoad_store (u : State) : (endLoad u).nvs.load = .none ∧ (endLoad u).nvs.current = u.nvs.current ∧
    (endLoad u).nvs.condition = u.nvs.condition := by
  rw [endLoad_nvs]
  exact ⟨rfl, rfl, rfl⟩

@[simp] theorem beginWrite_store (s : State) : (beginWrite s).nvs.load = s.nvs.load ∧
    (beginWrite s).nvs.current = s.nvs.current ∧ (beginWrite s).nvs.condition = s.nvs.condition := by
  rcases beginWrite_cases s with ⟨h, -⟩ | ⟨k, rest, -, -, -, h⟩ <;> rw [h] <;> exact ⟨rfl, rfl, rfl⟩

/-! ### What CONFIG leaves on the site line -/

section
variable {s : State} {fresh : Bool} {c : Cfg}

theorem takeConfig_line_of_idle (h : ∀ r more, s.sli.tx ≠ .sending r more) :
    (takeConfig fresh c s).sli.line = ⟨c.address, c.group, c.speed⟩ ∧
    (takeConfig fresh c s).sli.rx = if c.speed = s.sli.line.speed then s.sli.rx else .waitQuiet := by
  have hsend : (s.withCfg c).sli.tx.isSending = false := tx_isSending_eq_false h
  rw [takeConfig_sli, syncLine_sli_of_not_sending _ hsend]
  exact ⟨rfl, rfl⟩

theorem takeConfig_line_of_sending {r : List Byte} {more : Option (List Byte)} (h : s.sli.tx = .sending r more) :
    (takeConfig fresh c s).sli.line = s.sli.line ∧ (takeConfig fresh c s).sli.rx = s.sli.rx := by
  have hsend : (s.withCfg c).sli.tx.isSending = true := by
    rw [State.withCfg, h]
    rfl
  rw [takeConfig_sli, syncLine_of_sending _ hsend]
  exact ⟨rfl, rfl⟩

theorem takeConfig_events : (takeConfig fresh c s).sli.events = s.sli.events := by
  rw [takeConfig_sli]
  exact syncLine_events _

end

/-- Settles O57, attempt by attempt; the last read over `allRead`, which no side with an authorization reaches. -/
theorem loadReadsTheFourBlocks : Obligations.LoadReadsTheFourBlocks := by
  refine ⟨?_, fun x y _ hx _ hy => ⟨rfl, rfl, rfl, newerSlot_both hx hy⟩⟩
  intro s fresh g0 n d hpowered hmode hnight hrestart hjob
  refine ⟨fun b => exec_readAttempt_again hpowered hnight hrestart, ?config, ?configBad, ?prices, ?pricesBad,
    fun x => exec_readAttempt_m0 hpowered hnight hrestart, exec_readAttempt_m0_bad hpowered hnight hrestart, ?last⟩
  case config =>
    intro c hload hblock
    refine ⟨_, exec_readAttempt_config hpowered hnight hrestart hload hblock, ?cfg, ?idle, ?sending, ?queue, ?load,
      ?events⟩
    case cfg => simp [takeConfig_cfg]
    case idle =>
      intro htx
      exact takeConfig_line_of_idle (s := s.expireAt d) htx
    case sending =>
      intro r more htx
      exact takeConfig_line_of_sending (s := s.expireAt d) htx
    case queue => simp [readNext, State.expireAt]
    case load => simp [readNext, State.expireAt, readTime]
    case events => simpa using takeConfig_events (s := s.expireAt d)
  case configBad =>
    intro hload
    refine ⟨_, exec_readAttempt_config_bad hpowered hnight hrestart hload, ?_, ?_, ?_, ?_, ?_⟩
    · simp [loadConfig_none_cfg]
    · simpa [State.raised] using loadConfig_none_raised fresh (s.expireAt d)
    · simpa [readNext] using loadConfig_none_mem fresh (s.expireAt d)
    · intro sd
      simpa [State.sideState, State.side] using loadConfig_none_sideState fresh (s.expireAt d) sd
    · simp [readNext, State.expireAt, readTime]
  case prices =>
    intro p hload hblock
    refine ⟨_, exec_readAttempt_prices hpowered hnight hrestart hload hblock, ?_, ?_, ?_, ?_⟩
    · simp [State.withPtu]
    · simp [readNext, State.expireAt]
    · simp [readNext, State.expireAt, readTime]
    · simp [State.expireAt]
  case pricesBad =>
    intro hload
    refine ⟨_, exec_readAttempt_prices_bad hpowered hnight hrestart hload, ?_, ?_, ?_, ?_, ?_⟩
    · simp [loadPrices, State.withPtu, Prices.lost]
    · have hraised := raised_raise .nvFault ((s.expireAt d).withPtu .lost)
      simpa [loadPrices, State.raised] using hraised
    · simpa [readNext, loadPrices] using requestWrite_mem .prices (raise .nvFault ((s.expireAt d).withPtu .lost))
    · simp [readNext, State.expireAt, readTime]
    · simp [State.expireAt]
  case last =>
    intro good hload hgen hsales hread
    have hopen : s.Unauthorized := unauthorized_of_salesOk hsales (by simp [hmode])
    have hkeep : (s.allRead g0 good d).Unauthorized := allRead_unauthorized hopen
    obtain ⟨hptu, hlines, hnow, hmci⟩ := allRead_frame (s := s) (g0 := g0) (good := good) (d := d)
    obtain ⟨hloadOver, hcurrentKept, hconditionKept⟩ := endLoad_store (s.allRead g0 good d)
    refine ⟨_, exec_readAttempt_m1 hpowered hnight hrestart hload hread, ?load, ?fault, ?channel, ?found, ?none,
      ?kept, ?due, ?warned, ?supplies⟩
    case load =>
      simpa using hloadOver
    case fault =>
      intro hbad
      simpa [State.raised] using endLoad_keeps_raised (allRead_raised (g0 := g0) (d := d) hbad)
    case channel =>
      intro m
      have h := endLoad_channel (s.allRead g0 good d) m
      simpa [State.channel, hmci] using h
    case found =>
      intro k x hchosen
      obtain ⟨hnvs, hsru, hstack⟩ := allRead_some_store (d := d) hchosen
      obtain ⟨hpsq, hcfg, hsides⟩ := allRead_some_kept (d := d) hchosen
      refine ⟨?_, ?_, ?_, ?_, ?_, ?_, ?_⟩
      · simpa [hnvs] using hcurrentKept
      · simpa [hnvs] using hconditionKept
      · simpa using hsru
      · simpa using hstack
      · simp [endLoad_psq, hpsq]
      · simpa using hcfg
      · simp [endLoad_sides hkeep, hsides]
    case none =>
      intro hchosen
      obtain ⟨hcurrent, hcondition, hsru, hstack⟩ := allRead_none_store (d := d) hchosen
      refine ⟨?_, ?_, ?_, ?_, fun sd => ?_⟩
      · simpa [hcurrent] using hcurrentKept
      · simpa [hcondition] using hconditionKept
      · simpa using hsru
      · simpa using hstack
      · simpa [State.sideState, State.side, endLoad_sides hkeep] using allRead_none_sides (d := d) hchosen sd
    case kept =>
      intro hnotDue
      simpa [hptu] using endLoad_of_not_due (u := s.allRead g0 good d) (by rwa [hptu])
    case due =>
      intro table hpending hstaged
      obtain ⟨htable, hraised, hqueued⟩ :=
        endLoad_allRead_of_due (g0 := g0) (good := good) (d := d) hgen hpending hstaged
      refine ⟨by simpa using htable, fun hne => by simpa [State.raised] using hraised hne, ?_⟩
      simpa [takeContent] using beginWrite_queued_or_begun hqueued
    case warned =>
      intro hwarning
      simp [endLoad_psq, hlines, hwarning]
    case supplies =>
      intro hwarning
      simp [endLoad_psq, hlines, hnow, hwarning]

end Sys2Proof.Machine
end


section

/-! ## The receiver and its error counter (O41) -/

namespace Sys2Proof.Machine

open Sys2Proof

/-- An event that leaves the store and the drains alone has nothing to follow it. -/
theorem event_settled_to {f : State → State} {s t : State} (hs : s.Live) (h : f s = t) (hnvs : t.nvs = s.nvs)
    (hnight : t.psq.night = s.psq.night) (hrestart : t.psq.restart = s.psq.restart) : event f s = .next t := by
  rw [event_finish_to hs h, finish_eq_of_eq hs.2 hnvs hnight hrestart]

/-! ### One error and one good frame -/

section
variable {s : State}

theorem setOverflow_of_set (h : s.sli.overflow = true) : setOverflow s = s := by
  rw [setOverflow, if_pos h]

theorem setOverflow_sli_of_clear (h : s.sli.overflow = false) : (setOverflow s).sli = { s.sli with
    overflow := true, events := s.sli.events ||| Event.linkDegraded.bit } := by
  simp only [setOverflow]
  rw [if_neg (by simp [h])]
  split <;> rfl

theorem setOverflow_psq_of_clear (h : s.sli.overflow = false) : (setOverflow s).psq =
    if s.psq.mode = .night then { s.psq with overflowMark := true } else s.psq := by
  simp only [setOverflow, h]
  by_cases hmode : s.psq.mode = .night <;> simp [hmode]

theorem countError_of_below (h : s.sli.errors < s.cfg.thresholds.site) : countError s = s.withSli { s.sli with
    errors := s.sli.errors + 1, frameErrors := (s.sli.frameErrors + 1) % 4294967296 } := by
  rcases countError_cases s with ⟨-, eq⟩ | ⟨hfull, -⟩
  · exact eq
  · omega

theorem countError_of_full (h : s.cfg.thresholds.site ≤ s.sli.errors) :
    countError s = setOverflow (s.withSli { s.sli with frameErrors := (s.sli.frameErrors + 1) % 4294967296 }) := by
  rcases countError_cases s with ⟨hlow, -⟩ | ⟨-, eq⟩
  · omega
  · exact eq

variable (s)

/-- Of the sequencer, an error can set the overflow mark alone. -/
theorem setOverflow_psq : (setOverflow s).psq = { s.psq with overflowMark := (setOverflow s).psq.overflowMark } := by
  cases h : s.sli.overflow with
  | true => rw [setOverflow_of_set h]
  | false =>
    rw [setOverflow_psq_of_clear h]
    split <;> rfl

theorem countError_psq : (countError s).psq = { s.psq with overflowMark := (countError s).psq.overflowMark } := by
  rcases countError_cases s with ⟨-, h⟩ | ⟨-, h⟩ <;> rw [h]
  · rfl
  · rw [setOverflow_psq]
    rfl

theorem countError_night : (countError s).psq.night = s.psq.night := by rw [countError_psq]

theorem countError_restart : (countError s).psq.restart = s.psq.restart := by rw [countError_psq]

end

/-! ### A character -/

section
variable {s : State}

theorem siteChar_of_idle (htx : s.sli.tx = .idle) (c : SiteChar) : siteChar c s = receive c s := by
  simp only [siteChar, htx]

theorem siteChar_of_sending {r : List Byte} {more : Option (List Byte)} (htx : s.sli.tx = .sending r more)
    (c : SiteChar) : siteChar c s = s := by
  simp only [siteChar, htx]

/-- A reply is to come whose first character has not been sent. -/
def State.ReplyWaits (s : State) : Prop :=
  (∃ r more, s.sli.tx = .waiting r more) ∨ (∃ second, s.sli.tx = .gap second)

theorem siteChar_of_replyWaits (h : s.ReplyWaits) (c : SiteChar) :
    siteChar c s = receive c (finish (abandonReply s)) := by
  rcases h with ⟨r, more, htx⟩ | ⟨second, htx⟩ <;> simp only [siteChar, htx]

theorem abandoned_tx (h : s.ReplyWaits) : (finish (abandonReply s)).sli.tx = .idle := by
  refine finish_tx_idle (abandonReply_tx fun r more htx => ?_)
  rcases h with ⟨_, _, hw⟩ | ⟨_, hw⟩ <;> rw [hw] at htx <;> cases htx

/-- A character abandons the reply that waits and is then taken. -/
theorem exec_siteCharacter_of_replyWaits (hpowered : s.powered = true) (h : s.ReplyWaits) (c : SiteChar) :
    exec (.siteCharacter c) s = exec (.siteCharacter c) (finish (abandonReply s)) := by
  simp [exec, execSiteCharacter, event, hpowered, siteChar_of_replyWaits h, siteChar_of_idle (abandoned_tx h)]

end

/-! ### The receiver's states -/

section
variable {s : State} {got : List Byte}

theorem receive_waitQuiet (hrx : s.sli.rx = .waitQuiet) (c : SiteChar) : receive c s = s := by
  simp only [receive, hrx]

theorem receive_hunt_start (hrx : s.sli.rx = .hunt) : receive (.byte 0xD5) s = frameStart s := by
  simp only [receive, hrx]
  exact if_pos rfl

theorem receive_hunt_other (hrx : s.sli.rx = .hunt) {b : Byte} (hb : b ≠ 0xD5) :
    receive (.byte b) s = withReceiver .waitQuiet s := by
  simp only [receive, hrx]
  exact if_neg hb

theorem receive_hunt_bad (hrx : s.sli.rx = .hunt) {c : SiteChar} (hc : c = .parityError ∨ c = .framingError) :
    receive c s = abandonFrame s := by
  rcases hc with rfl | rfl <;> simp only [receive, hrx]

theorem receive_frame_byte (hrx : s.sli.rx = .frame got) (b : Byte) :
    receive (.byte b) s = frameByte (got ++ [b]) s := by
  simp only [receive, hrx]

theorem receive_frame_bad (hrx : s.sli.rx = .frame got) {c : SiteChar} (hc : c = .parityError ∨ c = .framingError) :
    receive c s = abandonFrame s := by
  rcases hc with rfl | rfl <;> simp only [receive, hrx]

theorem frameStart_of_not_night (hmode : s.psq.mode ≠ .night) : frameStart s = withReceiver (.frame []) s := by
  simp [frameStart, withReceiver, hmode]

/-- The three bytes of the header do not end a frame, but for a length above 120. -/
theorem collect_header {h0 h1 h2 : Byte} (hlen : h2.toNat ≤ 120) : collect [h0, h1, h2] = .more := by
  have hfits : ¬ maxSitePayload < h2.toNat := Nat.not_lt.mpr hlen
  simp [collect, hfits]

theorem collect_bad_length {h0 h1 h2 : Byte} (hlen : 120 < h2.toNat) (rest : List Byte) :
    collect (h0 :: h1 :: h2 :: rest) = .badLength :=
  if_pos hlen

theorem collect_short {l : List Byte} (hlen : l.length < 3) : collect l = .more := by
  match l with
  | [] => rfl
  | [_] => rfl
  | [_, _] => rfl
  | _ :: _ :: _ :: _ =>
    simp only [List.length_cons] at hlen
    omega

theorem frameByte_more (h : collect got = .more) : frameByte got s = withReceiver (.frame got) s := by
  simp only [frameByte, h]

theorem frameByte_badLength (h : collect got = .badLength) : frameByte got s = abandonFrame s := by
  simp only [frameByte, h]

end

/-! ### The events of the receiver -/

section
variable {s : State} (hs : s.Live) (htx : s.sli.tx = .idle)
include hs htx

theorem exec_siteCharacter_to {c : SiteChar} {t : State} (h : receive c s = t) (hnvs : t.nvs = s.nvs)
    (hnight : t.psq.night = s.psq.night) (hrestart : t.psq.restart = s.psq.restart) :
    exec (.siteCharacter c) s = .next t :=
  event_settled_to hs ((siteChar_of_idle htx c).trans h) hnvs hnight hrestart

theorem exec_siteCharacter_receiver {c : SiteChar} {r : Receiver} (h : receive c s = withReceiver r s) :
    exec (.siteCharacter c) s = .next (s.withSli { s.sli with rx := r }) :=
  exec_siteCharacter_to hs htx h rfl rfl rfl

theorem exec_siteCharacter_error {c : SiteChar} (h : receive c s = abandonFrame s) :
    exec (.siteCharacter c) s = .next (countError (s.withSli { s.sli with rx := .waitQuiet })) :=
  exec_siteCharacter_to hs htx h (by simp) (countError_night _) (countError_restart _)

end

section
variable {s : State} (hs : s.Live)
include hs

theorem exec_lineQuiet_kept (hrx : s.sli.rx ≠ .waitQuiet ∨ s.sli.tx.isSending = true) :
    exec .lineQuiet s = .next s := by
  refine event_unchanged hs ?_
  unfold quiet
  split
  next hwait => exact if_pos (hrx.resolve_left fun hne => hne hwait)
  next => rfl

theorem exec_frameGap_kept (hrx : (∀ got, s.sli.rx ≠ .frame got) ∨ s.sli.tx.isSending = true) :
    exec .frameGap s = .next s := by
  refine event_unchanged hs ?_
  unfold gapInFrame
  split
  next got hframe => exact if_pos (hrx.resolve_left fun hne => hne got hframe)
  next => rfl

theorem exec_lineQuiet_hunt (htx : s.sli.tx = .idle) (hrx : s.sli.rx = .waitQuiet) :
    exec .lineQuiet s = .next (s.withSli { s.sli with rx := .hunt }) := by
  refine event_settled_to (t := withReceiver .hunt s) hs ?_ rfl rfl rfl
  simp [quiet, hrx, htx, Transmit.isSending]

theorem exec_frameGap_error (htx : s.sli.tx = .idle) {got : List Byte} (hrx : s.sli.rx = .frame got) :
    exec .frameGap s = .next (countError (s.withSli { s.sli with rx := .waitQuiet })) := by
  refine event_settled_to hs (t := abandonFrame s) ?_ (by simp [abandonFrame, withReceiver])
    (countError_night _) (countError_restart _)
  simp [gapInFrame, hrx, htx, Transmit.isSending]

end

/-- Settles O41, by the receiver's state and what `collect` makes of the bytes so far. -/
theorem theReceiverCountsEveryError : Obligations.TheReceiverCountsEveryError := by
  refine ⟨?reply, ?receiver, ?counter⟩
  case reply =>
    intro s c hpowered
    refine ⟨fun hwaits => ⟨abandoned_tx hwaits, exec_siteCharacter_of_replyWaits hpowered hwaits c⟩, ?_⟩
    intro r more htx hsettled
    have hsending : s.sli.tx.isSending = true := by rw [htx]; rfl
    exact ⟨event_unchanged ⟨hpowered, hsettled⟩ (siteChar_of_sending htx c),
      exec_lineQuiet_kept ⟨hpowered, hsettled⟩ (.inr hsending),
      exec_frameGap_kept ⟨hpowered, hsettled⟩ (.inr hsending)⟩
  case receiver =>
    intro s hs htx
    refine ⟨fun hrx => ?wait, fun hrx => ?hunt, fun got hrx => ?frame⟩
    case wait =>
      exact ⟨fun c => exec_siteCharacter_to hs htx (receive_waitQuiet hrx c) rfl rfl rfl,
        exec_lineQuiet_hunt hs htx hrx, exec_frameGap_kept hs (.inl (by simp [hrx]))⟩
    case hunt =>
      refine ⟨fun hmode => ?_, fun b hb => exec_siteCharacter_receiver hs htx (receive_hunt_other hrx hb),
        exec_siteCharacter_error hs htx (receive_hunt_bad hrx (.inl rfl)),
        exec_siteCharacter_error hs htx (receive_hunt_bad hrx (.inr rfl)),
        exec_lineQuiet_kept hs (.inl (by simp [hrx])), exec_frameGap_kept hs (.inl (by simp [hrx]))⟩
      exact exec_siteCharacter_receiver hs htx ((receive_hunt_start hrx).trans (frameStart_of_not_night hmode))
    case frame =>
      refine ⟨fun hlen b => ?_, fun hlen b hb => ?_, fun hlen b hb => ?_,
        exec_siteCharacter_error hs htx (receive_frame_bad hrx (.inl rfl)),
        exec_siteCharacter_error hs htx (receive_frame_bad hrx (.inr rfl)),
        exec_lineQuiet_kept hs (.inl (by simp [hrx])), exec_frameGap_error hs htx hrx⟩
      · have hmore : collect (got ++ [b]) = .more := collect_short (by simp; omega)
        exact exec_siteCharacter_receiver hs htx ((receive_frame_byte hrx b).trans (frameByte_more hmore))
      · obtain ⟨x, y, rfl⟩ := List.length_eq_two.mp hlen
        exact exec_siteCharacter_receiver hs htx ((receive_frame_byte hrx b).trans (frameByte_more (collect_header hb)))
      · obtain ⟨x, y, rfl⟩ := List.length_eq_two.mp hlen
        exact exec_siteCharacter_error hs htx
          ((receive_frame_byte hrx b).trans (frameByte_badLength (collect_bad_length hb [])))
  case counter =>
    intro s
    refine ⟨countError_of_below, fun hfull hset => ?_, fun hfull hclear => ?_, rfl⟩
    · exact (countError_of_full hfull).trans (setOverflow_of_set hset)
    · rw [countError_of_full hfull]
      exact ⟨setOverflow_sli_of_clear hclear, setOverflow_psq_of_clear hclear⟩

end Sys2Proof.Machine
end


section

/-! ## A reply begins and ends, and what waits for its end (O42) -/

namespace Sys2Proof.Machine

open Sys2Proof

/-! ### The line after a reply -/

/-- The site line when a reply is over: the configured settings, and WAIT_QUIET where they or a SET_LINE ask for it. -/
def State.lineAfterReply (s : State) : Sli :=
  { s.sli with
    rx := if s.cfg.speed = s.sli.line.speed ∧ s.sli.quietAfter = false then s.sli.rx else .waitQuiet
    quietAfter := false
    line := ⟨s.cfg.address, s.cfg.group, s.cfg.speed⟩ }

section
variable {s : State}

theorem quietAfterReply_of_sending (h : s.sli.tx.isSending = true) : quietAfterReply s = s := by
  simp [quietAfterReply, h]

theorem quietAfterReply_of_clear (h : s.sli.quietAfter = false) : quietAfterReply s = s := by
  simp [quietAfterReply, h]

theorem quietAfterReply_of_set (h : s.sli.quietAfter = true) (htx : s.sli.tx.isSending = false) :
    quietAfterReply s = s.withSli { s.sli with quietAfter := false, rx := .waitQuiet } := by
  simp [quietAfterReply, h, htx]

theorem syncLine_of_not_sending (h : s.sli.tx.isSending = false) : syncLine s = s.withSli { s.sli with
    line := ⟨s.cfg.address, s.cfg.group, s.cfg.speed⟩
    rx := if s.cfg.speed = s.sli.line.speed then s.sli.rx else .waitQuiet } := by
  simp [syncLine, h]

theorem quietAfterReply_syncLine (h : s.sli.tx.isSending = false) :
    quietAfterReply (syncLine s) = s.withSli s.lineAfterReply := by
  rw [syncLine_of_not_sending h]
  cases hq : s.sli.quietAfter with
  | false =>
    rw [quietAfterReply_of_clear]
    · simp [State.lineAfterReply, hq]
    · exact hq
  | true =>
    rw [quietAfterReply_of_set]
    · simp [State.lineAfterReply, hq, State.withSli]
    · exact hq
    · exact h

theorem quietAfterReply_syncLine_of_sending (h : s.sli.tx.isSending = true) : quietAfterReply (syncLine s) = s := by
  rw [syncLine_of_sending s h, quietAfterReply_of_sending h]

/-! ### What waits for the end of a reply -/

theorem replyEnded_of_nothing (htx : s.sli.tx.isSending = false) (hnight : s.psq.night = none)
    (hrestart : s.psq.restart = .none) : replyEnded s = s.withSli s.lineAfterReply := by
  simp [replyEnded, quietAfterReply_syncLine htx, hnight, hrestart]

theorem replyEnded_of_night (htx : s.sli.tx.isSending = false) {q : NightRequest} (hnight : s.psq.night = some q)
    (hrestart : s.psq.restart = .none) : replyEnded s =
      (s.withSli s.lineAfterReply).withPsq { s.psq with night := some { q with draining := true } } := by
  simp [replyEnded, quietAfterReply_syncLine htx, hnight, hrestart]

theorem replyEnded_of_restart (htx : s.sli.tx.isSending = false) (hnight : s.psq.night = none)
    (hrestart : s.psq.restart = .replying) : replyEnded s = beginRestartDrain (s.withSli s.lineAfterReply) := by
  simp [replyEnded, quietAfterReply_syncLine htx, hnight, hrestart]

/-! ### The end of a drain whose store is idle -/

theorem finish_of_storeIdle (h : storeIdle s = true) : finish s = endDrain s := by
  have hwrite : beginWrite s = s := beginWrite_idle fun _ _ => ((storeIdle_iff s).1 h).2
  simp [finish, hwrite, h]

theorem storeIdle_congr {t : State} (h : t.nvs = s.nvs) : storeIdle t = storeIdle s := by
  rw [storeIdle, storeIdle, h]

theorem endDrain_of_night {q : NightRequest} (hrestart : s.psq.restart = .none) (hnight : s.psq.night = some q)
    (hdraining : q.draining = true) : endDrain s = enterNight q s := by
  simp [endDrain, State.restartDraining, hrestart, hnight, hdraining]

theorem endDrain_of_restart (hrestart : s.psq.restart = .draining) : endDrain s = beginSequence .restart true s := by
  simp [endDrain, State.restartDraining, hrestart]

theorem beginRestartDrain_restart (s : State) : (beginRestartDrain s).psq.restart = .draining := by
  simp [beginRestartDrain]

/-! ### NIGHT in the middle of a reply -/

theorem enterNight_of_sending (q : NightRequest) {r : List Byte} {more : Option (List Byte)}
    (htx : s.sli.tx = .sending r more) :
    (enterNight q s).sli.line = s.sli.line ∧ (enterNight q s).sli.tx = .sending r none := by
  refine ⟨?_, by rw [enterNight_tx, htx]; rfl⟩
  simp only [enterNight]
  rw [quietAfterReply_syncLine_of_sending]
  · simp [powerOffReaders_sli]
  · simp [powerOffReaders_sli, htx, Transmit.dropped, Transmit.isSending]

/-! ### The events of a reply -/

theorem abandonReply_of_waiting {r : List Byte} {more : Option (List Byte)} (htx : s.sli.tx = .waiting r more)
    (hnight : s.psq.night = none) (hrestart : s.psq.restart = .none) :
    abandonReply s = s.withSli { s.lineAfterReply with tx := .idle } := by
  simp only [abandonReply, htx]
  exact replyEnded_of_nothing rfl hnight hrestart

end

section
variable {s : State} (hs : s.Live)
include hs

theorem exec_replySend {r : List Byte} {more : Option (List Byte)} (htx : s.sli.tx = .waiting r more) :
    exec .replySend s = .next (s.withSli { s.sli with tx := .sending r more }) :=
  event_settled_to hs (by simp only [replySend, htx]) rfl rfl rfl

theorem exec_replySent_first {r second : List Byte} (htx : s.sli.tx = .sending r (some second)) :
    exec .replySent s = .next (s.withSli { s.sli with tx := .gap second, rx := .hunt }) :=
  event_settled_to hs (by simp only [replySent, htx]) rfl rfl rfl

theorem exec_totalsPart2 {second : List Byte} (htx : s.sli.tx = .gap second) :
    exec .totalsPart2 s = .next (s.withSli { s.sli with tx := .sending second none }) :=
  event_settled_to hs (by simp only [totalsSecond, htx]) rfl rfl rfl

end

/-! ### The end of a last frame -/

/-- The last frame of a reply has been sent; what waits for it is still to come. -/
def State.lastSent (s : State) : State := s.withSli { s.sli with tx := .idle, rx := .hunt }

section
variable {s : State} (hs : s.Live) {r : List Byte} (htx : s.sli.tx = .sending r none)

include htx in
theorem replySent_last : replySent s = replyEnded s.lastSent := by
  simp only [replySent, htx]
  rfl

include hs htx

theorem exec_replySent_plain (hnight : s.psq.night = none) (hrestart : s.psq.restart = .none) :
    exec .replySent s = .next (s.withSli s.lastSent.lineAfterReply) :=
  event_settled_to hs ((replySent_last htx).trans (replyEnded_of_nothing (s := s.lastSent) rfl hnight hrestart))
    rfl rfl rfl

theorem exec_replySent_night {q : NightRequest} (hnight : s.psq.night = some q) (hrestart : s.psq.restart = .none)
    (hidle : storeIdle s = true) : exec .replySent s = .next (enterNight { q with draining := true }
      ((s.withSli s.lastSent.lineAfterReply).withPsq { s.psq with night := some { q with draining := true } })) := by
  refine (event_finish_to hs ((replySent_last htx).trans
    (replyEnded_of_night (s := s.lastSent) rfl hnight hrestart))).trans (congrArg _ ?_)
  refine (finish_of_storeIdle ?_).trans (endDrain_of_night ?_ rfl rfl)
  · exact hidle
  · exact hrestart

theorem exec_replySent_restart (hnight : s.psq.night = none) (hrestart : s.psq.restart = .replying)
    (hidle : storeIdle s = true) : exec .replySent s =
      .next (beginSequence .restart true (beginRestartDrain (s.withSli s.lastSent.lineAfterReply))) := by
  refine (event_finish_to hs ((replySent_last htx).trans
    (replyEnded_of_restart (s := s.lastSent) rfl hnight hrestart))).trans (congrArg _ ?_)
  refine (finish_of_storeIdle ?_).trans (endDrain_of_restart (beginRestartDrain_restart _))
  exact (storeIdle_congr (by simp [State.lastSent])).trans hidle

end

/-- Settles O42, by what waits for the end of the reply: nothing, the night drain or the restart drain. -/
theorem repliesAreSentBeforeWhatWaits : Obligations.RepliesAreSentBeforeWhatWaits := by
  refine ⟨fun s q r more htx => enterNight_of_sending q htx,
    fun s r more htx hnight hrestart => abandonReply_of_waiting htx hnight hrestart, fun s hs => ?_⟩
  exact ⟨fun r more => exec_replySend hs, fun r second => exec_replySent_first hs, fun second => exec_totalsPart2 hs,
    fun r htx => ⟨exec_replySent_plain hs htx, fun q => exec_replySent_night hs htx,
      exec_replySent_restart hs htx⟩⟩

end Sys2Proof.Machine
end


section

/-! ## A request is read back from its payload (O3) -/

namespace Sys2Proof.Machine

open Sys2Proof

/-! ### One field among others -/

theorem be_length (n v : Nat) : (be n v).length = n := by
  induction n with
  | zero => rfl
  | succ n ih => simp [be, ih]

theorem byte1_eq_be (v : Nat) : byte1 v = be 1 v := by simp [byte1, be]

theorem foldl_natOf (l : List Byte) (start : Nat) :
    l.foldl (fun acc b => acc * 256 + b.toNat) start = start * 256 ^ l.length + natOf l := by
  induction l generalizing start with
  | nil => simp [natOf]
  | cons b l ih =>
    rw [natOf, List.foldl_cons, List.foldl_cons, ih, ih (0 * 256 + b.toNat), List.length_cons]
    ring

theorem natOf_cons (b : Byte) (l : List Byte) : natOf (b :: l) = b.toNat * 256 ^ l.length + natOf l := by
  simpa [natOf] using foldl_natOf l b.toNat

theorem natOf_be_mod (n v : Nat) : natOf (be n v) = v % 256 ^ n := by
  induction n with
  | zero => simp [be, natOf, Nat.mod_one]
  | succ n ih =>
    rw [be, natOf_cons, ih, be_length, BitVec.toNat_ofNat, Nat.pow_succ (n := 256), Nat.mod_mul]
    ring

theorem natOf_be {n v : Nat} (h : fits n v = true) : natOf (be n v) = v := by
  rw [natOf_be_mod, Nat.mod_eq_of_lt (by simpa [fits] using h)]

section
variable {n v off k : Nat} {p : List Byte} {b : Byte}

/-- A field is read where it stands. -/
theorem field_be_head (h : fits n v = true) : field (be n v ++ p) 0 n = v := by
  rw [field, List.drop_zero, List.take_left' (be_length n v), natOf_be h]

theorem field_be_last (h : fits n v = true) : field (be n v) 0 n = v := by
  simpa using field_be_head (p := []) h

/-- A field is read behind another one. -/
theorem field_be_skip (h : n ≤ off) : field (be n v ++ p) off k = field p (off - n) k := by
  rw [field, field, List.drop_append, be_length, List.drop_eq_nil_of_le (by simpa [be_length] using h), List.nil_append]

theorem field_cons_skip (h : 1 ≤ off) : field (b :: p) off k = field p (off - 1) k := by
  obtain ⟨off, rfl⟩ := Nat.exists_eq_add_of_le' h
  rfl

theorem byteAt_head : byteAt (b :: p) 0 = b := rfl

theorem byteAt_cons_skip (h : 1 ≤ off) : byteAt (b :: p) off = byteAt p (off - 1) := by
  obtain ⟨off, rfl⟩ := Nat.exists_eq_add_of_le' h
  rfl

theorem byteAt_be_skip (h : n ≤ off) : byteAt (be n v ++ p) off = byteAt p (off - n) := by
  have hlen : (be n v).length ≤ off := by rwa [be_length]
  rw [byteAt, List.getD_append_right _ _ _ _ hlen, be_length, byteAt]

end

/-! ### A two's complement field -/

theorem fits_toNat_16 (w : BitVec 16) : fits 2 w.toNat = true := by
  have := w.isLt
  simp [fits]
  omega

theorem toInt_ofInt_16 {v : Int} (h : fitsSigned16 v = true) : (BitVec.ofInt 16 v).toInt = v := by
  simp only [fitsSigned16, Bool.and_eq_true, decide_eq_true_eq] at h
  rw [BitVec.toInt_ofInt]
  exact Int.bmod_eq_of_le (by omega) (by omega)

theorem beSigned_length (v : Int) : (beSigned v).length = 2 := be_length 2 _

section
variable {n v off k : Nat} {x : Int} {p : List Byte} {b : Byte}

theorem signedField_head (h : fitsSigned16 x = true) : signedField (beSigned x ++ p) 0 = x := by
  rw [signedField, beSigned, field_be_head (fits_toNat_16 _), BitVec.ofNat_toNat, BitVec.setWidth_eq, toInt_ofInt_16 h]

theorem signedField_cons_skip (h : 1 ≤ off) : signedField (b :: p) off = signedField p (off - 1) := by
  rw [signedField, field_cons_skip h, signedField]

theorem signedField_be_skip (h : n ≤ off) : signedField (be n v ++ p) off = signedField p (off - n) := by
  rw [signedField, field_be_skip h, signedField]

theorem field_beSigned_skip (h : 2 ≤ off) : field (beSigned x ++ p) off k = field p (off - 2) k :=
  field_be_skip h

end

/-! ### The kinds -/

theorem kindOf_code {k : ReqKind} {n : Nat} (h : k.length = some n) : kindOf k.port k.code = some k := by
  cases k <;> simp [ReqKind.length] at h <;> rfl

theorem code_lt (k : ReqKind) : k.code < 256 := by
  cases k <;> simp [ReqKind.code]

/-- The fields of a request fill its payload to the length of its kind. -/
theorem fieldBytes_length {i : Instr} {k : ReqKind} {m : AddrMode} {n : Nat} (h : i.request? = some (k, m))
    (hn : k.length = some n) : i.fieldBytes.length + 1 = n := by
  cases i <;> simp only [Instr.request?, Option.some.injEq, Prod.mk.injEq, reduceCtorEq] at h
  all_goals
    obtain ⟨rfl, rfl⟩ := h
    simp only [ReqKind.length, Option.some.injEq, reduceCtorEq] at hn
  all_goals
    rw [← hn]
    simp [Instr.fieldBytes, timerPayload, wakePayload, beSigned_length, byte1_eq_be, be_length]

theorem requestPayload_of_length {k : ReqKind} {n : Nat} (i : Instr) (hn : k.length = some n) :
    requestPayload k i = BitVec.ofNat 8 k.code :: i.fieldBytes := by
  rw [requestPayload, hn]
  rfl

/-- Every field is read back from behind the code, where the fields before it end. -/
theorem requestOf_fieldBytes {i : Instr} {k : ReqKind} {m : AddrMode} {n : Nat} (h : i.request? = some (k, m))
    (hn : k.length = some n) (hwf : i.wellFormed = true) (code : Byte) : requestOf k m (code :: i.fieldBytes) = i := by
  cases i <;> simp only [Instr.request?, Option.some.injEq, Prod.mk.injEq, reduceCtorEq] at h
  all_goals
    obtain ⟨rfl, rfl⟩ := h
    simp only [ReqKind.length, reduceCtorEq] at hn
  all_goals
    simp only [Instr.wellFormed, TimerFields.wellFormed, WakeFields.wellFormed, Bool.and_eq_true] at hwf
    simp [requestOf, timerFieldsOf, wakeFieldsOf, Instr.fieldBytes, timerPayload, wakePayload, byte1_eq_be,
      field_cons_skip, field_be_skip, byteAt_cons_skip, byteAt_be_skip, byteAt_head, field_be_head, field_be_last,
      field_beSigned_skip, signedField_cons_skip, signedField_be_skip, signedField_head, hwf]

/-! ### What the port and the payload name -/

theorem port_eq_of_length {k : ReqKind} {n : Nat} (hn : k.length = some n) : k.port = 0 ∨ k.port = 3 := by
  cases k <;> simp [ReqKind.length] at hn <;> simp [ReqKind.port]

/-- On the ports of requests with a code, an empty payload names nothing. -/
theorem readKind_nil {port : Nat} (h : port = 0 ∨ port = 3) : readKind port [] = .empty := by
  rcases h with rfl | rfl <;> rfl

theorem readKind_known {port : Nat} {code : Byte} {rest : List Byte} {k : ReqKind} (h : port = 0 ∨ port = 3)
    (hk : kindOf port code.toNat = some k) : readKind port (code :: rest) = .kind k := by
  rcases h with rfl | rfl <;> simp only [readKind, hk]

theorem readKind_unknown {port : Nat} {code : Byte} {rest : List Byte} (h : port = 0 ∨ port = 3)
    (hk : kindOf port code.toNat = none) : readKind port (code :: rest) = .unknown code.toNat := by
  rcases h with rfl | rfl <;> simp only [readKind, hk]

theorem lengthRight_iff {k : ReqKind} {n : Nat} (hn : k.length = some n) (payload : List Byte) :
    lengthRight k payload = true ↔ payload.length = n := by
  simp [lengthRight, hn]

/-- What a payload is read as: its kind, of the right length, and the command itself. -/
structure ReadsAs (i : Instr) (k : ReqKind) (m : AddrMode) (payload : List Byte) : Prop where
  kind : readKind k.port payload = .kind k
  length : lengthRight k payload = true
  request : requestOf k m payload = i

theorem readsAs_of_length {i : Instr} {k : ReqKind} {m : AddrMode} {n : Nat} (h : i.request? = some (k, m))
    (hwf : i.wellFormed = true) (hn : k.length = some n) : ReadsAs i k m (requestPayload k i) := by
  rw [requestPayload_of_length i hn]
  refine ⟨readKind_known (port_eq_of_length hn) ?_, (lengthRight_iff hn _).2 (fieldBytes_length h hn),
    requestOf_fieldBytes h hn hwf _⟩
  rw [BitVec.toNat_ofNat, Nat.mod_eq_of_lt (code_lt k), kindOf_code hn]

/-- On ports 1 and 2 an empty payload is a fetch, any other a tunnel frame. -/
theorem readsAs_of_tunnel {i : Instr} {k : ReqKind} {m : AddrMode} (h : i.request? = some (k, m))
    (hwf : i.wellFormed = true) (hn : k.length = none) : ReadsAs i k m (requestPayload k i) := by
  cases k <;> simp only [ReqKind.length, reduceCtorEq] at hn
  case tunnel sd =>
    cases i <;> simp only [Instr.request?, Option.some.injEq, Prod.mk.injEq, reduceCtorEq, false_and] at h
    case tunnel reader payload =>
      obtain ⟨hsd, rfl⟩ := h
      obtain rfl : reader = sd := by simpa using hsd
      have hnonempty : payload.isEmpty = false := by
        simp only [Instr.wellFormed, Bool.and_eq_true, Bool.not_eq_true'] at hwf
        exact hwf.1
      refine ⟨?_, rfl, rfl⟩
      cases reader <;> simp [ReqKind.port, readKind, tunnelKind, requestPayload, ReqKind.length, Instr.fieldBytes,
        hnonempty]
  case fetch sd =>
    cases i <;> simp only [Instr.request?, Option.some.injEq, Prod.mk.injEq, reduceCtorEq, false_and] at h
    case fetch reader =>
      obtain ⟨hsd, rfl⟩ := h
      obtain rfl : reader = sd := by simpa using hsd
      refine ⟨?_, rfl, rfl⟩
      cases reader <;> rfl

theorem readsAs_requestPayload {i : Instr} {k : ReqKind} {m : AddrMode} (h : i.request? = some (k, m))
    (hwf : i.wellFormed = true) : ReadsAs i k m (requestPayload k i) := by
  cases hn : k.length with
  | none => exact readsAs_of_tunnel h hwf hn
  | some n => exact readsAs_of_length h hwf hn

/-- Settles O3: the kind, the length and then every field, each read where the one before it ends. -/
theorem everyRequestRoundTrips : Obligations.EveryRequestRoundTrips := by
  intro i k m h hwf
  obtain ⟨hkind, hlength, hrequest⟩ := readsAs_requestPayload h hwf
  simp only [decodeRequest, hkind]
  rw [if_pos hlength, hrequest]

end Sys2Proof.Machine
end


section

/-! ## A whole site frame, character by character (O4) -/

namespace Sys2Proof.Machine

open Sys2Proof

/-! ### What the bytes of a frame are, and of a part of it -/

section
variable {address port : Byte} {payload crc : List Byte}

theorem length_byte (h : payload.length ≤ 120) : (BitVec.ofNat 8 payload.length).toNat = payload.length := by
  rw [BitVec.toNat_ofNat, Nat.mod_eq_of_lt (by omega)]

theorem collect_frame (h : payload.length ≤ 120) (hcrc : crc.length = 2) :
    collect (siteBody address port payload ++ crc) =
      .complete address port payload (siteBody address port payload) (natOf crc) := by
  have hfits : ¬ maxSitePayload < payload.length := Nat.not_lt.mpr h
  simp [collect, siteBody, length_byte h, hfits, hcrc]

/-- A frame of which something is missing is not complete. -/
theorem collect_part (h : payload.length ≤ 120) (hcrc : crc.length = 2) {got rest : List Byte}
    (hsplit : got ++ rest = siteBody address port payload ++ crc) (hrest : rest ≠ []) : collect got = .more := by
  by_cases hshort : got.length < 3
  · exact collect_short hshort
  · obtain ⟨h0, h1, h2, tail, rfl⟩ : ∃ h0 h1 h2 tail, got = h0 :: h1 :: h2 :: tail := by
      match got with
      | [] | [_] | [_, _] => simp at hshort
      | h0 :: h1 :: h2 :: tail => exact ⟨h0, h1, h2, tail, rfl⟩
    simp only [siteBody, List.cons_append, List.cons.injEq] at hsplit
    obtain ⟨rfl, rfl, rfl, htail⟩ := hsplit
    have hlength := congrArg List.length htail
    have hpos := List.length_pos_of_ne_nil hrest
    simp only [List.length_append] at hlength
    have hfits : ¬ maxSitePayload < payload.length := Nat.not_lt.mpr h
    have hpart : tail.length ≠ payload.length + 2 := by omega
    simp [collect, length_byte h, hfits, hpart]

theorem crcBytes_length (c : Word16) : (crcBytes c).length = 2 := be_length 2 _

theorem natOf_crcBytes (c : Word16) : natOf (crcBytes c) = c.toNat := natOf_be (fits_toNat_16 c)

end

/-! ### The characters, one after the other -/

theorem feed_cons (b : Byte) (l : List Byte) (s : State) :
    feed (b :: l) s = feed l (finish (siteChar (.byte b) s)) := rfl

theorem feed_append (l r : List Byte) (s : State) : feed (l ++ r) s = feed r (feed l s) := List.foldl_append

section
variable {s : State} (hs : s.Live)
include hs

theorem finish_withReceiver (r : Receiver) : finish (withReceiver r s) = withReceiver r s :=
  finish_eq_of_eq hs.2 rfl rfl rfl

/-- While a reply is being sent a frame is not received. -/
theorem feed_of_sending {r : List Byte} {more : Option (List Byte)} (htx : s.sli.tx = .sending r more) (l : List Byte) :
    feed l s = s := by
  induction l with
  | nil => rfl
  | cons b l ih => rw [feed_cons, siteChar_of_sending htx, finish_eq_of_settled hs.2, ih]

variable (htx : s.sli.tx = .idle)
include htx

omit hs in
theorem siteChar_in_frame (got : List Byte) (b : Byte) :
    siteChar (.byte b) (withReceiver (.frame got) s) = frameByte (got ++ [b]) (withReceiver (.frame got) s) :=
  (siteChar_of_idle (s := withReceiver (.frame got) s) htx _).trans (receive_frame_byte rfl b)

/-- As long as a frame is not complete its bytes are collected. -/
theorem feed_more {got l : List Byte}
    (hmore : ∀ front back, l = front ++ back → front ≠ [] → collect (got ++ front) = .more) :
    feed l (withReceiver (.frame got) s) = withReceiver (.frame (got ++ l)) s := by
  induction l generalizing got with
  | nil => simp [feed]
  | cons b l ih =>
    have hfirst : collect (got ++ [b]) = .more := hmore [b] l rfl (by simp)
    have hstep : finish (siteChar (.byte b) (withReceiver (.frame got) s)) = withReceiver (.frame (got ++ [b])) s := by
      rw [siteChar_in_frame htx, frameByte_more hfirst]
      exact finish_withReceiver hs _
    rw [feed_cons, hstep, ih]
    · simp
    · intro front back hl _
      simpa using hmore (b :: front) back (by simp [hl]) (by simp)

end

/-! ### A whole frame whose start byte does not wake the part -/

/-- What a whole frame does: it is counted and, where its check is right, it is a good frame. -/
def frameOutcome (address port : Byte) (payload : List Byte) (check : Word16) (s : State) : State :=
  if crc16 (siteBody address port payload) = check then goodFrame address port payload (countGood s)
  else countError (withReceiver .waitQuiet s)

section
variable {s : State} (hs : s.Live) (hopen : frameStart s = withReceiver (.frame []) s) (htx : s.sli.tx = .idle)
  (hrx : s.sli.rx = .hunt)
  {address port : Byte} {payload : List Byte} (hlen : payload.length ≤ 120) (check : Word16)
include hs hopen htx hrx hlen

omit hs hopen htx hrx in
theorem frameByte_complete {got : List Byte}
    (hgot : got = siteBody address port payload ++ crcBytes check) (u : State) :
    frameByte got u = if crc16 (siteBody address port payload) = check then
      goodFrame address port payload (countGood (withReceiver .hunt u)) else abandonFrame u := by
  have hcomplete : collect got = .complete address port payload (siteBody address port payload) check.toNat := by
    rw [hgot, collect_frame hlen (crcBytes_length check), natOf_crcBytes]
  simp only [frameByte, hcomplete, BitVec.toNat_inj]

theorem feed_frame : feed (frameOnLine address port payload check) s =
    finish (frameOutcome address port payload check s) := by
  obtain ⟨front, last, hfront⟩ : ∃ front last,
      siteBody address port payload ++ crcBytes check = front ++ [last] :=
    ⟨_, _, (List.dropLast_append_getLast (by simp [siteBody])).symm⟩
  have hstart : finish (siteChar (.byte siteStart) s) = withReceiver (.frame []) s := by
    rw [siteChar_of_idle htx]
    exact (congrArg finish ((receive_hunt_start hrx).trans hopen)).trans
      (finish_withReceiver hs _)
  have hfront_more : feed front (withReceiver (.frame []) s) = withReceiver (.frame front) s := by
    refine feed_more hs htx fun part rest hpart _ => ?_
    refine collect_part (address := address) (port := port) (rest := rest ++ [last]) hlen (crcBytes_length check) ?_
      (by simp)
    rw [hfront, hpart]
    simp
  have hback : withReceiver .hunt (withReceiver (.frame front) s) = s := by
    simp only [withReceiver, State.withSli]
    rw [← hrx]
  have hlast : siteChar (.byte last) (withReceiver (.frame front) s) = frameOutcome address port payload check s := by
    rw [siteChar_in_frame htx, frameByte_complete hlen check hfront.symm, hback]
    rfl
  have hline : frameOnLine address port payload check = siteStart :: (front ++ [last]) := by
    rw [← hfront]
    rfl
  rw [hline, feed_cons, hstart, feed_append, hfront_more, feed_cons, hlast]
  rfl

theorem exec_siteFrame : exec (.siteFrame address port payload check) s =
    .next (finish (frameOutcome address port payload check s)) := by
  refine (event_finish_to hs (feed_frame hs hopen htx hrx hlen check)).trans (congrArg _ ?_)
  exact finish_eq_of_settled (finish_settled _)

theorem exec_siteFrame_good : exec (.siteFrame address port payload (crc16 (siteBody address port payload))) s =
    .next (finish (goodFrame address port payload (countGood s))) := by
  rw [exec_siteFrame hs hopen htx hrx hlen, frameOutcome, if_pos rfl]

end

end Sys2Proof.Machine
end


section

/-! ## What an accepted frame does (O4) -/

namespace Sys2Proof.Machine

open Sys2Proof

/-! ### Acceptance -/

section
variable {address port : Byte} {payload : List Byte} {s : State}

theorem isReply_iff : isReply port = true ↔ 128 ≤ port.toNat := by
  have hlt := port.isLt
  rw [isReply, BitVec.getLsbD, Nat.testBit_eq_decide_div_mod_eq]
  simp only [decide_eq_true_eq]
  omega

theorem goodFrame_of_reply (h : 128 ≤ port.toNat) : goodFrame address port payload s = s :=
  if_pos (isReply_iff.2 h)

theorem goodFrame_of_not_night (hmode : s.psq.mode ≠ .night) (hport : port.toNat < 128) :
    goodFrame address port payload s = acceptFrame address port payload s := by
  have hreply : isReply port = false := by
    rw [← Bool.not_eq_true, isReply_iff]
    omega
  simp [goodFrame, hreply, filterWakes, hmode]

theorem acceptanceOf_other (h : (address.toNat < 64 ∧ address.toNat ≠ s.sli.line.address) ∨
    (64 ≤ address.toNat ∧ address.toNat < 128 ∧ address.toNat ≠ 64 + s.sli.line.group)) :
    acceptanceOf s.sli.line address = .notForUs := by
  rcases h with ⟨hlow, hne⟩ | ⟨hlow, hhigh, hne⟩
  · have hdiv : address.toNat / 64 = 0 := by omega
    have hmod : address.toNat % 64 ≠ s.sli.line.address := by omega
    simp [acceptanceOf, hdiv, hmod]
  · have hdiv : address.toNat / 64 = 1 := by omega
    have hmod : address.toNat % 64 ≠ s.sli.line.group := by omega
    simp [acceptanceOf, hdiv, hmod]

theorem acceptanceOf_unused (hlow : 128 ≤ address.toNat) (hhigh : address.toNat < 192) :
    acceptanceOf s.sli.line address = .unusedMode := by
  have hdiv : address.toNat / 64 = 2 := by omega
  simp [acceptanceOf, hdiv]

theorem acceptanceOf_addressed {m : AddrMode} (h : s.addressed m address = true) :
    acceptanceOf s.sli.line address = .accepted m := by
  have hlt := address.isLt
  cases m <;> simp only [State.addressed, Bool.and_eq_true, decide_eq_true_eq] at h
  case unicast =>
    have hdiv : address.toNat / 64 = 0 := by omega
    have hmod : address.toNat % 64 = s.sli.line.address := by omega
    simp [acceptanceOf, hdiv, hmod]
  case group =>
    have hdiv : address.toNat / 64 = 1 := by omega
    have hmod : address.toNat % 64 = s.sli.line.group := by omega
    simp [acceptanceOf, hdiv, hmod]
  case broadcast =>
    have hdiv : address.toNat / 64 = 3 := by omega
    simp [acceptanceOf, hdiv]

theorem acceptFrame_of_addressed {m : AddrMode} (h : s.addressed m address = true) :
    acceptFrame address port payload s = takeFrame m (portNumber port) payload s := by
  simp only [acceptFrame, acceptanceOf_addressed h]

end

/-! ### The checks of R148 -/

section
variable {m : AddrMode} {port : Nat} {payload : List Byte} {s : State}

theorem sliRefuse_eq (hmode : s.psq.mode ≠ .night) (code : Nat) (r : Result) :
    sliRefuse m port code r s = s.withRefusal m port code r := by
  cases m <;> simp [sliRefuse, sendReply, State.withRefusal, hmode]

theorem takeFrame_of_empty (h : readKind port payload = .empty) :
    takeFrame m port payload s = sliRefuse m port 0 .badLength s := by
  simp only [takeFrame, h]

theorem takeFrame_of_unknown {code : Nat} (h : readKind port payload = .unknown code) :
    takeFrame m port payload s = sliRefuse m port code .unknown s := by
  simp only [takeFrame, h]

variable {k : ReqKind} (h : readKind port payload = .kind k)
include h

theorem takeFrame_of_not_allowed (hallows : k.allows m = false) : takeFrame m port payload s = countModeReject s := by
  simp only [takeFrame, h, hallows]
  rfl

theorem takeFrame_of_wrong_length (hallows : k.allows m = true) (hlength : lengthRight k payload = false) :
    takeFrame m port payload s = sliRefuse m port k.code .badLength s := by
  simp [takeFrame, h, hallows, hlength]

end

/-- A frame that spells a request does what the request does. -/
theorem takeFrame_of_readsAs {i : Instr} {k : ReqKind} {m : AddrMode} {payload : List Byte} {s : State}
    (hrequest : i.request? = some (k, m)) (hreads : ReadsAs i k m payload) (hpowered : s.powered = true)
    (hidle : s.sli.tx = .idle) : exec i s = .next (finish (takeFrame m k.port payload s)) := by
  obtain ⟨owner, howner, hexec⟩ := exec_of_request hrequest
  rw [hexec, request_idle hpowered hidle]
  cases hallows : k.allows m with
  | false => rw [takeFrame_of_not_allowed hreads.kind hallows, takeRequest, if_neg (by simp [hallows])]
  | true => simp [takeFrame, hreads.kind, hallows, hreads.length, hreads.request, takeInstr, hrequest, howner]

theorem requestPayload_length {i : Instr} {k : ReqKind} {m : AddrMode} (h : i.request? = some (k, m))
    (hwf : i.wellFormed = true) : (requestPayload k i).length ≤ 120 := by
  cases hn : k.length with
  | some n =>
    have hlength := fieldBytes_length h hn
    have hbound : n ≤ 17 := by cases k <;> simp [ReqKind.length] at hn <;> omega
    rw [requestPayload_of_length i hn, List.length_cons]
    omega
  | none =>
    cases k <;> simp only [ReqKind.length, reduceCtorEq] at hn
    case tunnel sd =>
      cases i <;> simp only [Instr.request?, Option.some.injEq, Prod.mk.injEq, reduceCtorEq, false_and] at h
      case tunnel reader payload =>
        rw [Instr.wellFormed, Bool.and_eq_true] at hwf
        exact of_decide_eq_true hwf.2
    case fetch sd =>
      cases i <;> simp only [Instr.request?, Option.some.injEq, Prod.mk.injEq, reduceCtorEq, false_and] at h
      exact Nat.zero_le _

/-! ### The frames of O4 -/

section
variable {s : State} (hs : s.Live) (hmode : s.psq.mode ≠ .night) (htx : s.sli.tx = .idle) (hrx : s.sli.rx = .hunt)
  {address port : Byte} {payload : List Byte} (hlen : payload.length ≤ 120)
include hs hmode htx hrx hlen

/-- A frame whose effect leaves the store and the sequencer alone. -/
theorem exec_siteFrame_to {t : State} (h : goodFrame address port payload (countGood s) = t)
    (hnvs : t.nvs = s.nvs) (hpsq : t.psq = s.psq) :
    exec (.siteFrame address port payload (crc16 (siteBody address port payload))) s = .next t := by
  rw [exec_siteFrame_good hs (frameStart_of_not_night hmode) htx hrx hlen, h,
    finish_eq_of_eq hs.2 hnvs (by rw [hpsq]) (by rw [hpsq])]

theorem exec_siteFrame_wrong {check : Word16} (hcheck : check ≠ crc16 (siteBody address port payload)) :
    exec (.siteFrame address port payload check) s =
      .next (countError (s.withSli { s.sli with rx := .waitQuiet })) := by
  have houtcome : frameOutcome address port payload check s = countError (withReceiver .waitQuiet s) :=
    if_neg (Ne.symm hcheck)
  rw [exec_siteFrame hs (frameStart_of_not_night hmode) htx hrx hlen, houtcome]
  refine congrArg _ (finish_eq_of_eq hs.2 ?_ ?_ ?_)
  · simp [withReceiver]
  · exact countError_night _
  · exact countError_restart _

theorem exec_siteFrame_other (h : 128 ≤ port.toNat ∨
    (address.toNat < 64 ∧ address.toNat ≠ s.sli.line.address) ∨
    (64 ≤ address.toNat ∧ address.toNat < 128 ∧ address.toNat ≠ 64 + s.sli.line.group)) :
    exec (.siteFrame address port payload (crc16 (siteBody address port payload))) s = .next (countGood s) := by
  refine exec_siteFrame_to hs hmode htx hrx hlen ?_ rfl rfl
  by_cases hreply : 128 ≤ port.toNat
  · exact goodFrame_of_reply hreply
  · rw [goodFrame_of_not_night (s := countGood s) hmode (by omega)]
    simp only [acceptFrame, acceptanceOf_other (s := countGood s) (h.resolve_left hreply)]

variable (hport : port.toNat < 128)
include hport

theorem exec_siteFrame_unused (hlow : 128 ≤ address.toNat) (hhigh : address.toNat < 192) :
    exec (.siteFrame address port payload (crc16 (siteBody address port payload))) s =
      .next (countModeReject (countGood s)) := by
  refine exec_siteFrame_to hs hmode htx hrx hlen ?_ rfl rfl
  rw [goodFrame_of_not_night (s := countGood s) hmode hport]
  simp only [acceptFrame, acceptanceOf_unused (s := countGood s) hlow hhigh]

variable {m : AddrMode} (haddressed : s.addressed m address = true)
include haddressed

omit hs htx hrx hlen in
theorem goodFrame_of_addressed :
    goodFrame address port payload (countGood s) = takeFrame m (portNumber port) payload (countGood s) :=
  (goodFrame_of_not_night (s := countGood s) hmode hport).trans (acceptFrame_of_addressed (s := countGood s) haddressed)

theorem exec_siteFrame_request {i : Instr} {k : ReqKind} (hrequest : i.request? = some (k, m))
    (hreads : ReadsAs i k m payload) (hkind : port.toNat % 4 = k.port) :
    exec (.siteFrame address port payload (crc16 (siteBody address port payload))) s = exec i (countGood s) := by
  rw [exec_siteFrame_good hs (frameStart_of_not_night hmode) htx hrx hlen,
    goodFrame_of_addressed hmode hport haddressed, portNumber, hkind,
    takeFrame_of_readsAs (s := countGood s) hrequest hreads hs.1 htx]

theorem exec_siteFrame_refused {code : Nat} {r : Result}
    (h : takeFrame m (portNumber port) payload (countGood s) = sliRefuse m (portNumber port) code r (countGood s)) :
    exec (.siteFrame address port payload (crc16 (siteBody address port payload))) s =
      .next ((countGood s).withRefusal m (port.toNat % 4) code r) := by
  refine exec_siteFrame_to hs hmode htx hrx hlen ?_ ?_ ?_
  · rw [goodFrame_of_addressed hmode hport haddressed, h]
    exact sliRefuse_eq (s := countGood s) hmode code r
  · cases m <;> rfl
  · cases m <;> rfl

theorem exec_siteFrame_not_allowed {k : ReqKind} (h : readKind (portNumber port) payload = .kind k)
    (hallows : k.allows m = false) :
    exec (.siteFrame address port payload (crc16 (siteBody address port payload))) s =
      .next (countModeReject (countGood s)) := by
  refine exec_siteFrame_to hs hmode htx hrx hlen ?_ rfl rfl
  rw [goodFrame_of_addressed hmode hport haddressed, takeFrame_of_not_allowed h hallows]

end

/-! ### A frame while a reply waits or is being sent -/

theorem feed_of_replyWaits {s : State} (h : s.ReplyWaits) (b : Byte) (l : List Byte) :
    feed (b :: l) s = feed (b :: l) (finish (abandonReply s)) := by
  rw [feed_cons, feed_cons, siteChar_of_replyWaits h, siteChar_of_idle (abandoned_tx h)]

theorem exec_siteFrame_of_replyWaits {s : State} (hpowered : s.powered = true) (h : s.ReplyWaits) (address port : Byte)
    (payload : List Byte) (check : Word16) : exec (.siteFrame address port payload check) s =
      exec (.siteFrame address port payload check) (finish (abandonReply s)) := by
  have hfeed : feed (frameOnLine address port payload check) s =
      feed (frameOnLine address port payload check) (finish (abandonReply s)) := feed_of_replyWaits h _ _
  simp [exec, execSiteFrame, event, hpowered, hfeed]

theorem kindOf_length {port code : Nat} {k : ReqKind} (h : kindOf port code = some k) : ∃ n, k.length = some n := by
  cases k with
  | tunnel sd | fetch sd =>
    unfold kindOf at h
    split at h
    · split at h <;> simp at h
    · split at h <;> simp at h
    · cases h
  | _ => exact ⟨_, rfl⟩

/-- Settles O4: the bytes are collected up to the last, which completes the frame; then by acceptance and R148's checks. -/
theorem aWholeFrameIsCheckedAndRun : Obligations.AWholeFrameIsCheckedAndRun := by
  refine ⟨?frames, ?replies⟩
  case frames =>
    intro s hs hmode htx hrx
    refine ⟨fun address port payload check hlen => exec_siteFrame_wrong hs hmode htx hrx hlen,
      fun address port payload hlen => exec_siteFrame_other hs hmode htx hrx hlen,
      fun address port payload hlen hlow hhigh hport => exec_siteFrame_unused hs hmode htx hrx hlen hport hlow hhigh,
      fun m address port haddressed hport => ⟨?request, fun hzero => ⟨?empty, fun code rest hrest => ?coded⟩⟩⟩
    case request =>
      intro i k hrequest hwf hkind
      exact exec_siteFrame_request hs hmode htx hrx (requestPayload_length hrequest hwf) hport haddressed hrequest
        (readsAs_requestPayload hrequest hwf) hkind
    case empty =>
      exact exec_siteFrame_refused hs hmode htx hrx (Nat.zero_le _) hport haddressed
        (takeFrame_of_empty (readKind_nil hzero))
    case coded =>
      have hlen : (code :: rest).length ≤ 120 := by
        rw [List.length_cons]
        omega
      refine ⟨fun hunknown => exec_siteFrame_refused hs hmode htx hrx hlen hport haddressed
          (takeFrame_of_unknown (readKind_unknown hzero hunknown)), fun k hknown => ⟨fun hallows =>
          exec_siteFrame_not_allowed hs hmode htx hrx hlen hport haddressed (readKind_known hzero hknown) hallows,
        fun hallows hlength => ?_⟩⟩
      obtain ⟨n, hn⟩ := kindOf_length hknown
      have hwrong : lengthRight k (code :: rest) = false := by
        rw [← Bool.not_eq_true, lengthRight_iff hn, List.length_cons]
        rintro rfl
        exact hlength hn
      exact exec_siteFrame_refused hs hmode htx hrx hlen hport haddressed
        (takeFrame_of_wrong_length (readKind_known hzero hknown) hallows hwrong)
  case replies =>
    intro s address port payload check hpowered
    exact ⟨fun hwaits => exec_siteFrame_of_replyWaits hpowered hwaits address port payload check,
      fun r more htx hsettled =>
      event_unchanged ⟨hpowered, hsettled⟩ (feed_of_sending ⟨hpowered, hsettled⟩ htx _)⟩

end Sys2Proof.Machine
end


section

/-! ## Wakes from NIGHT, and the return to it (O60) -/

namespace Sys2Proof.Machine

open Sys2Proof

/-! ### A wake ends its event -/

section
variable (cause : WakeCause) (s : State)

theorem finish_wake : finish (wake cause s) = wake cause s := finish_beginSequence cause false s

/-- What a wake keeps that the sequence does not reload. -/
theorem wake_kept : (wake cause s).psq.wakeTimer = s.psq.wakeTimer ∧ (wake cause s).sli.events = s.sli.events ∧
    (wake cause s).sli.frameErrors = s.sli.frameErrors ∧ (wake cause s).sli.tx = s.sli.tx.dropped ∧
    (∀ sd, (wake cause s).lifted sd = s.lifted sd) ∧ (wake cause s).now = s.now := by
  refine ⟨?_, ?_, ?_, ?_, fun sd => ?_, by simp⟩
  · simp [wake, beginSequence_psq, Psq.atStart]
  · simp [wake, beginSequence_sli, Sli.atStart]
  · simp [wake, beginSequence_sli, Sli.atStart]
  · simp [wake, beginSequence_sli, Sli.atStart]
  · rw [wake, State.lifted, beginSequence_side]
    rfl

end

/-- What stands over a wake is the same for a state that keeps these. -/
theorem wokenFrom_of_kept {s t u : State} {cause : WakeCause} (h : t.WokenFrom u cause)
    (hrestarts : u.psq.restarts = s.psq.restarts) (hmci : u.mci = s.mci) (hptu : u.ptu = s.ptu) (hsru : u.sru = s.sru)
    (hstack : u.stack = s.stack) (hcfg : u.cfg = s.cfg) : t.WokenFrom s cause := by
  rw [State.WokenFrom, hrestarts, hmci, hptu, hsru, hstack, hcfg] at h
  exact h

/-! ### The wake timer and a nozzle that is out -/

section
variable {s : State} (hs : s.Live)
include hs

theorem exec_wakeTimer_awake {d : Nat} (htimer : s.psq.wakeTimer = some d) (hmode : s.psq.mode ≠ .night) :
    exec .wakeTimer s = .next { s with now := max s.now d, psq := { s.psq with wakeTimer := none } } := by
  refine event_settled_to hs ?_ rfl rfl rfl
  simp only [wakeExpired, htimer]
  exact if_neg hmode

/-- The wake timer has expired; the wake is still to come. -/
def State.wakeTimerOver (s : State) (d : Nat) : State :=
  { s with now := max s.now d, psq := { s.psq with wakeTimer := none } }

theorem exec_wakeTimer_night {d : Nat} (htimer : s.psq.wakeTimer = some d) (hmode : s.psq.mode = .night) :
    exec .wakeTimer s = .next (wake .timer (s.wakeTimerOver d)) := by
  have hwake : wakeExpired s = wake .timer (s.wakeTimerOver d) := by
    simp only [wakeExpired, htimer]
    exact if_pos hmode
  rw [← finish_wake]
  exact event_finish_to hs hwake

omit hs in
theorem nozzleWakeDue_iff (sd : Side) :
    nozzleWakeDue s sd = true ↔ s.cfg.wake.nozzle.get sd = true ∧ s.lifted sd ≠ [] := by
  simp [nozzleWakeDue]

theorem exec_nightNozzleWake (hmode : s.psq.mode = .night)
    (hdue : ∃ sd, s.cfg.wake.nozzle.get sd = true ∧ s.lifted sd ≠ []) :
    exec .nightNozzleWake s = .next (wake .nozzle s) := by
  have hany : (nozzleWakeDue s .a || nozzleWakeDue s .b) = true := by
    obtain ⟨sd, hsd⟩ := hdue
    rw [← nozzleWakeDue_iff] at hsd
    cases sd <;> simp [hsd]
  rw [← finish_wake]
  exact event_finish_to hs (if_pos ⟨hmode, hany⟩)

theorem exec_nightNozzleWake_not_due (hdue : ∀ sd, s.cfg.wake.nozzle.get sd = false ∨ s.lifted sd = []) :
    exec .nightNozzleWake s = .next s := by
  have hnone : ∀ sd, nozzleWakeDue s sd = false := fun sd => by
    rcases hdue sd with h | h <;> simp [nozzleWakeDue, h]
  exact event_unchanged hs (if_neg (by simp [hnone]))

end

/-! ### A lift in NIGHT -/

/-- The side has taken a lift in NIGHT, before the wake. -/
def State.nightLifted (s : State) (h : Hose) (sd : Side) : State :=
  followLifted sd
    (({ s with lines := { s.lines with nozzle := s.lines.nozzle.set h true } }).withLifted sd (s.lifted sd ++ [h]))

section
variable {s : State} {h : Hose} {sd : Side}

theorem followLifted_lifted (u : State) (d : Side) : (followLifted sd u).lifted d = u.lifted d := by
  have hcalling : (enterCalling sd u).lifted d = u.lifted d := State.lifted_withSideState u sd d .calling
  unfold followLifted
  split
  · split
    · rfl
    · exact hcalling
  · split
    · exact State.lifted_withSideState u sd d .idle
    · rfl
  · rfl

theorem followLifted_not_authorized {u : State} (hu : (u.sideState sd).busy = false) (a : Auth) :
    (followLifted sd u).sideState sd ≠ .authorized a := by
  have hcalling : (enterCalling sd u).sideState sd = .calling := State.sideState_withSideState u sd .calling
  have hkept : u.sideState sd ≠ .authorized a := by
    intro hstate
    rw [hstate] at hu
    cases hu
  unfold followLifted
  split
  · split
    · exact hkept
    · simp [hcalling]
  · split
    · simp
    · exact hkept
  · exact hkept

theorem nightLifted_lifted : (s.nightLifted h sd).lifted sd = s.lifted sd ++ [h] ∧
    (s.nightLifted h sd).lifted sd.other = s.lifted sd.other := by
  rw [State.nightLifted, followLifted_lifted, followLifted_lifted]
  exact ⟨State.lifted_withLifted _ _ _,
    by simp [State.lifted, State.side, PerSide.get_set_ne _ _ (side_other_ne sd)]⟩

@[simp] theorem nightLifted_frame : (s.nightLifted h sd).psq = s.psq ∧ (s.nightLifted h sd).nvs = s.nvs ∧
    (s.nightLifted h sd).cfg = s.cfg ∧ (s.nightLifted h sd).mci = s.mci ∧ (s.nightLifted h sd).ptu = s.ptu ∧
    (s.nightLifted h sd).sru = s.sru ∧ (s.nightLifted h sd).stack = s.stack ∧
    (s.nightLifted h sd).lines = { s.lines with nozzle := s.lines.nozzle.set h true } := by
  simp [State.nightLifted]

variable (hdown : s.lines.nozzle.get h = false) (hhose : hoseSide s.cfg.hoses h = some sd)
  (hmode : s.psq.mode = .night) (hbusy : (s.sideState sd).busy = false)
include hdown hhose hmode hbusy

/-- A lift of a hose of the side in NIGHT. -/
theorem nozzleLift_of_night : nozzleLift h s =
    if s.cfg.wake.nozzle.get sd = true then wake .nozzle (s.nightLifted h sd) else s.nightLifted h sd := by
  have hhose' : hoseSide (s.withLines (setNozzle h true s.lines)).cfg.hoses h = some sd := hhose
  have hstart : testStart sd (s.nightLifted h sd) = s.nightLifted h sd :=
    testStart_of_not_authorized (followLifted_not_authorized (by
      simpa [State.sideState, State.side] using hbusy))
  have hlift : sideLift sd h (s.withLines (setNozzle h true s.lines)) =
      if (s.nightLifted h sd).psq.mode = .night ∧ (s.nightLifted h sd).cfg.wake.nozzle.get sd = true
      then wake .nozzle (s.nightLifted h sd) else s.nightLifted h sd := by
    rw [← hstart]
    rfl
  simp only [nozzleLift, hdown, Bool.false_eq_true, if_false, hhose', hlift]
  simp [hmode]

theorem exec_nozzleLift_wakes (hs : s.Live) (hwake : s.cfg.wake.nozzle.get sd = true) :
    exec (.nozzleLift h) s = .next (wake .nozzle (s.nightLifted h sd)) := by
  have hlift := nozzleLift_of_night hdown hhose hmode hbusy
  rw [if_pos hwake] at hlift
  rw [← finish_wake]
  exact (lineEvent_eq_event hs _).trans (event_finish_to hs hlift)

theorem exec_nozzleLift_stays (hs : s.Live) (hwake : s.cfg.wake.nozzle.get sd = false) :
    exec (.nozzleLift h) s = .next (s.nightLifted h sd) := by
  have hlift := nozzleLift_of_night hdown hhose hmode hbusy
  rw [if_neg (by simp [hwake])] at hlift
  exact (lineEvent_eq_event hs _).trans (event_settled_to hs hlift (by simp) (by simp) (by simp))

end

/-! ### The confirm timer -/

/-- The confirm timer has expired: WAKE_ERROR, and the drain to NIGHT is asked for. -/
def State.unconfirmed (s : State) (d : Nat) : State :=
  { s with
    now := max s.now d
    sli := { s.sli with events := s.sli.events ||| Event.wakeError.bit }
    psq := { s.psq with confirmTimer := none, night := some ⟨none, true⟩ } }

section
variable {s : State} (hs : s.Live) {d : Nat} (htimer : s.psq.confirmTimer = some d)

include htimer in
theorem confirmExpired_eq : confirmExpired s = s.unconfirmed d := by
  simp only [confirmExpired, htimer]
  rfl

include hs htimer

theorem exec_confirmTimer_idle (hrestart : s.psq.restart = .none) (hidle : storeIdle s = true) :
    exec .confirmTimer s = .next (enterNight ⟨none, true⟩ (s.unconfirmed d)) := by
  refine (event_finish_to hs (confirmExpired_eq htimer)).trans (congrArg _ ?_)
  refine (finish_of_storeIdle ?_).trans (endDrain_of_night ?_ rfl rfl)
  · exact hidle
  · exact hrestart

theorem exec_confirmTimer_busy (hidle : storeIdle s = false) :
    exec .confirmTimer s = .next (s.unconfirmed d) := by
  refine (event_finish_to hs (confirmExpired_eq htimer)).trans (congrArg _ ?_)
  have hsettled : (s.unconfirmed d).Settled := ⟨hs.2.1, fun _ => hidle, fun _ => hidle⟩
  exact finish_eq_of_settled hsettled

end

end Sys2Proof.Machine
end


section

/-! ## The site line in NIGHT (O60) -/

namespace Sys2Proof.Machine

open Sys2Proof

/-! ### A frame that is accepted in NIGHT -/

section
variable {s : State} (hmode : s.psq.mode = .night) (hrestart : s.psq.restart = .none)
include hmode

omit hmode in
/-- Of an accepted frame NIGHT leaves a mode reject at most. -/
def State.SilentTo (s t : State) : Prop := t = s ∨ t = countModeReject s

theorem sliRefuse_of_night (m : AddrMode) (port code : Nat) (r : Result) : sliRefuse m port code r s = s := by
  cases m <;> simp [sliRefuse, sendReply, hmode]

include hrestart

theorem takeRequest_of_night (m : AddrMode) (k : ReqKind) (owner : State → Answered) :
    s.SilentTo (takeRequest m k owner s) := by
  have hsilent : admission k s = .silent := by simp [admission, State.restartDraining, hmode, hrestart]
  unfold takeRequest
  split
  · left
    simp only [admitRequest, confirmWake_of_not_run (by simp [hmode] : s.psq.mode ≠ .run), hsilent]
  · exact .inr rfl

theorem takeInstr_of_night (i : Instr) : s.SilentTo (takeInstr i s) := by
  unfold takeInstr
  split
  · exact takeRequest_of_night hmode hrestart _ _ _
  · exact .inl rfl

theorem takeFrame_of_night (m : AddrMode) (port : Nat) (payload : List Byte) :
    s.SilentTo (takeFrame m port payload s) := by
  unfold takeFrame
  split
  · exact .inl (sliRefuse_of_night hmode _ _ _ _)
  · exact .inl (sliRefuse_of_night hmode _ _ _ _)
  · split
    · exact .inr rfl
    · split
      · exact takeInstr_of_night hmode hrestart _
      · exact .inl (sliRefuse_of_night hmode _ _ _ _)

theorem acceptFrame_of_night (address port : Byte) (payload : List Byte) :
    s.SilentTo (acceptFrame address port payload s) := by
  unfold acceptFrame
  split
  · exact .inl rfl
  · exact .inr rfl
  · exact takeFrame_of_night hmode hrestart _ _ _

end

/-- A frame in NIGHT counts on the site line and changes nothing else. -/
def State.CountedTo (s t : State) : Prop :=
  t = s.withSli t.sli ∧ t.sli.tx = s.sli.tx ∧ t.sli.events = s.sli.events

theorem countedTo_of_silentTo {s t : State} (h : (countGood s).SilentTo t) : s.CountedTo t := by
  rcases h with rfl | rfl <;> exact ⟨rfl, rfl, rfl⟩

/-! ### The frames of NIGHT -/

section
variable {s : State} (hs : s.Live) (hmode : s.psq.mode = .night)

theorem frameStart_of_night_wakes {s : State} (hmode : s.psq.mode = .night)
    (h : s.cfg.wake.armed = false ∨ s.psq.overflowMark = true) :
    frameStart s = wake .fallback (withReceiver (.frame []) s) :=
  if_pos ⟨hmode, h⟩

theorem frameStart_of_night_stays {s : State} (harmed : s.cfg.wake.armed = true) (hmark : s.psq.overflowMark = false) :
    frameStart s = withReceiver (.frame []) s := by
  simp [frameStart, withReceiver, harmed, hmark]

variable (htx : s.sli.tx = .idle) (hrx : s.sli.rx = .hunt)
include hs hmode htx hrx

theorem exec_frameStart_wakes (h : s.cfg.wake.armed = false ∨ s.psq.overflowMark = true) :
    exec (.siteCharacter (.byte 0xD5)) s = .next (wake .fallback (withReceiver (.frame []) s)) := by
  rw [← finish_wake]
  exact event_finish_to hs ((siteChar_of_idle htx _).trans
    ((receive_hunt_start hrx).trans (frameStart_of_night_wakes hmode h)))

variable (harmed : s.cfg.wake.armed = true) (hmark : s.psq.overflowMark = false)
include harmed hmark

omit hmode in
theorem exec_frameStart_stays :
    exec (.siteCharacter (.byte 0xD5)) s = .next (s.withSli { s.sli with rx := .frame [] }) :=
  exec_siteCharacter_receiver hs htx ((receive_hunt_start hrx).trans (frameStart_of_night_stays harmed hmark))

variable {address port : Byte} {payload : List Byte} (hlen : payload.length ≤ 120)
include hlen

theorem exec_siteFrame_wakes (hport : port.toNat < 128)
    (hmatch : filterMatches s.cfg.wake address port payload = true) :
    exec (.siteFrame address port payload (crc16 (siteBody address port payload))) s =
      .next (wake .filter (acceptFrame address port payload (countGood s))) := by
  have hreply : isReply port = false := by
    rw [← Bool.not_eq_true, isReply_iff]
    omega
  have hwakes : filterWakes (countGood s) address port payload = true := by
    simp [filterWakes, hmode, harmed, hmatch]
  have hgood : goodFrame address port payload (countGood s) =
      wake .filter (acceptFrame address port payload (countGood s)) := by
    simp [goodFrame, hreply, hwakes]
  rw [exec_siteFrame_good hs (frameStart_of_night_stays harmed hmark) htx hrx hlen, hgood, finish_wake]

theorem exec_siteFrame_stays (hrestart : s.psq.restart = .none)
    (h : 128 ≤ port.toNat ∨ filterMatches s.cfg.wake address port payload = false) :
    ∃ t, exec (.siteFrame address port payload (crc16 (siteBody address port payload))) s = .next t ∧
      s.CountedTo t := by
  have hgood : (countGood s).SilentTo (goodFrame address port payload (countGood s)) := by
    by_cases hreply : 128 ≤ port.toNat
    · exact .inl (goodFrame_of_reply hreply)
    · have hnone : filterWakes (countGood s) address port payload = false := by
        simp [filterWakes, h.resolve_left hreply]
      have hplain : isReply port = false := by rwa [← Bool.not_eq_true, isReply_iff]
      have haccept := acceptFrame_of_night (s := countGood s) hmode hrestart address port payload
      simpa [goodFrame, hplain, hnone] using haccept
  have hcounted := countedTo_of_silentTo hgood
  refine ⟨_, ?_, hcounted⟩
  have hframe := hcounted.1
  rw [exec_siteFrame_good hs (frameStart_of_night_stays harmed hmark) htx hrx hlen, finish_eq_of_eq hs.2] <;>
    rw [hframe] <;> rfl

end

/-! ### The match of the wake filter -/

theorem agrees_iff (f : Masked) (o : Option Byte) :
    f.agrees o = true ↔ (∀ b, o = some b → b &&& f.mask = f.value &&& f.mask) ∧ (o = none → f.mask = 0) := by
  cases o <;> simp [Masked.agrees]

theorem anyOrEqual_iff (f : Option Nat) (v : Nat) : anyOrEqual f v = true ↔ ∀ n, f = some n → n = v := by
  cases f <;> simp [anyOrEqual]

theorem filterMatches_iff (w : Wake) (address port : Byte) (payload : List Byte) :
    filterMatches w address port payload = true ↔
      (address &&& w.address.mask = w.address.value &&& w.address.mask) ∧
      (∀ n, w.port = some n → n = port.toNat % 4) ∧ (∀ n, w.length = some n → n = payload.length) ∧
      (∀ (k : Nat) (f : Masked),
        (k, f) ∈ [(0, w.code), (1, w.data.p1), (2, w.data.p2), (3, w.data.p3), (4, w.data.p4)] →
        f.agrees payload[k]? = true) := by
  have hall : (∀ (k : Nat) (f : Masked),
      (k, f) ∈ [(0, w.code), (1, w.data.p1), (2, w.data.p2), (3, w.data.p3), (4, w.data.p4)] →
      f.agrees payload[k]? = true) ↔ w.code.agrees payload[0]? = true ∧ w.data.p1.agrees payload[1]? = true ∧
        w.data.p2.agrees payload[2]? = true ∧ w.data.p3.agrees payload[3]? = true ∧
        w.data.p4.agrees payload[4]? = true := by
    simp only [List.mem_cons, Prod.mk.injEq, List.not_mem_nil, or_false]
    constructor
    · intro h
      exact ⟨h 0 _ (.inl ⟨rfl, rfl⟩), h 1 _ (.inr (.inl ⟨rfl, rfl⟩)),
        h 2 _ (.inr (.inr (.inl ⟨rfl, rfl⟩))),
        h 3 _ (.inr (.inr (.inr (.inl ⟨rfl, rfl⟩)))), h 4 _ (.inr (.inr (.inr (.inr ⟨rfl, rfl⟩))))⟩
    · rintro ⟨h0, h1, h2, h3, h4⟩ k f (⟨rfl, rfl⟩ | ⟨rfl, rfl⟩ | ⟨rfl, rfl⟩ | ⟨rfl, rfl⟩ | ⟨rfl, rfl⟩) <;>
        assumption
  rw [hall]
  simp only [filterMatches, Bool.and_eq_true, anyOrEqual_iff, portNumber]
  have haddress : w.address.agrees (some address) = true ↔
      address &&& w.address.mask = w.address.value &&& w.address.mask := by simp [Masked.agrees]
  rw [haddress]
  tauto

/-- Settles O60: each wake is the same sequence (`wake_wokenFrom`) over a state that keeps what the wake keeps. -/
theorem wakesAndReturnsToNight : Obligations.WakesAndReturnsToNight := by
  refine ⟨fun s hs => ⟨?timer, ?night, ?notDue, ?idle, ?busy⟩, ?confirm, ?filter⟩
  case timer =>
    intro d htimer
    refine ⟨exec_wakeTimer_awake hs htimer, fun hmode hrestart hnight => ?_⟩
    obtain ⟨htimerKept, hevents, herrors, -, hlifted, hnow⟩ := wake_kept .timer (s.wakeTimerOver d)
    exact ⟨_, exec_wakeTimer_night hs htimer hmode,
      wokenFrom_of_kept (wake_wokenFrom .timer _) rfl rfl rfl rfl rfl rfl, htimerKept, hevents, herrors,
      hlifted, hnow⟩
  case night =>
    intro hmode hrestart hnight
    refine ⟨fun hdue => ?nozzle, fun h sd hhose hdown hbusy => ?lift, fun htx hrx => ⟨fun hopen => ?fallback,
      fun harmed hmark => ⟨exec_frameStart_stays hs htx hrx harmed hmark, fun address port payload hlen =>
        ⟨fun hport hmatch => ?filtered, fun hno => ?silent⟩⟩⟩⟩
    case nozzle =>
      obtain ⟨htimerKept, hevents, -, -, hlifted, -⟩ := wake_kept .nozzle s
      exact ⟨_, exec_nightNozzleWake hs hmode hdue, wake_wokenFrom .nozzle s, htimerKept, hevents, hlifted⟩
    case lift =>
      obtain ⟨hown, hother⟩ := nightLifted_lifted (s := s) (h := h) (sd := sd)
      cases hwake : s.cfg.wake.nozzle.get sd with
      | true =>
        obtain ⟨htimerKept, -, -, -, hlifted, -⟩ := wake_kept .nozzle (s.nightLifted h sd)
        refine ⟨_, exec_nozzleLift_wakes hdown hhose hmode hbusy hs hwake, (hlifted sd).trans hown,
          (hlifted sd.other).trans hother, by simp, fun _ => ⟨?_, by simpa using htimerKept⟩, by simp⟩
        exact wokenFrom_of_kept (wake_wokenFrom .nozzle _) (by simp) (by simp) (by simp) (by simp) (by simp) (by simp)
      | false =>
        exact ⟨_, exec_nozzleLift_stays hdown hhose hmode hbusy hs hwake, hown, hother, by simp, by simp, by simp⟩
    case fallback =>
      obtain ⟨htimerKept, hevents, -, -, hlifted, -⟩ := wake_kept .fallback (withReceiver (.frame []) s)
      exact ⟨_, exec_frameStart_wakes hs hmode htx hrx hopen,
        wokenFrom_of_kept (wake_wokenFrom .fallback _) rfl rfl rfl rfl rfl rfl, htimerKept, hevents, hlifted⟩
    case filtered =>
      obtain ⟨hsli, htxKept, heventsKept⟩ := countedTo_of_silentTo
        (acceptFrame_of_night (s := countGood s) hmode hrestart address port payload)
      obtain ⟨htimerKept, hevents, -, htxAfter, hlifted, -⟩ :=
        wake_kept .filter (acceptFrame address port payload (countGood s))
      refine ⟨_, exec_siteFrame_wakes hs hmode htx hrx harmed hmark hlen hport hmatch, ?_, ?_, ?_, ?_, ?_⟩
      · refine wokenFrom_of_kept (wake_wokenFrom .filter _) ?_ ?_ ?_ ?_ ?_ ?_ <;> rw [hsli] <;> rfl
      · rw [htimerKept, hsli]
        rfl
      · rw [hevents, heventsKept]
      · rw [htxAfter, htxKept, htx]
        rfl
      · intro sd
        rw [hlifted, hsli]
        rfl
    case silent =>
      obtain ⟨t, hexec, hsli, htxKept, -⟩ := exec_siteFrame_stays hs hmode htx hrx harmed hmark hlen hrestart hno
      refine ⟨t, hexec, ?_, htxKept.trans htx, ?_, ?_, ?_, ?_, ?_, ?_⟩ <;> rw [hsli] <;> rfl
  case notDue => exact exec_nightNozzleWake_not_due hs
  case idle => exact fun d htimer => exec_confirmTimer_idle hs htimer
  case busy => exact fun d htimer _ => exec_confirmTimer_busy hs htimer
  case confirm =>
    intro m s
    refine ⟨fun hunicast hrun htimer => if_pos ⟨hunicast, hrun, htimer⟩, fun hno => if_neg ?_⟩
    rintro ⟨hunicast, hrun, htimer⟩
    rcases hno with h | h | h
    · exact h hunicast
    · exact h hrun
    · exact htimer h
  case filter =>
    intro w address port payload
    simp only [filterMatches_iff, agrees_iff]

end Sys2Proof.Machine
end


section

/-! ## The answers taken in a slot of the local bus (O43, O44) -/

namespace Sys2Proof.Machine

open Sys2Proof

/-! ### What an answer is judged to be -/

section
variable {i : SlotId} {payload : List Byte}

theorem judgeAnswer_good (h : payload.length ≤ 100) :
    judgeAnswer i (.frame (i.address ||| 0x80) payload (crc16 (localBody (i.address ||| 0x80) payload))) =
      .good payload :=
  if_pos ⟨h, rfl, rfl⟩

theorem judgeAnswer_bad {address : Byte} {check : Word16} (h : check ≠ crc16 (localBody address payload) ∨
    100 < payload.length ∨ address ≠ (i.address ||| 0x80)) :
    judgeAnswer i (.frame address payload check) = .bad := by
  refine if_neg ?_
  rintro ⟨hlen, hcheck, haddress⟩
  rcases h with h | h | h
  · exact h hcheck
  · omega
  · exact h haddress

end

/-! ### The events of a slot -/

/-- The slot takes no further answer. -/
def State.answered (s : State) (sl : Slot) : State :=
  s.withLbc { s.lbc with slot := some { sl with take := false } }

section
variable {s : State} {sl : Slot} (hs : s.Live) (hslot : s.lbc.slot = some sl)

include hslot in
theorem answerTaken_eq : answerTaken s = s.answered sl := by
  simp only [answerTaken, hslot]
  rfl

include hs hslot

theorem exec_localFrameSent (hsent : sl.sent = false) : exec .localFrameSent s = .next (s.withLbc { s.lbc with
    slot := some { sl with sent := true, answerBy := some (s.now + 5) } }) := by
  refine event_settled_to hs ?_ rfl rfl rfl
  simp only [frameSent, hslot, hsent, Config.answerWindow]
  rfl

/-- A further answer is ignored; the slot ends with it. -/
theorem exec_localAnswer_ignored (hsent : sl.sent = true) (htake : sl.take = false) (ans : LocalAnswer) :
    exec (.localAnswer ans) s = .next (endSlot s) := by
  refine event_settled_to hs ?_ (by simp) (by simp) (by simp)
  simp [answerEnds, hslot, hsent, judge, htake]

theorem exec_characterGap_ignored (hsent : sl.sent = true) (htake : sl.take = false) :
    exec .localCharacterGap s = .next s := by
  refine event_unchanged hs ?_
  simp [characterGap, hslot, hsent, judge, htake]

variable (htake : sl.take = true)
include htake

omit hs in
theorem judge_of_take (ans : Answer) : judge sl ans s = readyCheck (takeAnswer sl ans (s.answered sl)) := by
  rw [judge, if_pos htake, answerTaken_eq hslot]

theorem exec_localAnswer_finish (hsent : sl.sent = true) (ans : LocalAnswer) : exec (.localAnswer ans) s =
    .next (finish (endSlot (readyCheck (takeAnswer sl (judgeAnswer sl.slotId ans) (s.answered sl))))) := by
  refine event_finish_to hs ?_
  rw [← judge_of_take hslot htake]
  simp [answerEnds, hslot, hsent]

variable (hmode : s.psq.mode ≠ .poweringUp .readers)
include hmode

omit hs in
theorem judge_outside_readers (ans : Answer) : judge sl ans s = takeAnswer sl ans (s.answered sl) := by
  rw [judge_of_take hslot htake]
  refine readyCheck_of_not_readers ?_
  simpa [State.answered] using hmode

theorem exec_localAnswer (hsent : sl.sent = true) (ans : LocalAnswer) : exec (.localAnswer ans) s =
    .next (endSlot (takeAnswer sl (judgeAnswer sl.slotId ans) (s.answered sl))) := by
  refine event_to hs ?_ (by simp [State.answered]) (by simp [State.answered])
  rw [← judge_outside_readers hslot htake hmode]
  simp [answerEnds, hslot, hsent]

theorem exec_characterGap (hsent : sl.sent = true) :
    exec .localCharacterGap s = .next (takeAnswer sl .bad (s.answered sl)) := by
  refine event_to hs ?_ (by simp [State.answered]) (by simp [State.answered])
  rw [← judge_outside_readers hslot htake hmode]
  simp [characterGap, hslot, hsent]

theorem exec_localNoAnswer {d : Nat} (hanswer : sl.answerBy = some d) : exec .localNoAnswer s =
    .next (endSlot (takeAnswer sl .none ((s.expireAt d).answered sl))) := by
  refine event_to hs ?_ (by simp [State.answered, State.expireAt]) (by simp [State.answered, State.expireAt])
  rw [← judge_outside_readers (s := s.expireAt d) hslot htake hmode]
  simp only [noAnswer, hslot, hanswer]

theorem exec_slotLimit : exec .slotLimit s =
    .next (endSlot (takeAnswer sl .bad ((s.expireAt sl.limit).answered sl))) := by
  refine event_to hs ?_ (by simp [State.answered, State.expireAt]) (by simp [State.answered, State.expireAt])
  rw [← judge_outside_readers (s := s.expireAt sl.limit) hslot htake hmode]
  simp only [slotExpires, hslot]

end

end Sys2Proof.Machine
end


section

/-! ## What a display shows, and what its answer proves (O43) -/

namespace Sys2Proof.Machine

open Sys2Proof

/-! ### The content of a display -/

/-- The indicator byte of a sale's figures. -/
theorem indicators_figures (level : Level) : indicators (level == .l2) false false false =
    (if level = .l2 then 0x01 else 0x00) := by
  cases level <;> rfl

theorem indicators_previous (level : Level) : indicators (level == .l2) true false false =
    (if level = .l2 then 0x03 else 0x02) := by
  cases level <;> rfl

section
variable {s : State} {sd : Side}

theorem displayContent_test (hmode : s.psq.mode = .poweringUp (.displays true)) :
    displayContent s (.sale sd) = List.replicate 17 0x8C ++ [0x0F] ∧
    displayContent s (.panel sd) = List.replicate 20 0x8C := by
  simp only [displayContent, hmode]
  exact ⟨rfl, rfl⟩

theorem displayContent_blank {st : Stage} (hmode : s.psq.mode = .poweringUp st) (hst : st ≠ .displays true) :
    displayContent s (.sale sd) = List.replicate 17 0x0A ++ [0] ∧
    displayContent s (.panel sd) = List.replicate 20 0x0A := by
  cases st with
  | displays test =>
    obtain rfl : test = false := by
      rw [← Bool.not_eq_true]
      rintro rfl
      exact hst rfl
    simp only [displayContent, hmode]
    exact ⟨rfl, rfl⟩
  | load | apply | supplies | readers | wait =>
    simp only [displayContent, hmode]
    exact ⟨rfl, rfl⟩

theorem salePrevious_of_record {r : SaleRecord} (hrecord : newestRecord s.sru.journal sd = some r)
    (hscale : r.scale = s.cfg.scale) :
    salePrevious s sd = figureField 6 r.scale.da r.amount ++ figureField 6 r.scale.dv r.volume ++
      figureField 5 r.scale.dp r.price ++ [if r.level = .l2 then 0x03 else 0x02] := by
  simp only [salePrevious, hrecord]
  rw [if_pos hscale, saleFigures, saleContent, indicators_previous]

theorem salePrevious_of_none (hnone : ∀ r, newestRecord s.sru.journal sd = some r → r.scale ≠ s.cfg.scale) :
    salePrevious s sd = figureField 6 s.cfg.scale.da 0 ++ figureField 6 s.cfg.scale.dv 0 ++
      List.replicate 5 0x0A ++ [0] := by
  unfold salePrevious
  split
  next r hrecord =>
    rw [if_neg (hnone r hrecord)]
    rfl
  next => rfl

variable (hmode : s.psq.mode = .run)
include hmode

theorem displayContent_sale : displayContent s (.sale sd) = saleRunContent s sd := by
  simp only [displayContent, hmode]

theorem displayContent_panel : displayContent s (.panel sd) = panelBytes s.cfg.scale (s.lbc.panels.get sd) := by
  simp only [displayContent, hmode]

theorem displayContent_closed {r : ClosedReason} (hstate : s.sideState sd = .closed r) :
    displayContent s (.sale sd) =
      List.replicate 6 0x0B ++ figureField 6 0 r.num ++ List.replicate 5 0x0A ++ [0x08] := by
  rw [displayContent_sale hmode]
  simp only [saleRunContent, hstate]
  rfl

theorem displayContent_waiting
    (hstate : s.sideState sd = .idle ∨ s.sideState sd = .calling ∨ (∃ a, s.sideState sd = .authorized a)) :
    displayContent s (.sale sd) = salePrevious s sd := by
  rw [displayContent_sale hmode]
  rcases hstate with h | h | ⟨a, h⟩ <;> simp only [saleRunContent, h]

section
variable {d : Nat} {ctx : Sale} (hstate : s.sideState sd = .sale (.starting d) ctx)
include hstate

/-- The first half of the zero time shows the test content. -/
theorem displayContent_first_half (hhalf : 2 * (s.now - ctx.figures.start) < ctx.zeroTime) :
    displayContent s (.sale sd) = List.replicate 17 0x8C ++ [0x0F] ∧ zeroSlot s (.sale sd) = false := by
  have hfirst : firstHalf s ctx = true := decide_eq_true hhalf
  rw [displayContent_sale hmode]
  simp only [saleRunContent, zeroSlot, zeroContentDue, hstate, hmode, hfirst]
  exact ⟨rfl, rfl⟩

theorem displayContent_second_half (hhalf : ctx.zeroTime ≤ 2 * (s.now - ctx.figures.start)) :
    displayContent s (.sale sd) =
      figureField 6 ctx.figures.scale.da 0 ++ figureField 6 ctx.figures.scale.dv 0 ++
        figureField 5 ctx.figures.scale.dp ctx.latch.price ++ [if ctx.latch.level = .l2 then 0x01 else 0x00] ∧
    zeroSlot s (.sale sd) = true := by
  have hfirst : firstHalf s ctx = false := decide_eq_false (by omega)
  rw [displayContent_sale hmode, ← indicators_figures]
  simp only [saleRunContent, zeroSlot, zeroContentDue, hstate, hmode, hfirst]
  exact ⟨rfl, rfl⟩

end

/-- From FUELLING on a sale shows its figures. -/
theorem displayContent_figures {p : Phase} {ctx : Sale} (hstate : s.sideState sd = .sale p ctx)
    (hp : ∀ d, p ≠ .starting d) :
    displayContent s (.sale sd) =
      figureField 6 ctx.figures.scale.da ctx.figures.amount ++ figureField 6 ctx.figures.scale.dv ctx.figures.volume ++
        figureField 5 ctx.figures.scale.dp ctx.latch.price ++ [if ctx.latch.level = .l2 then 0x01 else 0x00] ∧
    zeroSlot s (.sale sd) = false := by
  rw [displayContent_sale hmode, ← indicators_figures]
  cases p with
  | starting d => exact absurd rfl (hp d)
  | fuelling | slowing | suspended | stopped =>
    simp only [saleRunContent, zeroSlot, zeroContentDue, hstate, hmode]
    exact ⟨rfl, trivial⟩

end

/-! ### A display's answer -/

/-- A good echo has come: the module is PRESENT and its loss timer starts afresh. -/
def State.echoed (s : State) (m : DisplayModule) : State :=
  s.withDisplayModule m ⟨true, some (s.now + s.cfg.timers.loss)⟩

section
variable {s : State} {sl : Slot} {m : DisplayModule}

theorem takeEcho_bad {ans : Answer} (h : ans ≠ .good (0x90 :: be 2 sl.check.toNat)) : takeEcho m sl ans s = s := by
  have hecho : goodEcho sl ans = false := by
    rw [← Bool.not_eq_true, goodEcho, beq_iff_eq]
    exact h
  simp [takeEcho, hecho]

theorem takeEcho_good : takeEcho m sl (.good (0x90 :: be 2 sl.check.toNat)) s =
    if sl.zero then markZeroVerified m.side (s.echoed m) else s.echoed m := by
  have hecho : goodEcho sl (.good (0x90 :: be 2 sl.check.toNat)) = true := by
    rw [goodEcho, beq_iff_eq]
    rfl
  exact if_pos hecho

theorem markZeroVerified_of_starting {sd : Side} {d : Nat} {ctx : Sale}
    (hstate : s.sideState sd = .sale (.starting d) ctx) :
    markZeroVerified sd s = s.withSideState sd (.sale (.starting d) { ctx with zeroVerified := true }) := by
  simp only [markZeroVerified, hstate]

theorem judgeAnswer_echo_length : (0x90 :: be 2 sl.check.toNat).length ≤ 100 := by
  rw [List.length_cons, be_length]
  omega

/-- A frame that is no good echo: its form is wrong, or it says something else. -/
theorem judgeAnswer_no_echo {address : Byte} {payload : List Byte} {check : Word16}
    (h : check ≠ crc16 (localBody address payload) ∨ 100 < payload.length ∨
      address ≠ (sl.slotId.address ||| 0x80) ∨ payload ≠ 0x90 :: be 2 sl.check.toNat) :
    judgeAnswer sl.slotId (.frame address payload check) ≠ .good (0x90 :: be 2 sl.check.toNat) := by
  rw [judgeAnswer]
  split
  next hform =>
    obtain ⟨hlen, hcheck, haddress⟩ := hform
    rintro ⟨rfl⟩
    rcases h with h | h | h | h
    · exact h hcheck
    · omega
    · exact h haddress
    · exact h rfl
  next => simp

theorem takeAnswer_display (hid : sl.slotId = .display m) (ans : Answer) (u : State) :
    takeAnswer sl ans u = takeEcho m sl ans u := by
  simp only [takeAnswer, hid]

end

/-! ### A display's slot in RUN -/

/-- The answer that proves a display's content. -/
def Slot.echo (sl : Slot) : LocalAnswer :=
  .frame (sl.slotId.address ||| 0x80) (0x90 :: be 2 sl.check.toNat)
    (crc16 ((sl.slotId.address ||| 0x80) :: 3 :: 0x90 :: be 2 sl.check.toNat))

section
variable {s : State} {sl : Slot} {m : DisplayModule} (hs : s.Live) (hmode : s.psq.mode = .run)
  (hslot : s.lbc.slot = some sl) (hid : sl.slotId = .display m) (htake : sl.take = true)

theorem judgeAnswer_echo : judgeAnswer sl.slotId sl.echo = .good (0x90 :: be 2 sl.check.toNat) :=
  judgeAnswer_good judgeAnswer_echo_length

include hid in
theorem takeAnswer_failed {ans : Answer} (hans : ans ≠ .good (0x90 :: be 2 sl.check.toNat)) (u : State) :
    takeAnswer sl ans u = u :=
  (takeAnswer_display hid ans u).trans (takeEcho_bad hans)

include hs hmode hslot hid htake

theorem exec_echo (hsent : sl.sent = true) : exec (.localAnswer sl.echo) s = .next (endSlot
    (if sl.zero then markZeroVerified m.side ((s.answered sl).echoed m) else (s.answered sl).echoed m)) := by
  rw [exec_localAnswer hs hslot htake (by simp [hmode]) hsent, judgeAnswer_echo, takeAnswer_display hid, takeEcho_good]

theorem exec_echo_plain (hsent : sl.sent = true) (hzero : sl.zero = false) :
    exec (.localAnswer sl.echo) s = .next (endSlot ((s.answered sl).echoed m)) := by
  rw [exec_echo hs hmode hslot hid htake hsent, hzero]
  rfl

theorem exec_echo_zero (hsent : sl.sent = true) (hzero : sl.zero = true) {d : Nat} {ctx : Sale}
    (hstate : s.sideState m.side = .sale (.starting d) ctx) :
    exec (.localAnswer sl.echo) s = .next (endSlot (((s.answered sl).echoed m).withSideState m.side
      (.sale (.starting d) { ctx with zeroVerified := true }))) := by
  rw [exec_echo hs hmode hslot hid htake hsent, if_pos hzero,
    markZeroVerified_of_starting (s := (s.answered sl).echoed m) hstate]

theorem exec_no_echo (hsent : sl.sent = true) {ans : LocalAnswer}
    (h : judgeAnswer sl.slotId ans ≠ .good (0x90 :: be 2 sl.check.toNat)) :
    exec (.localAnswer ans) s = .next (endSlot (s.answered sl)) := by
  rw [exec_localAnswer hs hslot htake (by simp [hmode]) hsent, takeAnswer_failed hid h]

theorem exec_display_gap (hsent : sl.sent = true) : exec .localCharacterGap s = .next (s.answered sl) := by
  rw [exec_characterGap hs hslot htake (by simp [hmode]) hsent, takeAnswer_failed hid (by simp)]

theorem exec_display_no_answer {d : Nat} (hanswer : sl.answerBy = some d) :
    exec .localNoAnswer s = .next (endSlot ((s.expireAt d).answered sl)) := by
  rw [exec_localNoAnswer hs hslot htake (by simp [hmode]) hanswer, takeAnswer_failed hid (by simp)]

theorem exec_display_limit : exec .slotLimit s = .next (endSlot ((s.expireAt sl.limit).answered sl)) := by
  rw [exec_slotLimit hs hslot htake (by simp [hmode]), takeAnswer_failed hid (by simp)]

end

/-- Settles O43: the content by mode and side state, then the slot by how its answer is judged. -/
theorem onlyAGoodEchoProvesADisplay : Obligations.OnlyAGoodEchoProvesADisplay := by
  refine ⟨fun s m => rfl, ?next, fun s sd => ⟨displayContent_test, fun st => displayContent_blank,
    fun hmode => ?run⟩, ?slot⟩
  case next =>
    intro s sl hslot
    simp only [endSlot, hslot]
    rcases sl.slotId with (_ | _) | _ <;> rename_i sd <;> cases sd <;> rfl
  case run =>
    refine ⟨displayContent_panel hmode, fun r => displayContent_closed hmode, fun hstate => ?_, fun d ctx hstate =>
      ⟨displayContent_first_half hmode hstate, displayContent_second_half hmode hstate⟩,
      fun p ctx => displayContent_figures hmode⟩
    rw [displayContent_waiting hmode hstate]
    exact ⟨fun r => salePrevious_of_record, salePrevious_of_none⟩
  case slot =>
    intro s sl m hs hmode hslot hid
    refine ⟨exec_localFrameSent hs hslot, fun hsent htake => ⟨exec_echo_plain hs hmode hslot hid htake hsent,
      fun hzero d ctx => exec_echo_zero hs hmode hslot hid htake hsent hzero,
      fun address payload check h => exec_no_echo hs hmode hslot hid htake hsent (judgeAnswer_no_echo h),
      exec_no_echo hs hmode hslot hid htake hsent (by simp [judgeAnswer]),
      exec_display_gap hs hmode hslot hid htake hsent, fun d => exec_display_no_answer hs hmode hslot hid htake,
      exec_display_limit hs hmode hslot hid htake⟩⟩

end Sys2Proof.Machine
end


section

/-! ## The slot of a reader (O44) -/

namespace Sys2Proof.Machine

open Sys2Proof

theorem State.withReader_self (s : State) (sd : Side) : s.withReader sd (s.reader sd) = s := by
  cases sd <;> rfl

@[simp] theorem State.withReader_withReader (s : State) (sd : Side) (r r' : ReaderRec) :
    (s.withReader sd r).withReader sd r' = s.withReader sd r' := by
  cases sd <;> rfl

/-! ### What the slot sends -/

/-- The slot after a reader's. -/
def skippedSlot (sd : Side) (s : State) : State :=
  beginSlot (match sd with
    | .a => .reader .b
    | .b => .display (.sale .a)) s

/-- The reader's slot sends a payload; the reader's record is the given one. -/
def State.sends (s : State) (sd : Side) (payload : List Byte) (r : ReaderRec) : State :=
  readerSlot sd payload (s.withReader sd r)

section
variable {s : State} {sd : Side}

theorem beginSlot_reader : beginSlot (.reader sd) s = (beginReaderSlot? sd s).getD (skippedSlot sd s) := by
  cases sd <;> rfl

theorem beginSlot_of_skip (h : slotChoice s sd = .skip) : beginSlot (.reader sd) s = skippedSlot sd s := by
  rw [beginSlot_reader]
  simp only [beginReaderSlot?, h]
  rfl

theorem beginSlot_of_poll (h : slotChoice s sd = .poll) :
    beginSlot (.reader sd) s = s.sends sd [0x02] (s.reader sd) := by
  rw [beginSlot_reader, State.sends, State.withReader_self]
  simp only [beginReaderSlot?, h]
  rfl

theorem beginSlot_of_down {payload : List Byte} {rest : List (List Byte)} (h : slotChoice s sd = .down payload rest) :
    beginSlot (.reader sd) s = s.sends sd payload { s.reader sd with down := rest } := by
  rw [beginSlot_reader]
  simp only [beginReaderSlot?, h]
  rfl

theorem beginSlot_of_figures (h : slotChoice s sd = .figures) : beginSlot (.reader sd) s =
    s.sends sd (figuresPayload s sd) { s.reader sd with lastFigures := some s.now } := by
  rw [beginSlot_reader]
  simp only [beginReaderSlot?, h]
  rfl

/-! ### What the slot is for -/

theorem slotChoice_skip (h : (∃ q, (s.reader sd).state = .off q) ∨ (s.reader sd).state = .quarantined ∨
    (s.reader sd).state = .tampered ∨ ((s.reader sd).state = .probing ∧ (s.reader sd).probe = none) ∨
    4 ≤ (s.reader sd).up.length) : slotChoice s sd = .skip := by
  rcases h with ⟨q, h⟩ | h | h | ⟨h, hprobe⟩ | hup
  · simp only [slotChoice, h]
  · simp only [slotChoice, h]
  · simp only [slotChoice, h]
  · simp [slotChoice, h, hprobe]
  · cases h : (s.reader sd).state <;> simp [slotChoice, h, hup]

variable (hup : (s.reader sd).up.length < 4)
include hup

theorem slotChoice_probing (h : (s.reader sd).state = .probing) (hprobe : (s.reader sd).probe ≠ none) :
    slotChoice s sd = .poll := by
  simp [slotChoice, h, hprobe, hup]

variable (h : (s.reader sd).state = .attached)
include h

theorem slotChoice_attached_down {payload : List Byte} {rest : List (List Byte)}
    (hdown : (s.reader sd).down = payload :: rest) : slotChoice s sd = .down payload rest := by
  simp [slotChoice, h, hup, hdown]

theorem slotChoice_attached_empty (hdown : (s.reader sd).down = []) :
    slotChoice s sd = if figuresDue s sd then .figures else .poll := by
  simp [slotChoice, h, hup, hdown]

end

section
variable {s : State} {sd : Side}

theorem figuresDue_of_sale {p : Phase} {ctx : Sale} (hstate : s.sideState sd = .sale p ctx)
    (hfeed : s.cfg.thresholds.feed.get sd = true)
    (hlast : ∀ last, (s.reader sd).lastFigures = some last → last + 500 ≤ s.now) : figuresDue s sd = true := by
  cases hfigures : (s.reader sd).lastFigures with
  | none => simp [figuresDue, hfeed, hstate, SideState.sale?, hfigures]
  | some last => simp [figuresDue, hfeed, hstate, SideState.sale?, hfigures, Config.figuresTime, hlast last hfigures]

theorem figuresDue_eq_false (h : s.cfg.thresholds.feed.get sd = false ∨ (s.sideState sd).sale? = none ∨
    (∃ last, (s.reader sd).lastFigures = some last ∧ s.now < last + 500)) : figuresDue s sd = false := by
  rcases h with h | h | ⟨last, hlast, hearly⟩
  · simp [figuresDue, h]
  · simp [figuresDue, h]
  · have hnotYet : ¬ last + 500 ≤ s.now := Nat.not_le.mpr hearly
    simp [figuresDue, hlast, Config.figuresTime, hnotYet]

theorem figuresPayload_of_sale {p : Phase} {ctx : Sale} (hstate : s.sideState sd = .sale p ctx) :
    figuresPayload s sd = 0x03 :: (byte1 (s.sideState sd).num ++ byte1 ctx.hose.num ++ be 3 ctx.figures.volume ++
      be 3 ctx.figures.amount ++ be 3 ctx.latch.price) := by
  have hsale : (s.sideState sd).sale? = some ctx := by rw [hstate]; rfl
  simp only [figuresPayload, liveMirror, hsale]
  rfl

end

end Sys2Proof.Machine
end


section

/-! ## What a reader's answer does (O44) -/

namespace Sys2Proof.Machine

open Sys2Proof

/-! ### An error of an ATTACHED reader -/

/-- One error more, over a given record of the reader: the counter below the threshold, or quarantine. -/
def State.errorCounted (s : State) (sd : Side) (x : ReaderRec) : State :=
  if (s.reader sd).err + 1 < s.cfg.thresholds.reader then s.withReader sd { x with err := (s.reader sd).err + 1 }
  else cutReader sd .quarantined (.running (s.now + 1000 * s.cfg.timers.hold)) true
    (s.withReader sd { x with err := (s.reader sd).err + 1 })

section
variable {s : State} {sd : Side}

theorem countReaderError_withReader {x : ReaderRec} (hx : x.err = (s.reader sd).err)
    (herr : (s.reader sd).err < s.cfg.thresholds.reader) :
    countReaderError sd (s.withReader sd x) = s.errorCounted sd x := by
  have hmin : min (x.err + 1) s.cfg.thresholds.reader = (s.reader sd).err + 1 := by omega
  have hcount : countReaderError sd (s.withReader sd x) =
      if (s.reader sd).err + 1 = s.cfg.thresholds.reader then
        enterQuarantined sd (s.withReader sd { x with err := (s.reader sd).err + 1 })
      else s.withReader sd { x with err := (s.reader sd).err + 1 } := by
    simp only [countReaderError, State.reader_withReader, State.withReader_withReader, State.withReader_cfg, hmin]
  rw [hcount, State.errorCounted]
  by_cases hlow : (s.reader sd).err + 1 < s.cfg.thresholds.reader
  · rw [if_neg (by omega), if_pos hlow]
  · rw [if_pos (by omega), if_neg hlow]
    rfl

theorem countReaderError_eq (herr : (s.reader sd).err < s.cfg.thresholds.reader) :
    countReaderError sd s = s.errorCounted sd (s.reader sd) := by
  have h := countReaderError_withReader (x := s.reader sd) rfl herr
  rwa [State.withReader_self] at h

theorem countReaderError_violation (herr : (s.reader sd).err < s.cfg.thresholds.reader) :
    countReaderError sd (countViolation sd s) = s.errorCounted sd
      { s.reader sd with violations := ((s.reader sd).violations + 1) % 4294967296 } :=
  countReaderError_withReader rfl herr

/-! ### A valid STATUS, and what is none -/

theorem statusOf_status (f : Byte) : statusOf [1, f] = some ⟨f.getLsbD 0, f.getLsbD 1⟩ := rfl

theorem statusOf_none {payload : List Byte} (h : ∀ f, payload ≠ [1, f]) : statusOf payload = none := by
  unfold statusOf
  split
  next code flags =>
    rw [if_neg]
    rintro rfl
    exact h flags rfl
  next => rfl

/-! ### A reader that is probed or cut off -/

section
variable (hstate : (s.reader sd).state = .probing)
include hstate

theorem takeReaderAnswer_probing (ans : Answer) : takeReaderAnswer sd ans s = takeProbeAnswer sd ans s := by
  simp only [takeReaderAnswer, hstate]

theorem takeProbeAnswer_no_status {payload : List Byte} (h : ∀ f, payload ≠ [1, f]) :
    takeReaderAnswer sd (.good payload) s = s := by
  rw [takeReaderAnswer_probing hstate]
  simp only [takeProbeAnswer, statusOf_none h]

theorem takeProbeAnswer_attaches {f : Byte} (htamper : f.getLsbD 1 = true) (halive : f.getLsbD 0 = true) :
    takeReaderAnswer sd (.good [1, f]) s = s.withReader sd { s.reader sd with
      state := .attached, probe := none, err := 0, lastFigures := none } := by
  rw [takeReaderAnswer_probing hstate]
  simp only [takeProbeAnswer, statusOf_status, htamper, halive]
  rfl

theorem takeProbeAnswer_tampers {f : Byte} (htamper : f.getLsbD 1 = false) :
    takeReaderAnswer sd (.good [1, f]) s = cutReader sd .tampered .stopped true s := by
  have hlive : (s.reader sd).state ≠ .tampered := by simp [hstate]
  rw [takeReaderAnswer_probing hstate]
  simp only [takeProbeAnswer, statusOf_status, htamper]
  exact if_neg hlive

theorem takeProbeAnswer_not_alive {f : Byte} (htamper : f.getLsbD 1 = true) (halive : f.getLsbD 0 = false) :
    takeReaderAnswer sd (.good [1, f]) s = s := by
  rw [takeReaderAnswer_probing hstate]
  simp only [takeProbeAnswer, statusOf_status, htamper, halive]
  rfl

end

theorem takeReaderAnswer_of_cut (h : (s.reader sd).state.cut = true) (ans : Answer) :
    takeReaderAnswer sd ans s = s := by
  cases hstate : (s.reader sd).state with
  | off | quarantined | tampered => simp only [takeReaderAnswer, hstate]
  | probing | attached =>
    rw [hstate] at h
    cases h

/-! ### An ATTACHED reader -/

section
variable (hstate : (s.reader sd).state = .attached)
include hstate

theorem takeReaderAnswer_attached (ans : Answer) : takeReaderAnswer sd ans s = takeAttachedAnswer sd ans s := by
  simp only [takeReaderAnswer, hstate]

theorem takeReaderAnswer_neutral {payload : List Byte} (h : neutralAnswer payload = true) :
    takeReaderAnswer sd (.good payload) s = s := by
  rw [takeReaderAnswer_attached hstate, takeAttachedAnswer, if_pos h]

variable {code : Byte} {rest : List Byte} (hcode : code :: rest ≠ [0])
include hcode

theorem takeReaderAnswer_delivered :
    takeReaderAnswer sd (.good (code :: rest)) s = deliverReaderFrame sd (code :: rest) s := by
  have hneutral : neutralAnswer (code :: rest) = false := by
    rw [← Bool.not_eq_true]
    simpa [neutralAnswer, codeNothing] using hcode
  rw [takeReaderAnswer_attached hstate, takeAttachedAnswer, if_neg (by simp [hneutral])]

theorem takeReaderAnswer_no_row (herr : (s.reader sd).err < s.cfg.thresholds.reader)
    (hrow : s.cfg.routes.find? (fun x => x.matchesCode (.reader sd) code.toNat) = none) :
    takeReaderAnswer sd (.good (code :: rest)) s = s.errorCounted sd
      { s.reader sd with violations := ((s.reader sd).violations + 1) % 4294967296 } := by
  have hclass : classifyFrame s.cfg.routes (.reader sd) (code :: rest) = .noRow := by
    simp only [classifyFrame, List.headD_cons, hrow]
  rw [takeReaderAnswer_delivered hstate hcode]
  simp only [deliverReaderFrame, hclass]
  exact countReaderError_violation herr

section
variable {row : RouteRow} (hrow : s.cfg.routes.find? (fun x => x.matchesCode (.reader sd) code.toNat) = some row)
include hrow

theorem takeReaderAnswer_too_long (herr : (s.reader sd).err < s.cfg.thresholds.reader)
    (hlong : row.maxLen < rest.length + 1) :
    takeReaderAnswer sd (.good (code :: rest)) s = s.errorCounted sd (s.reader sd) := by
  have hclass : classifyFrame s.cfg.routes (.reader sd) (code :: rest) = .tooLong := by
    simp only [classifyFrame, List.headD_cons, hrow]
    exact if_pos hlong
  rw [takeReaderAnswer_delivered hstate hcode]
  simp only [deliverReaderFrame, hclass]
  exact countReaderError_eq herr

variable (hfits : rest.length + 1 ≤ row.maxLen)
include hfits

omit hstate hcode in
theorem classifyFrame_act {action : RouteAction} (haction : row.action = action) :
    classifyFrame s.cfg.routes (.reader sd) (code :: rest) = .act action := by
  simp only [classifyFrame, List.headD_cons, hrow]
  exact (if_neg (Nat.not_lt.mpr hfits)).trans (congrArg _ haction)

theorem takeReaderAnswer_forward (haction : row.action = .forward) :
    takeReaderAnswer sd (.good (code :: rest)) s = s.withReader sd { s.reader sd with
      err := (s.reader sd).err - 1, up := (s.reader sd).up ++ [code :: rest] } := by
  rw [takeReaderAnswer_delivered hstate hcode]
  simp only [deliverReaderFrame, classifyFrame_act hrow hfits haction, countReaderGood, State.reader_withReader,
    State.withReader_withReader]

theorem takeReaderAnswer_drop (haction : row.action = .drop) :
    takeReaderAnswer sd (.good (code :: rest)) s = s.withReader sd { s.reader sd with
      drops := ((s.reader sd).drops + 1) % 4294967296 } := by
  rw [takeReaderAnswer_delivered hstate hcode]
  simp only [deliverReaderFrame, classifyFrame_act hrow hfits haction]
  rfl

theorem takeReaderAnswer_violation (haction : row.action = .violation)
    (herr : (s.reader sd).err < s.cfg.thresholds.reader) :
    takeReaderAnswer sd (.good (code :: rest)) s = s.errorCounted sd
      { s.reader sd with violations := ((s.reader sd).violations + 1) % 4294967296 } := by
  rw [takeReaderAnswer_delivered hstate hcode]
  simp only [deliverReaderFrame, classifyFrame_act hrow hfits haction]
  exact countReaderError_violation herr

section
variable (haction : row.action = .supervisor)
include haction

theorem takeReaderAnswer_supervised :
    takeReaderAnswer sd (.good (code :: rest)) s = supervise sd (code :: rest) (countReaderGood sd s) := by
  rw [takeReaderAnswer_delivered hstate hcode]
  simp only [deliverReaderFrame, classifyFrame_act hrow hfits haction]

theorem takeReaderAnswer_no_status (h : code ≠ 1 ∨ rest.length ≠ 1) :
    takeReaderAnswer sd (.good (code :: rest)) s = s.withReader sd { s.reader sd with
      err := (s.reader sd).err - 1, drops := ((s.reader sd).drops + 1) % 4294967296 } := by
  have hstatus : statusOf (code :: rest) = none := by
    refine statusOf_none fun f hf => ?_
    obtain ⟨rfl, rfl⟩ := List.cons.inj hf
    simp at h
  rw [takeReaderAnswer_supervised hstate hcode hrow hfits haction]
  simp only [supervise, hstatus, countDrop, countReaderGood, State.reader_withReader, State.withReader_withReader]
  rfl

end

end

end

/-! ### A STATUS under supervision -/

section
variable {f : Byte}

theorem supervise_tampers (hstate : (s.reader sd).state ≠ .tampered) (htamper : f.getLsbD 1 = false) :
    supervise sd [1, f] s = cutReader sd .tampered .stopped true s := by
  simp only [supervise, statusOf_status, htamper]
  exact if_neg hstate

theorem supervise_not_alive (htamper : f.getLsbD 1 = true) (halive : f.getLsbD 0 = false) :
    supervise sd [1, f] s = cutReader sd (.off .absent) .stopped true s := by
  simp only [supervise, statusOf_status, htamper, halive]
  rfl

theorem supervise_fine (htamper : f.getLsbD 1 = true) (halive : f.getLsbD 0 = true) : supervise sd [1, f] s = s := by
  simp only [supervise, statusOf_status, htamper, halive]
  rfl

end

end

theorem takeAnswer_reader {sl : Slot} {sd : Side} (hid : sl.slotId = .reader sd) (ans : Answer) (u : State) :
    takeAnswer sl ans u = takeReaderAnswer sd ans u := by
  simp only [takeAnswer, hid]

/-! ### A reader's slot in progress -/

section
variable {s : State} {sl : Slot} {sd : Side} (hs : s.Live) (hslot : s.lbc.slot = some sl)
  (hid : sl.slotId = .reader sd) (htake : sl.take = true)
include hs hslot hid htake

/-- In READERS an answer can end the stage. -/
theorem exec_reader_answer_finish (hsent : sl.sent = true) {ans : LocalAnswer} {a : Answer}
    (h : judgeAnswer sl.slotId ans = a) : exec (.localAnswer ans) s =
      .next (finish (endSlot (readyCheck (takeReaderAnswer sd a (s.answered sl))))) := by
  rw [exec_localAnswer_finish hs hslot htake hsent, h, takeAnswer_reader hid]

variable (hmode : s.psq.mode ≠ .poweringUp .readers)
include hmode

theorem exec_reader_answer (hsent : sl.sent = true) {ans : LocalAnswer} {a : Answer}
    (h : judgeAnswer sl.slotId ans = a) :
    exec (.localAnswer ans) s = .next (endSlot (takeReaderAnswer sd a (s.answered sl))) := by
  rw [exec_localAnswer hs hslot htake hmode hsent, h, takeAnswer_reader hid]

theorem exec_reader_gap (hsent : sl.sent = true) :
    exec .localCharacterGap s = .next (takeReaderAnswer sd .bad (s.answered sl)) := by
  rw [exec_characterGap hs hslot htake hmode hsent, takeAnswer_reader hid]

theorem exec_reader_no_answer {d : Nat} (hanswer : sl.answerBy = some d) :
    exec .localNoAnswer s = .next (endSlot (takeReaderAnswer sd .none ((s.expireAt d).answered sl))) := by
  rw [exec_localNoAnswer hs hslot htake hmode hanswer, takeAnswer_reader hid]

theorem exec_reader_limit :
    exec .slotLimit s = .next (endSlot (takeReaderAnswer sd .bad ((s.expireAt sl.limit).answered sl))) := by
  rw [exec_slotLimit hs hslot htake hmode, takeAnswer_reader hid]

end

/-- Settles O44: the slot's choice, then the judged answer, then what it does by the reader's state and its route. -/
theorem readerAnswersAreCounted : Obligations.ReaderAnswersAreCounted := by
  refine ⟨fun s sd => ⟨?skip, fun hup => ⟨?probing, fun hattached => ⟨?down, fun hdown => ⟨?figures, ?poll⟩⟩⟩⟩,
    ?slot, fun s sd => ⟨?attached, ?probed, takeReaderAnswer_of_cut⟩⟩
  case skip => exact fun h => beginSlot_of_skip (slotChoice_skip h)
  case probing => exact fun h hprobe => beginSlot_of_poll (slotChoice_probing hup h hprobe)
  case down => exact fun payload rest hdown => beginSlot_of_down (slotChoice_attached_down hup hattached hdown)
  case figures =>
    intro p ctx hstate hfeed hlast
    have hchoice := slotChoice_attached_empty hup hattached hdown
    rw [if_pos (figuresDue_of_sale hstate hfeed hlast)] at hchoice
    rw [← figuresPayload_of_sale hstate]
    exact beginSlot_of_figures hchoice
  case poll =>
    intro h
    have hchoice := slotChoice_attached_empty hup hattached hdown
    rw [figuresDue_eq_false h] at hchoice
    exact beginSlot_of_poll hchoice
  case slot =>
    intro s sl sd hs hslot hid
    exact ⟨fun hsent htake hmode =>
      ⟨fun payload hlen => exec_reader_answer hs hslot hid htake hmode hsent (judgeAnswer_good hlen),
      fun address payload check h => exec_reader_answer hs hslot hid htake hmode hsent (judgeAnswer_bad h),
      exec_reader_answer hs hslot hid htake hmode hsent rfl, exec_reader_gap hs hslot hid htake hmode hsent,
      fun d => exec_reader_no_answer hs hslot hid htake hmode, exec_reader_limit hs hslot hid htake hmode⟩,
      fun hsent htake _ payload hlen => exec_reader_answer_finish hs hslot hid htake hsent (judgeAnswer_good hlen),
      fun hsent htake =>
      ⟨exec_localAnswer_ignored hs hslot hsent htake, exec_characterGap_ignored hs hslot hsent htake⟩⟩
  case attached =>
    intro hstate herr
    refine ⟨?_, ?_, takeReaderAnswer_neutral hstate rfl, takeReaderAnswer_neutral hstate rfl,
      fun code rest hcode => ⟨takeReaderAnswer_no_row hstate hcode herr, fun row hrow =>
        ⟨takeReaderAnswer_too_long hstate hcode hrow herr, fun hfits =>
        ⟨takeReaderAnswer_forward hstate hcode hrow hfits, takeReaderAnswer_drop hstate hcode hrow hfits,
          fun haction => takeReaderAnswer_violation hstate hcode hrow hfits haction herr, fun haction =>
          ⟨takeReaderAnswer_no_status hstate hcode hrow hfits haction, ?_⟩⟩⟩⟩⟩
    · rw [takeReaderAnswer_attached hstate]
      exact countReaderError_eq herr
    · rw [takeReaderAnswer_attached hstate]
      exact countReaderError_eq herr
    · rintro f rfl rfl
      have hstill : ((countReaderGood sd s).reader sd).state ≠ .tampered := by
        simp [countReaderGood, hstate]
      rw [takeReaderAnswer_supervised hstate hcode hrow hfits haction]
      exact ⟨supervise_tampers hstill, supervise_not_alive, supervise_fine⟩
  case probed =>
    intro hstate
    refine ⟨takeReaderAnswer_probing hstate .none, takeReaderAnswer_probing hstate .bad,
      fun payload => takeProbeAnswer_no_status hstate, fun f => ⟨takeProbeAnswer_attaches hstate,
      takeProbeAnswer_tampers hstate, takeProbeAnswer_not_alive hstate⟩⟩

end Sys2Proof.Machine
end
